-- ==== Sys2Proof/Word.lean ====
section
/-! DEFINITION. The words of the TJ4180: bytes, 32-bit values, counts and times, and timers. -/

namespace Sys2Proof

/-- One byte of a frame, a payload or a flash slot (R208). -/
abbrev Byte := BitVec 8

/-- A signed 32-bit value of a slot, a threshold or a measurement (R1, R208). -/
abbrev Value := BitVec 32

/-- A count of 0 to 4,294,967,295 (R38). -/
abbrev Count := BitVec 32

/-- An uptime in milliseconds; it wraps, and differences are taken modulo 2^32 (R201). -/
abbrev Time := BitVec 32

/-- A timer: stopped, or running with an expiry time. -/
abbrev Timer := Option Time

end Sys2Proof
end

