-- ==== Sys2Proof/Syntax.lean ====
section
/-! DEFINITION. The commands the TJ4180 takes: one constructor per row of spec/opcode_table.json,
with the operands of the row. The arguments of a request are the payload bytes of the request that
its port has taken (R193), so a request row names at most the port. -/

namespace Sys2Proof

/-- The three serial target ports (R189). -/
inductive Port
  | cluster | body | service
  deriving DecidableEq, Repr

/-- The two lamps that flash (R101). -/
inductive FlashingLamp
  | stop | caution
  deriving DecidableEq, Repr

/-- The raw levels of the input pins, high as true: SW0–SW31 and PI0–PI7 by bit number, IGN and the
RSTRUN strap (Table 4). -/
structure PinLevels where
  switches : BitVec 32
  pulses : BitVec 8
  ign : Bool
  rstrun : Bool
  deriving DecidableEq, Repr

/-- A conversion of each of the sender inputs AN0–AN7 (R28). -/
abbrev Conversions := Vector (BitVec 12) 8

/-- What stands at the input pins when the part starts: their raw levels, and the conversions of AN0–AN7 at the
first sample, which is taken in START (R28, R33, R203). -/
structure StartLevels where
  pins : PinLevels
  senders : Conversions
  deriving DecidableEq, Repr

/-- The commands, in the order of the table. -/
inductive Instr
  /-- POWER_ON: the supply rises with these levels at the pins (R203). -/
  | powerOn (levels : StartLevels)
  /-- PIN_RESET: RST_N falls with these levels at the pins (R203). -/
  | pinReset (levels : StartLevels)
  /-- IGNITION_CHANGE: the debounce count of IGN completes (R202). -/
  | ignitionChange
  /-- QUIET_TIMER_EXPIRY (R206). -/
  | quietTimerExpiry
  /-- CHIP_SELECT_FALL of a port (R190, R200). -/
  | chipSelectFall (p : Port)
  /-- CHIP_SELECT_RISE of a port, with the bytes clocked in; as many bytes were clocked out (R191). -/
  | chipSelectRise (p : Port) (bytesIn : List Byte)
  /-- READ_STATUS carried out for a port (R199). -/
  | readStatus (p : Port)
  /-- READ_NOTICES carried out for a port (R198). -/
  | readNotices (p : Port)
  /-- SET_NOTICE_MASK carried out for a port (R198). -/
  | setNoticeMask (p : Port)
  /-- READ_SIGNALS carried out for a port (R13). -/
  | readSignals (p : Port)
  /-- READ_WARNINGS carried out for a port (R99). -/
  | readWarnings (p : Port)
  /-- READ_DOORS carried out for a port (R130). -/
  | readDoors (p : Port)
  /-- READ_FAULT_SUMMARY carried out for a port (R149). -/
  | readFaultSummary (p : Port)
  /-- ACK_WARNING of the form RULE, on port C (R90). -/
  | ackWarningRule
  /-- ACK_WARNING of the form ALL_OF_CLASS, on port C (R90). -/
  | ackWarningAllOfClass
  /-- NET_FRAMES, on port B (R65). -/
  | netFrames
  /-- CHANNEL_CONTROL with action SOFT_GATE_ON (R55, R56). -/
  | softGateOn (p : Port)
  /-- CHANNEL_CONTROL with action SOFT_GATE_OFF (R55, R56). -/
  | softGateOff (p : Port)
  /-- CHANNEL_CONTROL with action SET_COUNT (R55, R56). -/
  | setCount (p : Port)
  /-- CHANNEL_CONTROL with action SET_UPPER (R49, R55, R56). -/
  | setUpper (p : Port)
  /-- READ_CHANNELS carried out for a port (R57). -/
  | readChannels (p : Port)
  /-- SERVICE_ENTER (R175). -/
  | serviceEnter
  /-- SERVICE_EXIT (R176). -/
  | serviceExit
  /-- SERVICE_TIMER_EXPIRY (R176). -/
  | serviceTimerExpiry
  /-- READOUT_OPEN (R178). -/
  | readoutOpen
  /-- READOUT_NEXT (R178). -/
  | readoutNext
  /-- LIVE_SUBSCRIBE (R179). -/
  | liveSubscribe
  /-- LIVE_FETCH (R180). -/
  | liveFetch
  /-- SUBSTITUTE (R181). -/
  | substitute
  /-- RELEASE_SUBSTITUTE (R181). -/
  | releaseSubstitute
  /-- OUTPUT_TEST with a lamp or chime target (R182). -/
  | outputTest
  /-- OUTPUT_TEST with target STOP (R182). -/
  | outputTestStop
  /-- TEST_TIMER_EXPIRY (R182). -/
  | testTimerExpiry
  /-- CLEAR_PREPARE (R184). -/
  | clearPrepare
  /-- CLEAR_CONFIRM (R184). -/
  | clearConfirm
  /-- WINDOW_TIMER_EXPIRY (R183). -/
  | windowTimerExpiry
  /-- CALIB_LOAD (R185). -/
  | calibLoad
  /-- CALIB_READ (R185). -/
  | calibRead
  /-- CALIB_COMMIT_PREPARE (R186). -/
  | calibCommitPrepare
  /-- CALIB_COMMIT_CONFIRM (R187). -/
  | calibCommitConfirm
  /-- ODOMETER_SET (R188). -/
  | odometerSet
  /-- SWITCH_DEBOUNCED_CHANGE of a switch input (R20, R23). -/
  | switchDebouncedChange (n : Fin 32)
  /-- REFRESH_TIMER_EXPIRY of a slot (R9). -/
  | refreshTimerExpiry (slot : Fin 96)
  /-- SENDER_SAMPLE of a sender input with the raw conversion (R28). -/
  | senderSample (n : Fin 8) (raw : BitVec 12)
  /-- PULSE_EDGE: a pulse input changes its level (R39). -/
  | pulseEdge (n : Fin 8)
  /-- MILLISECOND_TICK, with the raw switch levels and the IGN level of this millisecond (R20, R44, R201, R202). -/
  | millisecondTick (switches : BitVec 32) (ign : Bool)
  /-- RATE_WINDOW_EXPIRY of a channel (R47). -/
  | rateWindowExpiry (c : Fin 8)
  /-- HOLD_OFF_EXPIRY of a channel (R53). -/
  | holdOffExpiry (c : Fin 8)
  /-- RAISE_TIMER_EXPIRY of a rule (R80). -/
  | raiseTimerExpiry (r : Fin 48)
  /-- CLEAR_TIMER_EXPIRY of a rule (R81). -/
  | clearTimerExpiry (r : Fin 48)
  /-- RE_ANNOUNCE_TIMER_EXPIRY of a rule (R94). -/
  | reAnnounceTimerExpiry (r : Fin 48)
  /-- FLASH_TIMER_EXPIRY of a lamp (R101). -/
  | flashTimerExpiry (lamp : FlashingLamp)
  /-- CADENCE_TIMER_EXPIRY (R105). -/
  | cadenceTimerExpiry
  /-- FALLBACK_TIMER_EXPIRY (R108). -/
  | fallbackTimerExpiry
  /-- OPEN_LIMIT_EXPIRY of a door (R120). -/
  | openLimitExpiry (d : Fin 4)
  /-- SETTLE_TIMER_EXPIRY of a door (R120). -/
  | settleTimerExpiry (d : Fin 4)
  /-- CLOSE_LIMIT_EXPIRY of a door (R123). -/
  | closeLimitExpiry (d : Fin 4)
  /-- FLASH_JOB_TAKEN (R162). -/
  | flashJobTaken
  /-- FLASH_OPERATION_END with PASS (true) or FAIL (R153). -/
  | flashOperationEnd (pass : Bool)
  /-- BACKGROUND_ERASE_START (R168). -/
  | backgroundEraseStart
  /-- POWER_LOSS (R169). -/
  | powerLoss
  /-- RESET_RELEASE: RST_N rises (R201). -/
  | resetRelease
  deriving DecidableEq, Repr

end Sys2Proof
end

