-- ==== Sys2Proof/Config.lean ====
section
/-! DEFINITION. The free values: what the manual leaves open. None has a body, so nothing can be
proved of the value of any of them. Those that must differ from use to use are applied to the
counter `draws` of the state. -/

namespace Sys2Proof.Config

/-- Which of several deliveries without an order among them is taken next (R6, R23, R126, R187, R201). -/
opaque order : Nat → Nat

/-- What an abandoned or failed flash operation leaves (R153, R169): which of the outcomes the rules
allow, for the draw and the slot number given. -/
opaque flashOutcome : Nat → Nat → Nat

/-- The bytes that stand in a slot whose contents the manual leaves open (R153), for the draw, the
slot number and the position given. -/
opaque flashByte : Nat → Nat → Nat → Byte

/-- What the seven outputs drive while the supply is away (00_scope.md, section 5, remark). -/
opaque unpoweredDrive : Nat → BitVec 7

/-- The comparison byte of a RULES item whose qualifier is absent (Table 79: ignored). -/
opaque absentQualifierComparison : Byte

/-- The threshold of a RULES item whose qualifier is absent (Table 79: ignored). -/
opaque absentQualifierThreshold : Value

end Sys2Proof.Config
end

