-- ==== Sys2Proof/Machine/Calibration.lean ====
section
/-! DEFINITION. The calibration: its items by section (Table 61) and the factory default (R2, R3, R19,
R26, R37, R62, R72, R107, R112, R146, R175). Their byte layouts and the cross-item checks stand in
Layout.lean and Validation.lean. -/

namespace Sys2Proof.Machine

/-- The source kinds of a slot, in the order of Table 6. -/
inductive SourceKind
  | unused | switch | sender | channel | network | door | stopReq
  deriving DecidableEq, Repr

/-- The polarity of a switch input (R19). -/
inductive Polarity
  | activeHigh | activeLow
  deriving DecidableEq, Repr

/-- The debounce classes 5, 20, 50 and 200 ms (R19). -/
inductive DebounceClass
  | ms5 | ms20 | ms50 | ms200
  deriving DecidableEq, Repr

/-- The modes of a counter channel (Table 18). -/
inductive ChannelMode
  | off | total | rate | width | timer | follow
  deriving DecidableEq, Repr

/-- The edges a channel takes (Table 18). -/
inductive EdgeChoice
  | rising | falling | both
  deriving DecidableEq, Repr

/-- Whether the hardware gate permits while its switch is active or inactive (Table 18). -/
inductive GatePolarity
  | active | inactive
  deriving DecidableEq, Repr

/-- The rate windows 10, 100 and 1000 ms (Table 18). -/
inductive RateWindow
  | ms10 | ms100 | ms1000
  deriving DecidableEq, Repr

/-- The role of a channel (Table 18): NONE, ODOMETER or HOURS. -/
inductive Role
  | noRole | odometer | hours
  deriving DecidableEq, Repr

/-- The byte order of a network field (Table 23). -/
inductive ByteOrder
  | little | big
  deriving DecidableEq, Repr

/-- The comparisons of a warning rule (Table 28). -/
inductive Comparison
  | greater | less | equal | notEqual | notValid
  deriving DecidableEq, Repr

/-- The comparisons of a qualifier (Table 28). -/
inductive QualifierComparison
  | greater | less | equal | notEqual
  deriving DecidableEq, Repr

/-- The warning classes, from highest to lowest importance (Table 28). -/
inductive WarningClass
  | stop | caution | advise
  deriving DecidableEq, Repr

/-- The GENERAL item (Table 79). -/
structure GeneralItem where
  speedSlot : Option (Fin 96)
  brakeSlot : Option (Fin 96)
  freezeSlots : Vector (Option (Fin 96)) 4
  ackInput : Option (Fin 32)
  stopInputs : Vector (Option (Fin 32)) 4
  openLow : Value
  openHigh : Value
  stationary : Value
  agingLimit : BitVec 8
  deriving DecidableEq, Repr

/-- A SLOTS item: the binding of one slot (R2). -/
structure SlotItem where
  kind : SourceKind
  index : Option (Fin 32)
  deriving DecidableEq, Repr

/-- A SWITCHES item (R19). -/
structure SwitchItem where
  polarity : Polarity
  debounce : DebounceClass
  deriving DecidableEq, Repr

/-- One point of a sender curve (Table 14). -/
structure CurvePoint where
  raw : BitVec 12
  value : Value
  deriving DecidableEq, Repr

/-- A SENDERS item (Table 14). -/
structure SenderItem where
  filterLevel : Fin 4
  openThreshold : Option (BitVec 12)
  shortThreshold : Option (BitVec 12)
  pointCount : Fin 9
  points : Vector CurvePoint 8
  deriving DecidableEq, Repr

/-- A CHANNELS item (Table 18). -/
structure ChannelItem where
  mode : ChannelMode
  pulseInput : Fin 8
  edge : EdgeChoice
  hardwareGate : Option (Fin 32)
  gatePolarity : GatePolarity
  defaultSoftGate : Bool
  clearOnOpen : Bool
  upperSetPoint : Count
  rateWindow : RateWindow
  multiplier : BitVec 16
  divisor : Nat
  role : Role
  bodyControl : Bool
  deriving DecidableEq, Repr

/-- A FILTERS item: one entry of the Message Filter Table (Table 23). -/
structure FilterItem where
  enabled : Bool
  identifier : BitVec 29
  mask : BitVec 29
  extended : Bool
  startBit : Nat
  bitLength : Nat
  byteOrder : ByteOrder
  signed : Bool
  multiplier : BitVec 16
  divisor : Nat
  offset : Value
  targetSlot : Option (Fin 96)
  refreshTimeout : Nat
  deriving DecidableEq, Repr

/-- A qualifier of a warning rule (Table 28). -/
structure Qualifier where
  slot : Fin 96
  comparison : QualifierComparison
  threshold : Value
  deriving DecidableEq, Repr

/-- A RULES item (Table 28). The re-announce interval is in minutes, the delays in ms. -/
structure RuleItem where
  enabled : Bool
  signalSlot : Fin 96
  comparison : Comparison
  threshold : Value
  hysteresis : BitVec 16
  qualifier : Option Qualifier
  raiseDelay : Nat
  clearDelay : Nat
  cls : WarningClass
  latching : Bool
  faultCode : Option (BitVec 16)
  reAnnounce : Nat
  deriving DecidableEq, Repr

/-- A DOORS item (Table 41). The limits and the settle time are in ms. -/
structure DoorItem where
  present : Bool
  closedInput : Fin 32
  openInput : Option (Fin 32)
  edgeInput : Option (Fin 32)
  releaseInput : Option (Fin 32)
  lockedInput : Option (Fin 32)
  rampInput : Option (Fin 32)
  openLimit : Nat
  closeLimit : Nat
  reversalLimit : Nat
  settleTime : Nat
  deriving DecidableEq, Repr

/-- A complete calibration: the items of the eight sections of Table 61. -/
structure Calibration where
  general : GeneralItem
  slots : Vector SlotItem 96
  switches : Vector SwitchItem 32
  senders : Vector SenderItem 8
  channels : Vector ChannelItem 8
  filters : Vector FilterItem 32
  rules : Vector RuleItem 48
  doors : Vector DoorItem 4
  deriving DecidableEq, Repr

/-- The factory-default GENERAL item (R107, R146, R175; absent roles and inputs: log entry 14). -/
def factoryGeneral : GeneralItem where
  speedSlot := none
  brakeSlot := none
  freezeSlots := Vector.replicate 4 none
  ackInput := none
  stopInputs := Vector.replicate 4 none
  openLow := 20
  openHigh := 30
  stationary := 0
  agingLimit := 40

/-- The factory default binds no slot (R2). -/
def factorySlot : SlotItem where
  kind := .unused
  index := none

/-- Factory default of a switch input (R19). -/
def factorySwitch : SwitchItem where
  polarity := .activeHigh
  debounce := .ms20

/-- Factory default of a sender (R26): two points; the points not in use are zero (log entry 14). -/
def factorySender : SenderItem where
  filterLevel := 0
  openThreshold := none
  shortThreshold := none
  pointCount := 2
  points := (Vector.replicate 8 ⟨0, 0⟩).set 1 ⟨4095, 4095⟩

/-- Factory default of a channel (R37). -/
def factoryChannel : ChannelItem where
  mode := .off
  pulseInput := 0
  edge := .rising
  hardwareGate := none
  gatePolarity := .active
  defaultSoftGate := false
  clearOnOpen := false
  upperSetPoint := 0
  rateWindow := .ms100
  multiplier := 1
  divisor := 1
  role := .noRole
  bodyControl := false

/-- Factory default of a filter entry (R62). -/
def factoryFilter : FilterItem where
  enabled := false
  identifier := 0
  mask := 0
  extended := false
  startBit := 0
  bitLength := 8
  byteOrder := .little
  signed := false
  multiplier := 1
  divisor := 1
  offset := 0
  targetSlot := none
  refreshTimeout := 0

/-- Factory default of a rule (R72): enabled NO, every other field the first value of its range in
Table 28, the qualifier and fault code absent. DEDUCED, log entry 14: the first value listed for
latching is YES, and the first threshold is −2,147,483,648. -/
def factoryRule : RuleItem where
  enabled := false
  signalSlot := 0
  comparison := .greater
  threshold := 0x80000000#32
  hysteresis := 0
  qualifier := none
  raiseDelay := 0
  clearDelay := 0
  cls := .stop
  latching := true
  faultCode := none
  reAnnounce := 0

/-- Factory default of a door (R112). -/
def factoryDoor : DoorItem where
  present := false
  closedInput := 0
  openInput := none
  edgeInput := none
  releaseInput := none
  lockedInput := none
  rampInput := none
  openLimit := 500
  closeLimit := 500
  reversalLimit := 1
  settleTime := 200

/-- The factory-default calibration (R172). -/
def Calibration.factory : Calibration where
  general := factoryGeneral
  slots := Vector.replicate 96 factorySlot
  switches := Vector.replicate 32 factorySwitch
  senders := Vector.replicate 8 factorySender
  channels := Vector.replicate 8 factoryChannel
  filters := Vector.replicate 32 factoryFilter
  rules := Vector.replicate 48 factoryRule
  doors := Vector.replicate 4 factoryDoor

/-- The length of a debounce class in samples of one millisecond (R20). -/
def DebounceClass.ms : DebounceClass → Nat
  | .ms5 => 5
  | .ms20 => 20
  | .ms50 => 50
  | .ms200 => 200

/-- The length of a rate window in ms (Table 18). -/
def RateWindow.ms : RateWindow → Nat
  | .ms10 => 10
  | .ms100 => 100
  | .ms1000 => 1000

/-- The importance of a class as a number, smaller is higher (Table 28, R208). -/
def WarningClass.rank : WarningClass → Nat
  | .stop => 0
  | .caution => 1
  | .advise => 2

end Sys2Proof.Machine
end

