-- ==== Sys2Proof/Machine/State.lean ====
section
/-! DEFINITION. The state of the TJ4180: what each of its thirteen blocks holds, the flash array, the
pins and the queue of waiting commands, all as plain data, and the state right after reset. -/

namespace Sys2Proof.Machine

/-- The reasons for which a step stops the machine: none. Every refusal of a request is an answer
(R195) and every failure is a fault code in the Fault List (R137), so no command stops the part. -/
inductive Fault
  deriving DecidableEq, Repr

/-- Commands without a meaning. -/
inductive Refusal
  /-- Raised by `exec` for a command that has no meaning yet; stopping where the part goes on is safe. -/
  | notModelled (mnemonic : String)
  deriving DecidableEq, Repr

/-! ## Signal Table (chapter 1) -/

/-- The status a source delivered, or STALE set by the refresh timer (Table 7). -/
inductive LiveStatus
  | notAvailable | valid | stale | outOfRange
  deriving DecidableEq, Repr

/-- The visible statuses (Table 7), in the order of their codes (R208). -/
inductive Status
  | notAvailable | valid | stale | outOfRange | substituted
  deriving DecidableEq, Repr

/-- A slot record (Table 6) with its refresh timer (R9). -/
structure Slot where
  kind : SourceKind
  index : Option (Fin 32)
  liveValue : Value
  liveStatus : LiveStatus
  updateTime : Time
  refreshTimeout : Nat
  substitution : Option Value
  refreshTimer : Timer
  deriving DecidableEq, Repr

/-! ## Switch and sender inputs (chapter 2) -/

/-- The state of one switch input (R20). -/
structure SwitchState where
  active : Bool
  disagreement : Nat
  deriving DecidableEq, Repr

/-- What a sender last delivered to its slots (R32). -/
inductive Publication
  | valid (v : Value)
  | outOfRange
  deriving DecidableEq, Repr

/-- The state of one sender input (R28, R29, R32). -/
structure SenderState where
  filtered : Option (BitVec 12)
  outOfRange : Bool
  pendingTime : Option Time
  lastPublication : Option Publication
  deriving DecidableEq, Repr

/-! ## Counter channels (chapter 3) -/

/-- Where a one-shot WIDTH measurement stands (Table 19). -/
inductive WidthPhase
  | idle | waiting | measuring
  deriving DecidableEq, Repr

/-- The state of one channel (Table 19) and its publication state (R53). The count of a role channel
is the role count (R50), which `Ccu` holds; `count` takes no part in a role channel. -/
structure Channel where
  count : Count
  hold : Count
  result : Value
  softGate : Bool
  gateOpen : Bool
  setPoint : Count
  pendingSetPoint : Option Count
  phase : WidthPhase
  lastDelivery : Option Count
  holdOff : Timer
  window : Timer
  deriving DecidableEq, Repr

/-- A role count with its increments since the last save request (R50, R51, R61). -/
structure RoleCount where
  count : Count
  sinceSave : Nat
  deriving DecidableEq, Repr

/-- The Counter Channel Unit. -/
structure Ccu where
  channels : Vector Channel 8
  odometer : RoleCount
  hours : RoleCount
  deriving DecidableEq, Repr

/-! ## Warning Engine (chapter 5) -/

/-- The rule states (R74). -/
inductive RulePhase
  | disabled | idle | raising | active | clearing | latched | suppressed
  deriving DecidableEq, Repr

/-- The state of a warning rule (Table 29). -/
structure RuleState where
  phase : RulePhase
  comparison : Bool
  raiseTimer : Timer
  clearTimer : Timer
  confirmedTime : Option Time
  confirmedOdometer : Option Count
  faultOpen : Bool
  reAnnounceTimer : Timer
  deriving DecidableEq, Repr

/-- An entry of the Active Warning List: its rule and its acknowledged field. Class, phase, confirmed
time and confirmed odometer are those of the rule (R85). -/
structure WarningEntry where
  rule : Fin 48
  acknowledged : Bool
  deriving DecidableEq, Repr

/-- The Warning Engine: the rules' states, the Active Warning List, first entry first, and whether the table
event of this stay in RUN has been taken, after which alone rules are evaluated at visible changes (R96). -/
structure Wre where
  rules : Vector RuleState 48
  list : List WarningEntry
  tableTaken : Bool
  deriving DecidableEq, Repr

/-! ## Door Supervisor (chapter 7) -/

/-- The door states, in the order of their numbers (Table 45). -/
inductive DoorState
  | closedLocked | closed | opening | doorOpen | closing | reversing | released | fault
  deriving DecidableEq, Repr

/-- The fault reasons, in the order of their numbers (R124). -/
inductive DoorReason
  | switchConflict | openTimeout | closeTimeout | edgeRepeated
  deriving DecidableEq, Repr

/-- A door record (Table 42). -/
structure DoorRecord where
  state : DoorState
  reason : Option DoorReason
  reversals : Nat
  cycles : Count
  lastOpen : Count
  rampOut : Bool
  openStart : Option Time
  openLimit : Timer
  settle : Timer
  closeLimit : Timer
  deriving DecidableEq, Repr

/-- The Door Supervisor: four door records and the stop-request latch. -/
structure Drs where
  doors : Vector DoorRecord 4
  latch : Bool
  deriving DecidableEq, Repr

/-! ## Power Controller states, used by the Output Unit's copy (chapter 12) -/

/-- The power states (R201). -/
inductive PowerState
  | start | run | afterrun | sleep
  deriving DecidableEq, Repr

/-! ## Output Unit (chapter 6) -/

/-- The list summary of Table 31. -/
structure Summary where
  stopPresent : Bool
  stopUnack : Bool
  cautionPresent : Bool
  cautionUnack : Bool
  deriving DecidableEq, Repr

/-- The copy of a role slot: whether the role is configured, live value and live status (Table 36). -/
structure RoleCopy where
  configured : Bool
  value : Value
  status : LiveStatus
  deriving DecidableEq, Repr

/-- The lamp states of LAMP_STOP and LAMP_CAUTION (R101). -/
inductive LampMode
  | off | steady | flashing
  deriving DecidableEq, Repr

/-- A flashing lamp: its state, whether it is lit in its flash phase, and its flash timer (R101). -/
structure LampState where
  mode : LampMode
  lit : Bool
  timer : Timer
  deriving DecidableEq, Repr

/-- The chime claims, in order of priority (Table 37). -/
inductive Claim
  | test | stopAlarm | doorClosing | stopDing | cautionNew
  deriving DecidableEq, Repr

/-- The chime arbiter: granted claim, position in its pattern, cadence timer (R104, R105). -/
structure Chime where
  granted : Option Claim
  position : Nat
  cadence : Timer
  deriving DecidableEq, Repr

/-- The regimes of OPEN_ENABLE (R108). -/
inductive Regime
  | tracking | holding | following
  deriving DecidableEq, Repr

/-- The targets of an output test other than STOP (R110, R182). -/
inductive TestTarget
  | lampStop | lampCaution | lampDoor | lampStopReq | allLamps | chime
  deriving DecidableEq, Repr

/-- The seven output pins: true is lit, on or asserted (Table 4, Table 39). -/
structure Outputs where
  lampStop : Bool
  lampCaution : Bool
  lampDoor : Bool
  lampStopReq : Bool
  chime : Bool
  driveInhibit : Bool
  openEnable : Bool
  deriving DecidableEq, Repr

/-- The Output Unit: the copies of Table 36, the state of its lamps, chime and OPEN_ENABLE, and the
output pins. A door state copy of `none` is UNKNOWN. -/
structure Opu where
  summary : Summary
  latch : Bool
  doorStates : Vector (Option DoorState) 4
  ramps : Vector Bool 4
  present : Vector Bool 4
  speed : RoleCopy
  brake : RoleCopy
  openLow : Value
  openHigh : Value
  testTarget : Option TestTarget
  power : PowerState
  lampStop : LampState
  lampCaution : LampState
  chime : Chime
  openEnable : Bool
  regime : Regime
  fallback : Timer
  outputs : Outputs
  deriving DecidableEq, Repr

/-! ## Fault Memory (chapter 8) -/

/-- The source of a fault (Table 48). -/
inductive FaultSource
  | rule (n : Fin 48)
  | door (d : Fin 4)
  | sender (n : Fin 8)
  | store
  | calibration
  deriving DecidableEq, Repr

/-- One member of a freeze frame (Table 48). -/
structure FreezeMember where
  value : Value
  status : Status
  deriving DecidableEq, Repr

/-- An entry of the Fault List (Table 48); `active` false is STORED. -/
structure FaultEntry where
  code : BitVec 16
  source : FaultSource
  active : Bool
  occurrences : BitVec 8
  firstOdometer : Count
  lastOdometer : Count
  firstIgnition : BitVec 16
  lastIgnition : BitVec 16
  aging : BitVec 8
  freeze : Option (Vector FreezeMember 4)
  deriving DecidableEq, Repr

/-- A report to Fault Memory: an occurrence with its source, or an end (R138, R143). -/
inductive Report
  | occurrence (code : BitVec 16) (source : FaultSource)
  | ended (code : BitVec 16)
  deriving DecidableEq, Repr

/-- A member of the held table of START (R151). The source is absent while only ends are held. -/
structure HeldReport where
  code : BitVec 16
  source : Option FaultSource
  number : BitVec 8
  lastIsEnd : Bool
  deriving DecidableEq, Repr

/-- The Fault Memory: list, header, held table, and whether the replay has completed (R151). -/
structure Flm where
  list : List FaultEntry
  generation : BitVec 16
  overflow : Bool
  held : List HeldReport
  replayDone : Bool
  deriving DecidableEq, Repr

/-! ## Record Store (chapter 9) -/

/-- The three areas (Table 53). -/
inductive Area
  | calibration | counters | faults
  deriving DecidableEq, Repr

/-- A programmed flash slot: 60 content bytes and the check (R210). -/
structure FlashSlot where
  content : List Byte
  check : Byte
  deriving DecidableEq, Repr

/-- The flash array: programmed slots by slot address, block × 64 + slot, addresses strictly rising;
a slot that is not listed is erased (R153). -/
abbrev Flash := List (Nat × FlashSlot)

/-- The block states (Table 54). -/
inductive BlockState
  | erased | blockOpen | filling | stale | bad
  deriving DecidableEq, Repr

/-- A member of the Block Status Table (R155). -/
structure BlockStatus where
  state : BlockState
  writePoint : Nat
  sequence : Option (BitVec 32)
  deriving DecidableEq, Repr

/-- The job kinds of the Flash Job Queue (R160). -/
inductive Job
  | counterSave
  | faultAppend (code : BitVec 16)
  | faultRewrite
  | calibWrite
  deriving DecidableEq, Repr

/-- The values a COUNTER_SAVE takes from RAM (R163). -/
structure CounterValues where
  odometer : Count
  hours : Count
  cycles : Vector Count 4
  ignition : BitVec 16
  deriving DecidableEq, Repr

/-- What a running job took from RAM (R163). -/
inductive JobData
  | counter (v : CounterValues)
  | appendRecord (content : List Byte)
  | faults (list : List FaultEntry)
  | image (cal : Calibration)
  deriving DecidableEq, Repr

/-- A flash operation in progress (Table 52). -/
inductive FlashOp
  | program (block : Fin 16) (slot : Fin 64) (content : List Byte)
  | copyBack (block : Fin 16) (slot : Fin 64) (fromBlock : Fin 16) (fromSlot : Fin 64)
  | erase (block : Fin 16)
  deriving DecidableEq, Repr

/-- What the operation of a running job is for (R157–R159, R164–R166). -/
inductive FlashTask
  | append
  | staleErase
  | calibrationErase
  | header (sequence : BitVec 32)
  | imageRecord (k : Nat)
  | imageEnd
  | marker
  deriving DecidableEq, Repr

/-- The running job: what it took, its operation in progress, the block after which the cyclic choice
of R158 begins, and whether its own COUNTER record is still to follow the image (R159). -/
structure RunningJob where
  job : Job
  data : JobData
  task : FlashTask
  op : FlashOp
  origin : Fin 16
  ownFollows : Bool
  deriving DecidableEq, Repr

/-- The flash controller (R162). ERASING holds its operation: the erase, or the marker program that
follows a FAIL of it (R166, R168). -/
inductive Controller
  | idle
  | running (j : RunningJob)
  | erasing (op : FlashOp)
  deriving DecidableEq, Repr

/-- The store states of the three areas; true is READ_ONLY (R167). -/
structure StoreStates where
  calibration : Bool
  counters : Bool
  faults : Bool
  deriving DecidableEq, Repr

/-- The Record Store (R153, R155, R160, R162, R167). -/
structure Rst where
  flash : Flash
  blocks : Vector BlockStatus 16
  nextBlockSeq : BitVec 32
  nextCounterSeq : BitVec 32
  newestCounter : Option (Fin 16 × Fin 64)
  queue : List Job
  controller : Controller
  readOnly : StoreStates
  deriving DecidableEq, Repr

/-! ## Service Controller (chapter 10) -/

/-- The service states (R174). -/
inductive ServiceState
  | off | on | test
  deriving DecidableEq, Repr

/-- A live sample (R180). -/
structure LiveSample where
  slot : Fin 96
  value : Value
  status : Status
  time : Time
  gap : Bool
  deriving DecidableEq, Repr

/-- The kinds of a pending confirmation (R183). -/
inductive ConfirmKind
  | clear | calibCommit
  deriving DecidableEq, Repr

/-- An open readout: the recorded generation and the cursor (R178). -/
structure Readout where
  generation : BitVec 16
  cursor : Nat
  deriving DecidableEq, Repr

/-- The Service Controller's records (Table 60). -/
structure Svc where
  state : ServiceState
  serviceTimer : Timer
  readout : Option Readout
  subscription : List (Fin 96)
  liveQueue : List LiveSample
  substituted : List (Fin 96)
  outputTest : Option (TestTarget × Time)
  confirmation : Option (ConfirmKind × Time)
  staging : Option Calibration
  deriving DecidableEq, Repr

/-! ## Port Unit (chapter 11) -/

/-- The results (Table 68), in the order of their codes (Table 76). -/
inductive Result
  | ok | frameError | unknownRequest | notPermitted | badArgument | notInService | vehicleMoving
  | sequence | storeBusy | readoutBroken | already | noSuchEntry | configInvalid | starting | ended
  deriving DecidableEq, Repr

/-- A taken request: code, tag and payload (Table 74). -/
structure Request where
  code : Byte
  tag : Byte
  payload : List Byte
  deriving DecidableEq, Repr

/-- An answer awaiting collection (Table 75). -/
structure Answer where
  tag : Byte
  result : Result
  payload : List Byte
  deriving DecidableEq, Repr

/-- The port state with what it holds: the request being carried out, or the answer slot (R189). -/
inductive PortState
  | idle
  | working (req : Request)
  | ready (ans : Answer)
  deriving DecidableEq, Repr

/-- The port state at a chip-select fall (R190). -/
inductive FallState
  | idle | working | ready
  deriving DecidableEq, Repr

/-- A transaction in progress: judged at its rise with the state at the fall, the frame fixed and
whether that frame carries DROP (R190), or the waking transaction of SLEEP, not received (R200). -/
inductive Transaction
  | judged (atFall : FallState) (frame : List Byte) (drop : Bool)
  | notReceived
  deriving DecidableEq, Repr

/-- A set of notice flags, one bit per flag (section 13.3). -/
abbrev Notices := BitVec 8

/-- A port record (Table 64) with its transaction in progress and the bytes that its data output clocked out in
the last transaction that ended (R190, R200). -/
structure PortRecord where
  state : PortState
  dropMark : Bool
  flags : Notices
  mask : Notices
  transaction : Option Transaction
  clockedOut : List Byte
  deriving DecidableEq, Repr

/-- The Port Unit: one record per port. -/
structure Ptu where
  cluster : PortRecord
  body : PortRecord
  service : PortRecord
  deriving DecidableEq, Repr

/-! ## Power Controller (chapter 12) -/

/-- The Power Controller (Table 71); `held` while RST_N holds the part in reset (R202). -/
structure Pwc where
  power : PowerState
  uptime : Time
  ignitionCycles : BitVec 16
  rstrun : Bool
  ignition : Bool
  ignitionDisagreement : Nat
  quietTimer : Timer
  quiet : Bool
  storeIdle : Bool
  held : Bool
  deriving DecidableEq, Repr

/-! ## The machine -/

/-- The state of the part. `cal` is the active calibration and `calLoaded` the calibration state
LOADED; `draws` is the model's own counter of free values drawn; `pending` the waiting commands. -/
structure State where
  cal : Calibration
  calLoaded : Bool
  slots : Vector Slot 96
  switches : Vector SwitchState 32
  senders : Vector SenderState 8
  ccu : Ccu
  wre : Wre
  opu : Opu
  drs : Drs
  flm : Flm
  rst : Rst
  svc : Svc
  ptu : Ptu
  pwc : Pwc
  pins : PinLevels
  supply : Bool
  draws : Nat
  pending : List Instr
  deriving DecidableEq, Repr

/-! ## Reset values -/

/-- An unbound slot (R2, R15). -/
def slotReset : Slot where
  kind := .unused
  index := none
  liveValue := 0
  liveStatus := .notAvailable
  updateTime := 0
  refreshTimeout := 0
  substitution := none
  refreshTimer := none

/-- A switch input before its first sample (log entry 13). -/
def switchReset : SwitchState where
  active := false
  disagreement := 0

/-- A sender input after power-on and pin reset (R33). -/
def senderReset : SenderState where
  filtered := none
  outOfRange := false
  pendingTime := none
  lastPublication := none

/-- A channel before the calibration load: mode OFF of the factory default (R37, R38). -/
def channelReset : Channel where
  count := 0
  hold := 0
  result := 0
  softGate := false
  gateOpen := false
  setPoint := 0
  pendingSetPoint := none
  phase := .idle
  lastDelivery := none
  holdOff := none
  window := none

/-- The Counter Channel Unit before the calibration load and the counter restore. -/
def ccuReset : Ccu where
  channels := Vector.replicate 8 channelReset
  odometer := ⟨0, 0⟩
  hours := ⟨0, 0⟩

/-- The reset values of a rule with the rule state given (R74). -/
def ruleReset (phase : RulePhase) : RuleState where
  phase := phase
  comparison := false
  raiseTimer := none
  clearTimer := none
  confirmedTime := none
  confirmedOdometer := none
  faultOpen := false
  reAnnounceTimer := none

/-- The Warning Engine before the calibration load: every rule of the factory default is DISABLED. -/
def wreReset : Wre where
  rules := Vector.replicate 48 (ruleReset .disabled)
  list := []
  tableTaken := false

/-- The summary with every item FALSE (Table 36). -/
def summaryReset : Summary := ⟨false, false, false, false⟩

/-- A role slot's copy after reset: live status NOT_AVAILABLE (Table 36). -/
def roleCopyReset : RoleCopy := ⟨false, 0, .notAvailable⟩

/-- A dark lamp with its timer stopped (R111). -/
def lampReset : LampState := ⟨.off, false, none⟩

/-- The chime with no claim granted (R111). -/
def chimeReset : Chime := ⟨none, 0, none⟩

/-- The outputs of START (Table 39). -/
def outputsReset : Outputs where
  lampStop := false
  lampCaution := false
  lampDoor := false
  lampStopReq := false
  chime := false
  driveInhibit := true
  openEnable := false

/-- The Output Unit after power-on and pin reset (Table 36, R111). -/
def opuReset : Opu where
  summary := summaryReset
  latch := false
  doorStates := Vector.replicate 4 none
  ramps := Vector.replicate 4 false
  present := Vector.replicate 4 false
  speed := roleCopyReset
  brake := roleCopyReset
  openLow := factoryGeneral.openLow
  openHigh := factoryGeneral.openHigh
  testTarget := none
  power := .start
  lampStop := lampReset
  lampCaution := lampReset
  chime := chimeReset
  openEnable := false
  regime := .tracking
  fallback := none
  outputs := outputsReset

/-- A door that is not present (R114), with cycle count and last open duration 0 (R131). -/
def doorReset : DoorRecord where
  state := .closedLocked
  reason := none
  reversals := 0
  cycles := 0
  lastOpen := 0
  rampOut := false
  openStart := none
  openLimit := none
  settle := none
  closeLimit := none

/-- The Door Supervisor after reset: latch clear (R131). -/
def drsReset : Drs where
  doors := Vector.replicate 4 doorReset
  latch := false

/-- The Fault Memory after reset, before the replay (R150, R151). -/
def flmReset : Flm where
  list := []
  generation := 0
  overflow := false
  held := []
  replayDone := false

/-- An erased block (Table 54). -/
def blockReset : BlockStatus where
  state := .erased
  writePoint := 0
  sequence := none

/-- The Record Store after reset over a flash array, before the scan (R169; log entry 13). -/
def rstReset (flash : Flash) : Rst where
  flash := flash
  blocks := Vector.replicate 16 blockReset
  nextBlockSeq := 1
  nextCounterSeq := 1
  newestCounter := none
  queue := []
  controller := .idle
  readOnly := ⟨false, false, false⟩

/-- The Service Controller after reset (Table 60). -/
def svcReset : Svc where
  state := .off
  serviceTimer := none
  readout := none
  subscription := []
  liveQueue := []
  substituted := []
  outputTest := none
  confirmation := none
  staging := none

/-- A port record after reset with its notice mask (Table 64). -/
def portReset (mask : Notices) : PortRecord where
  state := .idle
  dropMark := false
  flags := 0
  mask := mask
  transaction := none
  clockedOut := []

/-- The Port Unit after reset: masks C ANSWER, WARNINGS, DOORS; B ANSWER, DOORS, POWER; S empty
(Table 64; the bits are those of section 13.3). -/
def ptuReset : Ptu where
  cluster := portReset 0b00000111#8
  body := portReset 0b01000101#8
  service := portReset 0#8

/-- The Power Controller after reset (Table 71), with the strap and the ignition state given. -/
def pwcReset (rstrun ignition held : Bool) : Pwc where
  power := .start
  uptime := 0
  ignitionCycles := 0
  rstrun := rstrun
  ignition := ignition
  ignitionDisagreement := 0
  quietTimer := none
  quiet := false
  storeIdle := true
  held := held

/-- The machine right after reset, in START, before the start-up steps have run: every block at the
value the manual gives it after power-on and pin reset; flash erased and pins low (log entry 12). -/
def State.reset : State where
  cal := Calibration.factory
  calLoaded := false
  slots := Vector.replicate 96 slotReset
  switches := Vector.replicate 32 switchReset
  senders := Vector.replicate 8 senderReset
  ccu := ccuReset
  wre := wreReset
  opu := opuReset
  drs := drsReset
  flm := flmReset
  rst := rstReset []
  svc := svcReset
  ptu := ptuReset
  pwc := pwcReset false false false
  pins := ⟨0, 0, false, false⟩
  supply := true
  draws := 0
  pending := []

end Sys2Proof.Machine
end

