-- ==== Sys2Proof/Machine/Ops.lean ====
section
/-! DEFINITION. The operations every block shares: indices, saturating arithmetic, timers, the named
updates of the state, the drawing of free values, and the delivery of events that have no order
among them. -/

namespace Sys2Proof.Machine

/-! ## Indices -/

/-- All slots, in number order. -/
def allSlots : List (Fin 96) := List.finRange 96
/-- All switch inputs, in number order. -/
def allSwitches : List (Fin 32) := List.finRange 32
/-- All sender inputs or channels, in number order. -/
def allEight : List (Fin 8) := List.finRange 8
/-- All rules, in number order. -/
def allRules : List (Fin 48) := List.finRange 48
/-- All filter entries, in number order. -/
def allFilters : List (Fin 32) := List.finRange 32
/-- All doors, in number order. -/
def allDoors : List (Fin 4) := List.finRange 4
/-- All flash blocks, in number order. -/
def allBlocks : List (Fin 16) := List.finRange 16

/-- A number as an index below n, absent when it is not one. -/
def toIndex (n : Nat) (k : Nat) : Option (Fin n) := if h : k < n then some ⟨k, h⟩ else none

/-! ## Arithmetic (section 4.1 of the introduction) -/

/-- One more, stopping at the largest number of the width. -/
def satInc {w : Nat} (x : BitVec w) : BitVec w := if x = BitVec.allOnes w then x else x + 1

/-- A sum that stops at the largest number of the width. -/
def satAdd {w : Nat} (x y : BitVec w) : BitVec w :=
  if x.toNat + y.toNat < 2 ^ w then x + y else BitVec.allOnes w

/-- A result that saturates at the ends of the signed 32-bit range. -/
def clampValue (z : Int) : Value :=
  if z < -2147483648 then 0x80000000#32
  else if 2147483647 < z then 0x7FFFFFFF#32
  else BitVec.ofInt 32 z

/-- A count as a slot value, saturated at 2,147,483,647 (R48, R53). -/
def clampCount (c : Count) : Value := if 0x7FFFFFFF#32 < c then 0x7FFFFFFF#32 else c

/-- The quotient rounded toward zero (section 4.1). -/
def quotient (a b : Int) : Int := Int.tdiv a b

/-! ## Time -/

/-- The uptime (R201). -/
def State.now (s : State) : Time := s.pwc.uptime

/-- The milliseconds from an earlier uptime to a later one, modulo 2^32 (section 4.2). -/
def elapsed (now earlier : Time) : Nat := (now - earlier).toNat

/-- A timer started now for a duration in ms. -/
def startTimer (now : Time) (ms : Nat) : Timer := some (now + BitVec.ofNat 32 ms)

/-- Whether a timer runs and its expiry time has been reached (log entry 4). -/
def timerDue (t : Timer) (now : Time) : Bool :=
  match t with
  | none => false
  | some e => decide (elapsed now e < 2147483648)

/-! ## Named updates of the state -/

/-- Replace a slot record. -/
def State.setSlot (s : State) (i : Fin 96) (x : Slot) : State := { s with slots := s.slots.set i x }

/-- Replace a switch input's state. -/
def State.setSwitch (s : State) (i : Fin 32) (x : SwitchState) : State :=
  { s with switches := s.switches.set i x }

/-- Replace a sender input's state. -/
def State.setSender (s : State) (i : Fin 8) (x : SenderState) : State :=
  { s with senders := s.senders.set i x }

/-- Replace a channel's state. -/
def State.setChannel (s : State) (i : Fin 8) (x : Channel) : State :=
  { s with ccu := { s.ccu with channels := s.ccu.channels.set i x } }

/-- Replace a door record. -/
def State.setDoor (s : State) (i : Fin 4) (x : DoorRecord) : State :=
  { s with drs := { s.drs with doors := s.drs.doors.set i x } }

/-- Apply an event of the Output Unit to its state. -/
def State.onOpu (s : State) (f : Opu → Opu) : State := { s with opu := f s.opu }

/-- Replace the Warning Engine's state. -/
def State.setWre (s : State) (w : Wre) : State := { s with wre := w }

/-- Replace the Fault Memory's state. -/
def State.setFlm (s : State) (f : Flm) : State := { s with flm := f }

/-- Replace the Record Store's state. -/
def State.setRst (s : State) (r : Rst) : State := { s with rst := r }

/-- Replace the Service Controller's state. -/
def State.setSvc (s : State) (v : Svc) : State := { s with svc := v }

/-- Replace the Power Controller's state. -/
def State.setPwc (s : State) (p : Pwc) : State := { s with pwc := p }

/-- The record of a port. -/
def Ptu.get (u : Ptu) : Port → PortRecord
  | .cluster => u.cluster
  | .body => u.body
  | .service => u.service

/-- Replace the record of a port. -/
def Ptu.set (u : Ptu) (p : Port) (r : PortRecord) : Ptu :=
  match p with
  | .cluster => { u with cluster := r }
  | .body => { u with body := r }
  | .service => { u with service := r }

/-- The record of a port. -/
def State.port (s : State) (p : Port) : PortRecord := s.ptu.get p

/-- Replace the record of a port. -/
def State.setPort (s : State) (p : Port) (r : PortRecord) : State := { s with ptu := s.ptu.set p r }

/-! ## Free values and deliveries -/

/-- Draw a fresh free value: the counter moves on. -/
def State.drawn (s : State) : State := { s with draws := s.draws + 1 }

/-- An event of one block: what it makes of the state. -/
abbrev Delivery := State → State

/-- Take at most `n` of the deliveries. While two or more remain, a free value says which is next. -/
def deliverSome : Nat → List Delivery → State → State
  | 0, _, s => s
  | _ + 1, [], s => s
  | _ + 1, [d], s => d s
  | n + 1, d :: e :: rest, s =>
    let ds := d :: e :: rest
    let i := Config.order s.draws % ds.length
    deliverSome n (ds.eraseIdx i) ((ds.getD i id) s.drawn)

/-- Take deliveries that have no order among them (R6, R23, R126, R129, R136, R187, R201): each once,
in an order that free values choose. -/
def deliverAll (ds : List Delivery) (s : State) : State := deliverSome ds.length ds s

/-- Some of the deliveries and the rest, each on the side that a free value gives it. -/
def drawSides : List Delivery → State → List Delivery × List Delivery × State
  | [], s => ([], [], s)
  | d :: ds, s =>
    let x := drawSides ds s.drawn
    if Config.order s.draws % 2 = 0 then (d :: x.1, x.2.1, x.2.2) else (x.1, d :: x.2.1, x.2.2)

/-- Take groups of deliveries one after another, without order within a group, and besides the groups `free`
deliveries that have no order against any (R201): each is taken once, in a group that a free value chooses, or
after the last. -/
def deliverGroups : List (List Delivery) → List Delivery → State → State
  | [], free, s => deliverAll free s
  | group :: groups, free, s =>
    let x := drawSides free s
    deliverGroups groups x.2.1 (deliverAll (group ++ x.1) x.2.2)

/-- Take deliveries in the order given, where a rule gives it or none can be told from another. -/
def deliverInOrder (ds : List Delivery) (s : State) : State := ds.foldl (fun t d => d t) s

/-! ## The form of a meaning -/

/-- A command acts while the supply is present; without supply only POWER_ON acts (log entry 10). -/
def act (s : State) (f : State → State) : Host.Outcome State Fault Refusal :=
  .next (if s.supply then f s else s)

end Sys2Proof.Machine
end

