-- ==== Sys2Proof/Machine/Layout.lean ====
section
/-! DEFINITION. Chapter 13: how numbers and enumerations are coded (R208), the check (R209), the
frames, and the codes of the returned records' fields. -/

namespace Sys2Proof.Machine

/-! ## The check (R209) -/

/-- One shift of the CRC register. -/
def crcShift (r : Byte) : Byte := if r.msb then (r <<< 1) ^^^ 0x07#8 else r <<< 1

/-- The CRC register after one byte. -/
def crcByte (r b : Byte) : Byte :=
  crcShift (crcShift (crcShift (crcShift (crcShift (crcShift (crcShift (crcShift (r ^^^ b))))))))

/-- CRC-8 with polynomial 07h, initial value 00h, most significant bit first (R209). -/
def crc8 (bs : List Byte) : Byte := bs.foldl crcByte 0#8

/-! ## Numbers (R208): least significant byte first -/

/-- The `k` bytes of a number, least significant first. -/
def leBytes : Nat → Nat → List Byte
  | 0, _ => []
  | k + 1, n => BitVec.ofNat 8 n :: leBytes k (n / 256)

/-- The number that bytes give, least significant first. -/
def leNum : List Byte → Nat
  | [] => 0
  | b :: bs => b.toNat + 256 * leNum bs

/-- The byte at a position; 00h beyond the end. -/
def byteAt (bs : List Byte) (i : Nat) : Byte := bs.getD i 0#8

/-- The number of `k` bytes at a position. -/
def numAt (bs : List Byte) (i k : Nat) : Nat := leNum ((bs.drop i).take k)

/-- The two bytes of a 16-bit field. -/
def bytes16 (x : BitVec 16) : List Byte := leBytes 2 x.toNat
/-- The four bytes of a 32-bit field. -/
def bytes32 (x : BitVec 32) : List Byte := leBytes 4 x.toNat
/-- A 16-bit field at a position. -/
def field16 (bs : List Byte) (i : Nat) : BitVec 16 := BitVec.ofNat 16 (numAt bs i 2)
/-- A 32-bit field at a position. -/
def field32 (bs : List Byte) (i : Nat) : BitVec 32 := BitVec.ofNat 32 (numAt bs i 4)

/-- YES, ON, SET, OPEN and HIGH are 1 (R208). -/
def flagByte (b : Bool) : Byte := if b then 1#8 else 0#8

/-- A YES/NO field: 0 or 1 (R208). -/
def flagOf (b : Byte) : Option Bool :=
  if b = 0#8 then some false else if b = 1#8 then some true else none

/-- A one-byte number. -/
def numByte (n : Nat) : Byte := BitVec.ofNat 8 n

/-- A one-byte optional index; absent is FFh (R208). -/
def optByte {n : Nat} (o : Option (Fin n)) : Byte :=
  match o with
  | none => 0xFF#8
  | some i => numByte i.val

/-- An optional index of one byte: FFh is absent, a number outside the range is none. -/
def optIndexOf (n : Nat) (b : Byte) : Option (Option (Fin n)) :=
  if b = 0xFF#8 then some none else (toIndex n b.toNat).map some

/-- A number that must lie in a range. -/
def inRange (lo hi n : Nat) : Option Nat := if lo ≤ n ∧ n ≤ hi then some n else none

/-! ## Enumerations (R208): their position in the list of values -/

/-- The code of a status: NOT_AVAILABLE 0 to SUBSTITUTED 4. -/
def Status.code : Status → Nat
  | .notAvailable => 0 | .valid => 1 | .stale => 2 | .outOfRange => 3 | .substituted => 4

/-- The status of a code. -/
def Status.ofCode : Nat → Option Status
  | 0 => some .notAvailable | 1 => some .valid | 2 => some .stale | 3 => some .outOfRange
  | 4 => some .substituted | _ => none

/-- Source kind UNUSED 0 to STOPREQ 6. -/
def SourceKind.code : SourceKind → Nat
  | .unused => 0 | .switch => 1 | .sender => 2 | .channel => 3 | .network => 4 | .door => 5
  | .stopReq => 6

/-- The source kind of a code. -/
def SourceKind.ofCode : Nat → Option SourceKind
  | 0 => some .unused | 1 => some .switch | 2 => some .sender | 3 => some .channel
  | 4 => some .network | 5 => some .door | 6 => some .stopReq | _ => none

/-- ACTIVE_HIGH 0, ACTIVE_LOW 1. -/
def Polarity.code : Polarity → Nat
  | .activeHigh => 0 | .activeLow => 1

/-- The polarity of a code. -/
def Polarity.ofCode : Nat → Option Polarity
  | 0 => some .activeHigh | 1 => some .activeLow | _ => none

/-- The debounce class of a duration in ms; durations are coded as their value (R208). -/
def DebounceClass.ofMs : Nat → Option DebounceClass
  | 5 => some .ms5 | 20 => some .ms20 | 50 => some .ms50 | 200 => some .ms200 | _ => none

/-- Channel mode OFF 0 to FOLLOW 5. -/
def ChannelMode.code : ChannelMode → Nat
  | .off => 0 | .total => 1 | .rate => 2 | .width => 3 | .timer => 4 | .follow => 5

/-- The channel mode of a code. -/
def ChannelMode.ofCode : Nat → Option ChannelMode
  | 0 => some .off | 1 => some .total | 2 => some .rate | 3 => some .width | 4 => some .timer
  | 5 => some .follow | _ => none

/-- RISING 0, FALLING 1, BOTH 2. -/
def EdgeChoice.code : EdgeChoice → Nat
  | .rising => 0 | .falling => 1 | .both => 2

/-- The edge choice of a code. -/
def EdgeChoice.ofCode : Nat → Option EdgeChoice
  | 0 => some .rising | 1 => some .falling | 2 => some .both | _ => none

/-- Gate polarity ACTIVE 0, INACTIVE 1. -/
def GatePolarity.code : GatePolarity → Nat
  | .active => 0 | .inactive => 1

/-- The gate polarity of a code. -/
def GatePolarity.ofCode : Nat → Option GatePolarity
  | 0 => some .active | 1 => some .inactive | _ => none

/-- The rate window of a duration in ms. -/
def RateWindow.ofMs : Nat → Option RateWindow
  | 10 => some .ms10 | 100 => some .ms100 | 1000 => some .ms1000 | _ => none

/-- Role NONE 0, ODOMETER 1, HOURS 2. -/
def Role.code : Role → Nat
  | .noRole => 0 | .odometer => 1 | .hours => 2

/-- The role of a code. -/
def Role.ofCode : Nat → Option Role
  | 0 => some .noRole | 1 => some .odometer | 2 => some .hours | _ => none

/-- Byte order LITTLE 0, BIG 1. -/
def ByteOrder.code : ByteOrder → Nat
  | .little => 0 | .big => 1

/-- The byte order of a code. -/
def ByteOrder.ofCode : Nat → Option ByteOrder
  | 0 => some .little | 1 => some .big | _ => none

/-- Comparison GREATER 0 to NOT_VALID 4. -/
def Comparison.code : Comparison → Nat
  | .greater => 0 | .less => 1 | .equal => 2 | .notEqual => 3 | .notValid => 4

/-- The comparison of a code. -/
def Comparison.ofCode : Nat → Option Comparison
  | 0 => some .greater | 1 => some .less | 2 => some .equal | 3 => some .notEqual
  | 4 => some .notValid | _ => none

/-- Qualifier comparison GREATER 0 to NOT_EQUAL 3. -/
def QualifierComparison.code : QualifierComparison → Nat
  | .greater => 0 | .less => 1 | .equal => 2 | .notEqual => 3

/-- The qualifier comparison of a code. -/
def QualifierComparison.ofCode : Nat → Option QualifierComparison
  | 0 => some .greater | 1 => some .less | 2 => some .equal | 3 => some .notEqual | _ => none

/-- Class STOP 0, CAUTION 1, ADVISE 2: the class of a code. -/
def WarningClass.ofCode : Nat → Option WarningClass
  | 0 => some .stop | 1 => some .caution | 2 => some .advise | _ => none

/-- The phase of a list entry: ACTIVE 0, CLEARING 1, LATCHED 2. An entry has no other phase (R85). -/
def RulePhase.entryCode : RulePhase → Nat
  | .clearing => 1
  | .latched => 2
  | .active | .disabled | .idle | .raising | .suppressed => 0

/-- The door state numbers of Table 45. -/
def DoorState.number : DoorState → Nat
  | .closedLocked => 0 | .closed => 1 | .opening => 2 | .doorOpen => 3 | .closing => 4
  | .reversing => 5 | .released => 6 | .fault => 7

/-- The fault reason numbers of R124. -/
def DoorReason.number : DoorReason → Nat
  | .switchConflict => 0 | .openTimeout => 1 | .closeTimeout => 2 | .edgeRepeated => 3

/-- Power state START 0, RUN 1, AFTERRUN 2, SLEEP 3 (section 13.3). -/
def PowerState.code : PowerState → Nat
  | .start => 0 | .run => 1 | .afterrun => 2 | .sleep => 3

/-- Service state OFF 0, ON 1, TEST 2. -/
def ServiceState.code : ServiceState → Nat
  | .off => 0 | .on => 1 | .test => 2

/-- Width phase IDLE 0, WAITING 1, MEASURING 2. -/
def WidthPhase.code : WidthPhase → Nat
  | .idle => 0 | .waiting => 1 | .measuring => 2

/-- The result codes of Table 76. -/
def Result.code : Result → Nat
  | .ok => 0x00 | .frameError => 0x01 | .unknownRequest => 0x02 | .notPermitted => 0x03
  | .badArgument => 0x04 | .notInService => 0x05 | .vehicleMoving => 0x06 | .sequence => 0x07
  | .storeBusy => 0x08 | .readoutBroken => 0x09 | .already => 0x0A | .noSuchEntry => 0x0B
  | .configInvalid => 0x0C | .starting => 0x0D | .ended => 0x0E

/-- The output test targets, LAMP_STOP 0 to CHIME 5; STOP is 6 (section 13.3). -/
def TestTarget.ofCode : Nat → Option TestTarget
  | 0 => some .lampStop | 1 => some .lampCaution | 2 => some .lampDoor | 3 => some .lampStopReq
  | 4 => some .allLamps | 5 => some .chime | _ => none

/-- The source of a fault entry as its byte: RULE n is n, DOOR d 40h + d, SENDER n 50h + n, STORE 60h,
CALIBRATION 70h (section 13.3). -/
def FaultSource.byte : FaultSource → Byte
  | .rule n => numByte n.val
  | .door d => numByte (0x40 + d.val)
  | .sender n => numByte (0x50 + n.val)
  | .store => 0x60#8
  | .calibration => 0x70#8

/-- The source that a byte codes. -/
def FaultSource.ofByte (b : Byte) : Option FaultSource :=
  if h : b.toNat < 48 then some (.rule ⟨b.toNat, h⟩)
  else if h : 0x40 ≤ b.toNat ∧ b.toNat < 0x44 then some (.door ⟨b.toNat - 0x40, by omega⟩)
  else if h : 0x50 ≤ b.toNat ∧ b.toNat < 0x58 then some (.sender ⟨b.toNat - 0x50, by omega⟩)
  else if b = 0x60#8 then some .store
  else if b = 0x70#8 then some .calibration
  else none

/-! ## Frames (section 13.2) -/

/-- A frame of bytes followed by its check. -/
def withCheck (bs : List Byte) : List Byte := bs ++ [crc8 bs]

/-- The flags byte of an answer frame: bit 0 DROP, bit 1 NOTICE (Table 75). -/
def frameFlags (drop notice : Bool) : Byte :=
  (if drop then 1#8 else 0#8) ||| (if notice then 2#8 else 0#8)

/-- An answer frame of any kind (Table 75). -/
def answerFrame (kind tag : Byte) (result : Result) (drop notice : Bool) (payload : List Byte) :
    List Byte :=
  withCheck ([kind, tag, numByte result.code, frameFlags drop notice, numByte payload.length] ++ payload)

/-- The NO_ANSWER frame (R190). -/
def noAnswerFrame (notice : Bool) : List Byte := answerFrame 0#8 0#8 .ok false notice []

/-- The BUSY frame (R190). -/
def busyFrame (notice : Bool) : List Byte := answerFrame 2#8 0#8 .ok false notice []

/-! ## Fault entries as bytes (Table 77) -/

/-- The four members of a freeze frame as bytes; 0 when absent. -/
def freezeBytes (f : Option (Vector FreezeMember 4)) : List Byte :=
  match f with
  | none => List.replicate 20 0#8
  | some v => v.toList.flatMap fun m => bytes32 m.value ++ [numByte m.status.code]

/-- A fault entry of 39 bytes (Table 77); state ACTIVE is 0 and STORED is 1. -/
def FaultEntry.bytes (e : FaultEntry) : List Byte :=
  bytes16 e.code ++ [e.source.byte, if e.active then 0#8 else 1#8, e.occurrences, e.aging]
    ++ bytes32 e.firstOdometer ++ bytes32 e.lastOdometer ++ bytes16 e.firstIgnition
    ++ bytes16 e.lastIgnition ++ [flagByte e.freeze.isSome] ++ freezeBytes e.freeze

/-- A freeze member at a position. -/
def freezeMemberAt (bs : List Byte) (i : Nat) : Option FreezeMember :=
  (Status.ofCode (byteAt bs (i + 4)).toNat).map fun st => ⟨field32 bs i, st⟩

/-- The freeze frame of a fault entry that starts at a position. -/
def freezeAt (bs : List Byte) (i : Nat) : Option (Option (Vector FreezeMember 4)) := do
  let present ← flagOf (byteAt bs (i + 18))
  if present then
    let a ← freezeMemberAt bs (i + 19)
    let b ← freezeMemberAt bs (i + 24)
    let c ← freezeMemberAt bs (i + 29)
    let d ← freezeMemberAt bs (i + 34)
    some (some #v[a, b, c, d])
  else some none

/-- The fault entry that stands at a position; absent where its source, state, freeze mark or a freeze status codes
no value. Its code, and an occurrence number of 0, are taken as they stand (log entry 23). -/
def faultEntryAt (bs : List Byte) (i : Nat) : Option FaultEntry := do
  let source ← FaultSource.ofByte (byteAt bs (i + 2))
  let stored ← flagOf (byteAt bs (i + 3))
  let freeze ← freezeAt bs i
  some {
    code := field16 bs i
    source := source
    active := !stored
    occurrences := byteAt bs (i + 4)
    aging := byteAt bs (i + 5)
    firstOdometer := field32 bs (i + 6)
    lastOdometer := field32 bs (i + 10)
    firstIgnition := field16 bs (i + 14)
    lastIgnition := field16 bs (i + 16)
    freeze := freeze }

end Sys2Proof.Machine
end

