-- ==== Sys2Proof/Machine/CalibrationItems.lean ====
section
/-! DEFINITION. The calibration items as bytes (Table 79): their coding, their decoding with the range
of every field (R185, R208), and the calibration image (R210). -/

namespace Sys2Proof.Machine

/-- The sections of Table 61, coded 0 to 7. -/
inductive CalibSection
  | general | slots | switches | senders | channels | filters | rules | doors
  deriving DecidableEq, Repr

/-- The code of a section (section 13.4). -/
def CalibSection.code : CalibSection → Nat
  | .general => 0 | .slots => 1 | .switches => 2 | .senders => 3 | .channels => 4 | .filters => 5
  | .rules => 6 | .doors => 7

/-- The section of a code. -/
def CalibSection.ofCode : Nat → Option CalibSection
  | 0 => some .general | 1 => some .slots | 2 => some .switches | 3 => some .senders
  | 4 => some .channels | 5 => some .filters | 6 => some .rules | 7 => some .doors | _ => none

/-- The number of items of a section (Table 61). -/
def CalibSection.count : CalibSection → Nat
  | .general => 1 | .slots => 96 | .switches => 32 | .senders => 8 | .channels => 8 | .filters => 32
  | .rules => 48 | .doors => 4

/-- The length of an item in bytes (Table 79). -/
def CalibSection.size : CalibSection → Nat
  | .general => 24 | .slots => 2 | .switches => 2 | .senders => 54 | .channels => 19 | .filters => 25
  | .rules => 24 | .doors => 14

/-- The sections in their order (Table 61). -/
def allSections : List CalibSection :=
  [.general, .slots, .switches, .senders, .channels, .filters, .rules, .doors]

/-! ## GENERAL -/

/-- A GENERAL item as 24 bytes. -/
def GeneralItem.bytes (g : GeneralItem) : List Byte :=
  [optByte g.speedSlot, optByte g.brakeSlot, optByte g.freezeSlots[0], optByte g.freezeSlots[1],
    optByte g.freezeSlots[2], optByte g.freezeSlots[3], optByte g.ackInput, optByte g.stopInputs[0],
    optByte g.stopInputs[1], optByte g.stopInputs[2], optByte g.stopInputs[3]]
    ++ bytes32 g.openLow ++ bytes32 g.openHigh ++ bytes32 g.stationary ++ [g.agingLimit]

/-- A GENERAL item from bytes: slots 0–95 or absent, inputs 0–31 or absent (R128), aging limit 1–255
(R146). -/
def GeneralItem.ofBytes (bs : List Byte) : Option GeneralItem := do
  let speed ← optIndexOf 96 (byteAt bs 0)
  let brake ← optIndexOf 96 (byteAt bs 1)
  let f1 ← optIndexOf 96 (byteAt bs 2)
  let f2 ← optIndexOf 96 (byteAt bs 3)
  let f3 ← optIndexOf 96 (byteAt bs 4)
  let f4 ← optIndexOf 96 (byteAt bs 5)
  let ack ← optIndexOf 32 (byteAt bs 6)
  let s1 ← optIndexOf 32 (byteAt bs 7)
  let s2 ← optIndexOf 32 (byteAt bs 8)
  let s3 ← optIndexOf 32 (byteAt bs 9)
  let s4 ← optIndexOf 32 (byteAt bs 10)
  let _ ← inRange 1 255 (byteAt bs 23).toNat
  some {
    speedSlot := speed
    brakeSlot := brake
    freezeSlots := #v[f1, f2, f3, f4]
    ackInput := ack
    stopInputs := #v[s1, s2, s3, s4]
    openLow := field32 bs 11
    openHigh := field32 bs 15
    stationary := field32 bs 19
    agingLimit := byteAt bs 23 }

/-! ## SLOTS and SWITCHES -/

/-- A SLOTS item as 2 bytes. -/
def SlotItem.bytes (x : SlotItem) : List Byte := [numByte x.kind.code, optByte x.index]

/-- A SLOTS item from bytes. The field source index takes absent or 0–31, the widest range of Table 6;
whether it suits the kind is a condition of R2 (DEDUCED, log entry 16). -/
def SlotItem.ofBytes (bs : List Byte) : Option SlotItem := do
  let kind ← SourceKind.ofCode (byteAt bs 0).toNat
  let index ← optIndexOf 32 (byteAt bs 1)
  some { kind := kind, index := index }

/-- A SWITCHES item as 2 bytes. -/
def SwitchItem.bytes (x : SwitchItem) : List Byte := [numByte x.polarity.code, numByte x.debounce.ms]

/-- A SWITCHES item from bytes (R19). -/
def SwitchItem.ofBytes (bs : List Byte) : Option SwitchItem := do
  let polarity ← Polarity.ofCode (byteAt bs 0).toNat
  let debounce ← DebounceClass.ofMs (byteAt bs 1).toNat
  some { polarity := polarity, debounce := debounce }

/-! ## SENDERS -/

/-- An optional threshold of 0–4095 as two bytes; absent is FFFFh (R208). -/
def thresholdBytes (t : Option (BitVec 12)) : List Byte :=
  match t with
  | none => [0xFF#8, 0xFF#8]
  | some x => leBytes 2 x.toNat

/-- A raw number of 0–4095. -/
def rawOf (n : Nat) : Option (BitVec 12) := if n < 4096 then some (BitVec.ofNat 12 n) else none

/-- An optional threshold from its two-byte number. -/
def thresholdOf (n : Nat) : Option (Option (BitVec 12)) :=
  if n = 0xFFFF then some none else (rawOf n).map some

/-- A curve point as 6 bytes. -/
def CurvePoint.bytes (p : CurvePoint) : List Byte := leBytes 2 p.raw.toNat ++ bytes32 p.value

/-- A curve point at a position. -/
def curvePointAt (bs : List Byte) (i : Nat) : Option CurvePoint :=
  (rawOf (numAt bs i 2)).map fun r => ⟨r, field32 bs (i + 2)⟩

/-- A SENDERS item as 54 bytes. -/
def SenderItem.bytes (x : SenderItem) : List Byte :=
  [numByte x.filterLevel.val] ++ thresholdBytes x.openThreshold ++ thresholdBytes x.shortThreshold
    ++ [numByte x.pointCount.val] ++ x.points.toList.flatMap CurvePoint.bytes

/-- A SENDERS item from bytes (Table 14). -/
def SenderItem.ofBytes (bs : List Byte) : Option SenderItem := do
  let level ← toIndex 4 (byteAt bs 0).toNat
  let openT ← thresholdOf (numAt bs 1 2)
  let shortT ← thresholdOf (numAt bs 3 2)
  let count ← toIndex 9 (byteAt bs 5).toNat
  let p0 ← curvePointAt bs 6
  let p1 ← curvePointAt bs 12
  let p2 ← curvePointAt bs 18
  let p3 ← curvePointAt bs 24
  let p4 ← curvePointAt bs 30
  let p5 ← curvePointAt bs 36
  let p6 ← curvePointAt bs 42
  let p7 ← curvePointAt bs 48
  some {
    filterLevel := level
    openThreshold := openT
    shortThreshold := shortT
    pointCount := count
    points := #v[p0, p1, p2, p3, p4, p5, p6, p7] }

/-! ## CHANNELS -/

/-- A CHANNELS item as 19 bytes. -/
def ChannelItem.bytes (x : ChannelItem) : List Byte :=
  [numByte x.mode.code, numByte x.pulseInput.val, numByte x.edge.code, optByte x.hardwareGate,
    numByte x.gatePolarity.code, flagByte x.defaultSoftGate, flagByte x.clearOnOpen]
    ++ bytes32 x.upperSetPoint ++ leBytes 2 x.rateWindow.ms ++ bytes16 x.multiplier
    ++ leBytes 2 x.divisor ++ [numByte x.role.code, flagByte x.bodyControl]

/-- A CHANNELS item from bytes (Table 18). -/
def ChannelItem.ofBytes (bs : List Byte) : Option ChannelItem := do
  let mode ← ChannelMode.ofCode (byteAt bs 0).toNat
  let pulse ← toIndex 8 (byteAt bs 1).toNat
  let edge ← EdgeChoice.ofCode (byteAt bs 2).toNat
  let gate ← optIndexOf 32 (byteAt bs 3)
  let polarity ← GatePolarity.ofCode (byteAt bs 4).toNat
  let soft ← flagOf (byteAt bs 5)
  let clear ← flagOf (byteAt bs 6)
  let window ← RateWindow.ofMs (numAt bs 11 2)
  let divisor ← inRange 1 1000 (numAt bs 15 2)
  let role ← Role.ofCode (byteAt bs 17).toNat
  let body ← flagOf (byteAt bs 18)
  some {
    mode := mode
    pulseInput := pulse
    edge := edge
    hardwareGate := gate
    gatePolarity := polarity
    defaultSoftGate := soft
    clearOnOpen := clear
    upperSetPoint := field32 bs 7
    rateWindow := window
    multiplier := field16 bs 13
    divisor := divisor
    role := role
    bodyControl := body }

/-! ## FILTERS -/

/-- A FILTERS item as 25 bytes. -/
def FilterItem.bytes (x : FilterItem) : List Byte :=
  [flagByte x.enabled] ++ leBytes 4 x.identifier.toNat ++ leBytes 4 x.mask.toNat
    ++ [flagByte x.extended, numByte x.startBit, numByte x.bitLength, numByte x.byteOrder.code,
      flagByte x.signed]
    ++ bytes16 x.multiplier ++ leBytes 2 x.divisor ++ bytes32 x.offset ++ [optByte x.targetSlot]
    ++ leBytes 2 x.refreshTimeout

/-- An identifier or mask of 0 to 1FFFFFFFh. -/
def identifierOf (n : Nat) : Option (BitVec 29) :=
  if n < 536870912 then some (BitVec.ofNat 29 n) else none

/-- A refresh timeout: 0, or 50 to 65,000 ms (Table 23). -/
def refreshTimeoutOf (n : Nat) : Option Nat := if n = 0 then some 0 else inRange 50 65000 n

/-- A FILTERS item from bytes (Table 23). -/
def FilterItem.ofBytes (bs : List Byte) : Option FilterItem := do
  let enabled ← flagOf (byteAt bs 0)
  let identifier ← identifierOf (numAt bs 1 4)
  let mask ← identifierOf (numAt bs 5 4)
  let extended ← flagOf (byteAt bs 9)
  let start ← inRange 0 63 (byteAt bs 10).toNat
  let length ← inRange 1 32 (byteAt bs 11).toNat
  let order ← ByteOrder.ofCode (byteAt bs 12).toNat
  let signed ← flagOf (byteAt bs 13)
  let divisor ← inRange 1 1000 (numAt bs 16 2)
  let target ← optIndexOf 96 (byteAt bs 22)
  let timeout ← refreshTimeoutOf (numAt bs 23 2)
  some {
    enabled := enabled
    identifier := identifier
    mask := mask
    extended := extended
    startBit := start
    bitLength := length
    byteOrder := order
    signed := signed
    multiplier := field16 bs 14
    divisor := divisor
    offset := field32 bs 18
    targetSlot := target
    refreshTimeout := timeout }

/-! ## RULES -/

/-- The qualifier's seven bytes less its slot; for an absent qualifier they are free (log entry 15). -/
def qualifierBytes (q : Option Qualifier) : List Byte :=
  match q with
  | none => [0xFF#8, Config.absentQualifierComparison] ++ bytes32 Config.absentQualifierThreshold
  | some x => [numByte x.slot.val, numByte x.comparison.code] ++ bytes32 x.threshold

/-- A fault code as two bytes; absent is 0000h (R208). -/
def faultCodeBytes (c : Option (BitVec 16)) : List Byte :=
  match c with
  | none => [0#8, 0#8]
  | some x => bytes16 x

/-- A RULES item as 24 bytes. -/
def RuleItem.bytes (x : RuleItem) : List Byte :=
  [flagByte x.enabled, numByte x.signalSlot.val, numByte x.comparison.code] ++ bytes32 x.threshold
    ++ bytes16 x.hysteresis ++ qualifierBytes x.qualifier ++ leBytes 2 x.raiseDelay
    ++ leBytes 2 x.clearDelay ++ [numByte x.cls.rank, flagByte x.latching] ++ faultCodeBytes x.faultCode
    ++ [numByte x.reAnnounce]

/-- A qualifier at a position: slot FFh is absent, and the rest is then ignored (Table 79). -/
def qualifierAt (bs : List Byte) (i : Nat) : Option (Option Qualifier) :=
  if byteAt bs i = 0xFF#8 then some none
  else do
    let slot ← toIndex 96 (byteAt bs i).toNat
    let comparison ← QualifierComparison.ofCode (byteAt bs (i + 1)).toNat
    some (some { slot := slot, comparison := comparison, threshold := field32 bs (i + 2) })

/-- A rule's fault code: 0000h absent, or 0001h–DFFFh (Table 28). -/
def faultCodeOf (n : Nat) : Option (Option (BitVec 16)) :=
  if n = 0 then some none
  else if n ≤ 0xDFFF then some (some (BitVec.ofNat 16 n))
  else none

/-- A RULES item from bytes (Table 28). -/
def RuleItem.ofBytes (bs : List Byte) : Option RuleItem := do
  let enabled ← flagOf (byteAt bs 0)
  let slot ← toIndex 96 (byteAt bs 1).toNat
  let comparison ← Comparison.ofCode (byteAt bs 2).toNat
  let qualifier ← qualifierAt bs 9
  let raise ← inRange 0 60000 (numAt bs 15 2)
  let clear ← inRange 0 60000 (numAt bs 17 2)
  let cls ← WarningClass.ofCode (byteAt bs 19).toNat
  let latching ← flagOf (byteAt bs 20)
  let code ← faultCodeOf (numAt bs 21 2)
  let interval ← inRange 0 60 (byteAt bs 23).toNat
  some {
    enabled := enabled
    signalSlot := slot
    comparison := comparison
    threshold := field32 bs 3
    hysteresis := field16 bs 7
    qualifier := qualifier
    raiseDelay := raise
    clearDelay := clear
    cls := cls
    latching := latching
    faultCode := code
    reAnnounce := interval }

/-! ## DOORS -/

/-- A DOORS item as 14 bytes. -/
def DoorItem.bytes (x : DoorItem) : List Byte :=
  [flagByte x.present, numByte x.closedInput.val, optByte x.openInput, optByte x.edgeInput,
    optByte x.releaseInput, optByte x.lockedInput, optByte x.rampInput]
    ++ leBytes 2 x.openLimit ++ leBytes 2 x.closeLimit ++ [numByte x.reversalLimit]
    ++ leBytes 2 x.settleTime

/-- A DOORS item from bytes (Table 41). -/
def DoorItem.ofBytes (bs : List Byte) : Option DoorItem := do
  let present ← flagOf (byteAt bs 0)
  let closed ← toIndex 32 (byteAt bs 1).toNat
  let openI ← optIndexOf 32 (byteAt bs 2)
  let edge ← optIndexOf 32 (byteAt bs 3)
  let release ← optIndexOf 32 (byteAt bs 4)
  let locked ← optIndexOf 32 (byteAt bs 5)
  let ramp ← optIndexOf 32 (byteAt bs 6)
  let openL ← inRange 500 20000 (numAt bs 7 2)
  let closeL ← inRange 500 20000 (numAt bs 9 2)
  let reversal ← inRange 1 7 (byteAt bs 11).toNat
  let settle ← inRange 200 5000 (numAt bs 12 2)
  some {
    present := present
    closedInput := closed
    openInput := openI
    edgeInput := edge
    releaseInput := release
    lockedInput := locked
    rampInput := ramp
    openLimit := openL
    closeLimit := closeL
    reversalLimit := reversal
    settleTime := settle }

/-! ## Items of a calibration (R185) -/

/-- Whether an index lies in the range of its section (Table 61). -/
def CalibSection.hasIndex (sec : CalibSection) (i : Nat) : Bool := decide (i < sec.count)

/-- The item at a section and an index as bytes; no bytes for an index outside the range. -/
def Calibration.itemBytes (c : Calibration) (sec : CalibSection) (i : Nat) : List Byte :=
  match sec with
  | .general => (toIndex 1 i).elim [] fun _ => c.general.bytes
  | .slots => (toIndex 96 i).elim [] fun k => c.slots[k].bytes
  | .switches => (toIndex 32 i).elim [] fun k => c.switches[k].bytes
  | .senders => (toIndex 8 i).elim [] fun k => c.senders[k].bytes
  | .channels => (toIndex 8 i).elim [] fun k => c.channels[k].bytes
  | .filters => (toIndex 32 i).elim [] fun k => c.filters[k].bytes
  | .rules => (toIndex 48 i).elim [] fun k => c.rules[k].bytes
  | .doors => (toIndex 4 i).elim [] fun k => c.doors[k].bytes

/-- The calibration with the item at a section and an index replaced by the one the bytes give; absent
when the bytes are too few, the index lies outside the range or a field lies outside its range. -/
def Calibration.withItem (c : Calibration) (sec : CalibSection) (i : Nat) (bs : List Byte) :
    Option Calibration :=
  if bs.length < sec.size then none
  else match sec with
  | .general => do
    let _ ← toIndex 1 i
    let x ← GeneralItem.ofBytes bs
    some { c with general := x }
  | .slots => do
    let k ← toIndex 96 i
    let x ← SlotItem.ofBytes bs
    some { c with slots := c.slots.set k x }
  | .switches => do
    let k ← toIndex 32 i
    let x ← SwitchItem.ofBytes bs
    some { c with switches := c.switches.set k x }
  | .senders => do
    let k ← toIndex 8 i
    let x ← SenderItem.ofBytes bs
    some { c with senders := c.senders.set k x }
  | .channels => do
    let k ← toIndex 8 i
    let x ← ChannelItem.ofBytes bs
    some { c with channels := c.channels.set k x }
  | .filters => do
    let k ← toIndex 32 i
    let x ← FilterItem.ofBytes bs
    some { c with filters := c.filters.set k x }
  | .rules => do
    let k ← toIndex 48 i
    let x ← RuleItem.ofBytes bs
    some { c with rules := c.rules.set k x }
  | .doors => do
    let k ← toIndex 4 i
    let x ← DoorItem.ofBytes bs
    some { c with doors := c.doors.set k x }

/-- Every item of a calibration, in section order and index order (R210). -/
def allItems : List (CalibSection × Nat) :=
  allSections.flatMap fun sec => (List.range sec.count).map fun i => (sec, i)

/-- The calibration image: the items laid end to end, 2,872 bytes (R210). -/
def Calibration.image (c : Calibration) : List Byte :=
  allItems.flatMap fun x => c.itemBytes x.1 x.2

/-- Rebuild items from an image, one after another. -/
def itemsOfImage : List (CalibSection × Nat) → List Byte → Calibration → Option Calibration
  | [], _, c => some c
  | (sec, i) :: rest, bs, c =>
    (c.withItem sec i (bs.take sec.size)).bind (itemsOfImage rest (bs.drop sec.size))

/-- The calibration that an image holds; absent when a field is outside its range (R210). -/
def Calibration.ofImage (bs : List Byte) : Option Calibration :=
  itemsOfImage allItems bs Calibration.factory

end Sys2Proof.Machine
end

