-- ==== Sys2Proof/Machine/Flash.lean ====
section
/-! DEFINITION. The flash array (R153): its slots, what operations leave in them, the record layouts
(R210), and what the slots read as. -/

namespace Sys2Proof.Machine

/-! ## Slots -/

/-- The address of a slot: block × 64 + slot. -/
def slotAddress (b : Fin 16) (k : Fin 64) : Nat := b.val * 64 + k.val

/-- What stands in a slot; nothing in an erased one. -/
def Flash.read : Flash → Nat → Option FlashSlot
  | [], _ => none
  | (a, x) :: rest, n => if a = n then some x else Flash.read rest n

/-- A slot programmed: the entry of its address set, the addresses kept rising. -/
def Flash.program : Flash → Nat → FlashSlot → Flash
  | [], n, x => [(n, x)]
  | (a, y) :: rest, n, x =>
    if n < a then (n, x) :: (a, y) :: rest
    else if n = a then (n, x) :: rest
    else (a, y) :: Flash.program rest n x

/-- A slot erased. -/
def Flash.eraseSlot (f : Flash) (n : Nat) : Flash := f.filter fun e => e.1 != n

/-- Every slot of a block erased. -/
def Flash.eraseBlock (f : Flash) (b : Fin 16) : Flash := f.filter fun e => e.1 / 64 != b.val

/-- Whether addresses rise strictly. -/
def rising : List Nat → Bool
  | a :: b :: rest => decide (a < b) && rising (b :: rest)
  | [_] | [] => true

/-- The canonical form: addresses rise strictly, so that equal arrays are equal data. An erased slot has no
entry. -/
def Flash.wf (f : Flash) : Bool := rising (f.map Prod.fst)

/-- Contents with the bytes of 00h that follow them (R210). -/
def padded (bs : List Byte) : List Byte := (bs ++ List.replicate 60 0#8).take 60

/-- A slot as a program with PASS leaves it (R209, R210). -/
def slotOf (bs : List Byte) : FlashSlot := ⟨padded bs, crc8 (padded bs)⟩

/-- Whether a slot passes its check. -/
def FlashSlot.passes (x : FlashSlot) : Bool := crc8 x.content == x.check

/-! ## What abandoned and failed operations leave (log entry 11) -/

/-- Sixty free bytes. -/
def freeContent (draw n : Nat) : List Byte := (List.range 60).map (Config.flashByte draw n)

/-- A programmed slot of any contents and any check. -/
def anySlot (draw n : Nat) : FlashSlot := ⟨freeContent draw n, Config.flashByte draw n 60⟩

/-- A programmed slot that fails its check. -/
def tornSlot (draw n : Nat) : FlashSlot :=
  let c := freeContent draw n
  let x := Config.flashByte draw n 60
  ⟨c, crc8 c ^^^ (if x = 0#8 then 1#8 else x)⟩

/-- The array after a FAIL of a program of a slot: the slot is erased or holds anything (R153). -/
def Flash.afterFail (f : Flash) (draw n : Nat) : Flash :=
  if Config.flashOutcome draw n % 2 = 0 then f else f.program n (anySlot draw n)

/-- The array after an abandoned program: the slot erased, failing its check, or whole (R169). -/
def Flash.afterTorn (f : Flash) (draw n : Nat) (x : FlashSlot) : Flash :=
  match Config.flashOutcome draw n % 3 with
  | 0 => f
  | 1 => f.program n (tornSlot draw n)
  | _ => f.program n x

/-- An entry of a block whose erase failed or was abandoned: erased, as it was, or holding anything; the
header is erased or fails its check (R153). -/
def halfErased (draw : Nat) (b : Fin 16) (e : Nat × FlashSlot) : Option (Nat × FlashSlot) :=
  if e.1 / 64 ≠ b.val then some e
  else if e.1 % 64 = 0 then
    if Config.flashOutcome draw e.1 % 2 = 0 then none else some (e.1, tornSlot draw e.1)
  else match Config.flashOutcome draw e.1 % 3 with
    | 0 => none
    | 1 => some e
    | _ => some (e.1, anySlot draw e.1)

/-- The array after an erase that failed or was abandoned (R153, R169). -/
def Flash.afterHalfErase (f : Flash) (draw : Nat) (b : Fin 16) : Flash := f.filterMap (halfErased draw b)

/-- The slot an operation programs, with what PASS leaves there; none for an erase. -/
def FlashOp.target (f : Flash) : FlashOp → Option (Nat × FlashSlot)
  | .program b k content => some (slotAddress b k, slotOf content)
  | .copyBack b k fb fk =>
    some (slotAddress b k, (f.read (slotAddress fb fk)).getD (slotOf []))
  | .erase _ => none

/-- The block an operation works on. -/
def FlashOp.block : FlashOp → Fin 16
  | .program b _ _ => b
  | .copyBack b _ _ _ => b
  | .erase b => b

/-- The array after an operation ends with PASS. -/
def Flash.passed (f : Flash) (op : FlashOp) : Flash :=
  match op.target f with
  | some (n, x) => f.program n x
  | none => f.eraseBlock op.block

/-- The array after an operation ends with FAIL. A marker slot stays erased: its block reads as good at the
next start-up (R166). -/
def Flash.failed (f : Flash) (draw : Nat) (op : FlashOp) : Flash :=
  match op.target f with
  | some (n, _) => if n % 64 = 63 then f else f.afterFail draw n
  | none => f.afterHalfErase draw op.block

/-- The array after an operation was abandoned. -/
def Flash.abandoned (f : Flash) (draw : Nat) (op : FlashOp) : Flash :=
  match op.target f with
  | some (n, x) => f.afterTorn draw n x
  | none => f.afterHalfErase draw op.block

/-! ## Areas (Table 53) -/

/-- The number of an area. -/
def Area.number : Area → Nat
  | .calibration => 0 | .counters => 1 | .faults => 2

/-- The area of a block. -/
def areaOf (b : Fin 16) : Area :=
  if b.val < 2 then .calibration else if b.val < 6 then .counters else .faults

/-- The lowest block of an area. -/
def Area.lowest : Area → Fin 16
  | .calibration => 0 | .counters => 2 | .faults => 6

/-- The blocks of an area, in number order. -/
def Area.blocks (a : Area) : List (Fin 16) := allBlocks.filter fun b => areaOf b == a

/-- The blocks of an area in cyclic order after a block, which stands last (R154, R158). -/
def Area.cyclicAfter (a : Area) (b : Fin 16) : List (Fin 16) :=
  (a.blocks.filter fun c => decide (b < c)) ++ a.blocks.filter fun c => decide (c ≤ b)

/-! ## Record contents (Table 55, R210) -/

/-- A header. -/
def headerContent (a : Area) (sequence : BitVec 32) : List Byte :=
  numByte a.number :: bytes32 sequence

/-- A COUNTER record. -/
def counterContent (sequence : BitVec 32) (v : CounterValues) : List Byte :=
  1#8 :: bytes32 sequence ++ bytes32 v.odometer ++ bytes32 v.hours ++ v.cycles.toList.flatMap bytes32
    ++ bytes16 v.ignition

/-- A FAULT ENTRY record. -/
def entryContent (e : FaultEntry) : List Byte := 2#8 :: e.bytes

/-- A FAULT REMOVE record. -/
def removeContent (code : BitVec 16) : List Byte := 3#8 :: bytes16 code

/-- An IMAGE_END record. -/
def imageEndContent : List Byte := [4#8]

/-- CALIBRATION record k of an image: 57 bytes from 57 × k. -/
def calibrationContent (image : List Byte) (k : Nat) : List Byte :=
  5#8 :: numByte k :: (image.drop (57 * k)).take 57

/-- A marker is a programmed slot of any contents: the model programs none (log entry 32). -/
def markerContent : List Byte := []

/-! ## What slots read as -/

/-- Whether a slot is programmed. -/
def Flash.programmed (f : Flash) (b : Fin 16) (k : Fin 64) : Bool := (f.read (slotAddress b k)).isSome

/-- The contents of a slot that passes its check. -/
def Flash.good (f : Flash) (b : Fin 16) (k : Fin 64) : Option (List Byte) :=
  match f.read (slotAddress b k) with
  | some x => if x.passes then some x.content else none
  | none => none

/-- The record of a kind 01h to 05h in a slot that passes its check; another kind reads as failing it
(R210). -/
def Flash.record (f : Flash) (b : Fin 16) (k : Fin 64) : Option (List Byte) :=
  (f.good b k).filter fun c => decide (1 ≤ (byteAt c 0).toNat ∧ (byteAt c 0).toNat ≤ 5)

/-- The area number and block sequence of a header that passes its check. -/
def Flash.header (f : Flash) (b : Fin 16) : Option (Nat × BitVec 32) :=
  (f.good b 0).map fun c => ((byteAt c 0).toNat, field32 c 1)

/-- The record slots 1 to 62. -/
def recordSlots : List (Fin 64) := (List.finRange 64).filter fun k => decide (1 ≤ k.val ∧ k.val ≤ 62)

/-- The counter sequence and values of a COUNTER record. -/
def counterOf (c : List Byte) : BitVec 32 × CounterValues :=
  (field32 c 1,
    { odometer := field32 c 5
      hours := field32 c 9
      cycles := #v[field32 c 13, field32 c 17, field32 c 21, field32 c 25]
      ignition := field16 c 29 })

/-- The COUNTER record in a slot, passing its check. -/
def Flash.counter (f : Flash) (b : Fin 16) (k : Fin 64) : Option (BitVec 32 × CounterValues) :=
  ((f.record b k).filter fun c => byteAt c 0 == 1#8).map counterOf

/-- The CALIBRATION record in a slot, 57 image bytes; a record whose number is not its slot minus 1 reads as
failing its check (R210). -/
def Flash.calibrationPart (f : Flash) (b : Fin 16) (k : Fin 64) : Option (List Byte) :=
  ((f.record b k).filter fun c => byteAt c 0 == 5#8 && (byteAt c 1).toNat + 1 == k.val).map
    fun c => (c.drop 2).take 57

/-- Whether a slot holds an IMAGE_END passing its check. -/
def Flash.imageEnd (f : Flash) (b : Fin 16) (k : Fin 64) : Bool :=
  (f.record b k).any fun c => byteAt c 0 == 4#8

end Sys2Proof.Machine
end

