-- ==== Sys2Proof/Machine/Validation.lean ====
section
/-! DEFINITION. Validation: the cross-item checks of a calibration, in the section order of Table 61 and
within a section in index order (R186), with the conditions of R2, R3, R26, R37, R63, R73, R107, R113. -/

namespace Sys2Proof.Machine

/-- Whether a slot of a calibration is bound. -/
def Calibration.bound (c : Calibration) (i : Fin 96) : Bool := c.slots[i].kind != .unused

/-- Whether an optional role slot is absent or names a bound slot (R3). -/
def Calibration.roleBound (c : Calibration) (r : Option (Fin 96)) : Bool :=
  match r with
  | none => true
  | some i => c.bound i

/-- GENERAL: role slots bound (R3) and thresholds in order (R107). -/
def Calibration.generalValid (c : Calibration) : Bool :=
  c.roleBound c.general.speedSlot && c.roleBound c.general.brakeSlot
    && c.general.freezeSlots.toList.all c.roleBound
    && decide (c.general.openLow.toInt ≤ c.general.openHigh.toInt)

/-- Whether a source index lies in the range of its kind (Table 6, R2). -/
def SlotItem.indexFits (x : SlotItem) : Bool :=
  match x.kind, x.index with
  | .unused, none | .stopReq, none => true
  | .unused, some _ | .stopReq, some _ => false
  | .switch, some _ | .network, some _ => true
  | .sender, some k | .channel, some k => decide (k.val < 8)
  | .door, some k => decide (k.val < 4)
  | .switch, none | .network, none | .sender, none | .channel, none | .door, none => false

/-- SLOTS: the index suits the kind, and a NETWORK slot is the target slot of its entry (R2). -/
def Calibration.slotValid (c : Calibration) (i : Fin 96) : Bool :=
  c.slots[i].indexFits &&
    (match c.slots[i].kind, c.slots[i].index with
    | .network, some e => c.filters[e].targetSlot == some i
    | _, _ => true)

/-- The curve points in use (R26). -/
def SenderItem.pointsInUse (x : SenderItem) : List CurvePoint := x.points.toList.take x.pointCount.val

/-- Whether numbers rise strictly from the first to the last. -/
def risingStrictly : List Nat → Bool
  | a :: b :: rest => decide (a < b) && risingStrictly (b :: rest)
  | [_] | [] => true

/-- SENDERS: 2 to 8 points, raw values strictly increasing, short threshold below open (R26). -/
def SenderItem.valid (x : SenderItem) : Bool :=
  decide (2 ≤ x.pointCount.val) && risingStrictly (x.pointsInUse.map fun p => p.raw.toNat)
    && (match x.openThreshold, x.shortThreshold with
      | some o, some sh => decide (sh < o)
      | _, _ => true)

/-- Whether a channel of a lower index has the same role (log entry 17). -/
def Calibration.roleTaken (c : Calibration) (i : Fin 8) : Bool :=
  allEight.any fun j => decide (j < i) && (c.channels[j].role == c.channels[i].role)

/-- CHANNELS: the conditions of R37. -/
def Calibration.channelValid (c : Calibration) (i : Fin 8) : Bool :=
  let x := c.channels[i]
  !(x.mode == .width && x.edge == .both)
    && !(i == 0 && x.mode == .follow)
    && (x.role == .noRole || (x.mode == .follow && x.upperSetPoint == 0))
    && (x.role == .noRole || !c.roleTaken i)

/-- FILTERS: the conditions of R63 and R2. -/
def Calibration.filterValid (c : Calibration) (e : Fin 32) : Bool :=
  let x := c.filters[e]
  (!x.enabled || x.targetSlot.isSome)
    && decide (x.startBit + x.bitLength ≤ 64)
    && (x.extended || decide (x.identifier.toNat ≤ 0x7FF))
    && (match x.targetSlot with
      | none => true
      | some t => c.slots[t].kind == .network && c.slots[t].index == some e)

/-- Whether an enabled rule of a lower index has the same fault code (R73). -/
def Calibration.codeTaken (c : Calibration) (r : Fin 48) : Bool :=
  allRules.any fun q =>
    decide (q < r) && c.rules[q].enabled && (c.rules[q].faultCode == c.rules[r].faultCode)

/-- Whether a fault code lies in the part's own range E000h–EFFFh (R73). -/
def reservedCode (code : BitVec 16) : Bool := decide (0xE000 ≤ code.toNat ∧ code.toNat ≤ 0xEFFF)

/-- RULES: the conditions of R73 on an enabled rule. -/
def Calibration.ruleValid (c : Calibration) (r : Fin 48) : Bool :=
  let x := c.rules[r]
  !x.enabled ||
    (c.bound x.signalSlot
      && (match x.qualifier with
        | none => true
        | some q => c.bound q.slot)
      && (!x.latching || x.cls == .stop)
      && (x.reAnnounce == 0 || x.cls == .stop || x.cls == .caution)
      && (match x.faultCode with
        | none => true
        | some code => !c.codeTaken r && !reservedCode code))

/-- The inputs a door names (R113). -/
def DoorItem.inputs (x : DoorItem) : List (Fin 32) :=
  [some x.closedInput, x.openInput, x.edgeInput, x.releaseInput, x.lockedInput, x.rampInput].filterMap id

/-- DOORS: different inputs, and a settle time below the open limit without an open input (R113). -/
def DoorItem.valid (x : DoorItem) : Bool :=
  !x.present || (decide x.inputs.Nodup && (x.openInput.isSome || decide (x.settleTime < x.openLimit)))

/-- Whether the item at a section and an index meets every condition of its section. A switch item has
no cross-item condition (R19). -/
def Calibration.itemValid (c : Calibration) (sec : CalibSection) (i : Nat) : Bool :=
  match sec with
  | .general => c.generalValid
  | .slots => (toIndex 96 i).elim true c.slotValid
  | .switches => true
  | .senders => (toIndex 8 i).elim true fun k => c.senders[k].valid
  | .channels => (toIndex 8 i).elim true c.channelValid
  | .filters => (toIndex 32 i).elim true c.filterValid
  | .rules => (toIndex 48 i).elim true c.ruleValid
  | .doors => (toIndex 4 i).elim true fun k => c.doors[k].valid

/-- The first item at fault, absent for a valid calibration (R186). -/
def Calibration.firstFault (c : Calibration) : Option (CalibSection × Nat) :=
  allItems.find? fun x => !c.itemValid x.1 x.2

end Sys2Proof.Machine
end

