-- ==== Sys2Proof/Machine/Flags.lean ====
section
/-! DEFINITION. Notice flags, notice masks and the attention line (R196–R198), with the bit of each
flag (section 13.3). -/

namespace Sys2Proof.Machine

/-- The ANSWER flag. -/
def flagAnswer : Notices := 0x01#8
/-- The WARNINGS flag. -/
def flagWarnings : Notices := 0x02#8
/-- The DOORS flag. -/
def flagDoors : Notices := 0x04#8
/-- The FAULTS flag. -/
def flagFaults : Notices := 0x08#8
/-- The LIVE flag. -/
def flagLive : Notices := 0x10#8
/-- The STORE flag. -/
def flagStore : Notices := 0x20#8
/-- The POWER flag. -/
def flagPower : Notices := 0x40#8
/-- The SIGNAL flag. -/
def flagSignal : Notices := 0x80#8

/-- A notice event at one port: the flag is added, whether or not the mask holds it (R196). -/
def PortRecord.notice (r : PortRecord) (f : Notices) : PortRecord := { r with flags := r.flags ||| f }

/-- A notice on one port. -/
def State.noticeOn (s : State) (p : Port) (f : Notices) : State := s.setPort p ((s.port p).notice f)

/-- A notice on all three ports (Table 69). -/
def State.notice (s : State) (f : Notices) : State :=
  { s with ptu := ⟨s.ptu.cluster.notice f, s.ptu.body.notice f, s.ptu.service.notice f⟩ }

/-- The attention line: asserted while flags and mask have a flag in common (R197). -/
def PortRecord.attention (r : PortRecord) : Bool := r.flags &&& r.mask != 0#8

/-- The NOTICE flag of an answer frame, which counts ANSWER as clear (R197). -/
def PortRecord.noticeInAnswer (r : PortRecord) : Bool :=
  r.flags &&& ~~~flagAnswer &&& r.mask != 0#8

end Sys2Proof.Machine
end

