-- ==== Sys2Proof/Machine/Reading.lean ====
section
/-! DEFINITION. What blocks read of one another's records: visible contents (section 1.1), the age (R14)
and the odometer count (R52). -/

namespace Sys2Proof.Machine

/-- A live status as a visible status. -/
def LiveStatus.visible : LiveStatus → Status
  | .notAvailable => .notAvailable
  | .valid => .valid
  | .stale => .stale
  | .outOfRange => .outOfRange

/-- The visible value: the substitute while there is one (section 1.1). -/
def Slot.visibleValue (x : Slot) : Value := x.substitution.getD x.liveValue

/-- The visible status: SUBSTITUTED while there is a substitution (section 1.1). -/
def Slot.visibleStatus (x : Slot) : Status :=
  if x.substitution.isSome then .substituted else x.liveStatus.visible

/-- Whether a slot is bound. -/
def Slot.bound (x : Slot) : Bool := x.kind != .unused

/-- The age of a slot, saturated at 65,535 ms (R14). -/
def Slot.age (x : Slot) (now : Time) : Nat := min (elapsed now x.updateTime) 65535

/-- The channel that has a role, if any (R37, R50). -/
def Calibration.roleChannel (c : Calibration) (r : Role) : Option (Fin 8) :=
  allEight.find? fun i => c.channels[i].role == r

/-- The odometer count as WRE, FLM and SVC read it: 0 while no channel has role ODOMETER (R52). -/
def State.odometer (s : State) : Count :=
  if (s.cal.roleChannel .odometer).isSome then s.ccu.odometer.count else 0

/-- The visible contents that a freeze role captures (R140). -/
def State.freezeMember (s : State) (role : Option (Fin 96)) : FreezeMember :=
  match role with
  | none => ⟨0, .notAvailable⟩
  | some i => ⟨s.slots[i].visibleValue, s.slots[i].visibleStatus⟩

/-- A freeze frame captured now; none when no freeze role is named (R140). -/
def State.freezeFrame (s : State) : Option (Vector FreezeMember 4) :=
  if s.cal.general.freezeSlots.toList.any Option.isSome then
    some (s.cal.general.freezeSlots.map s.freezeMember)
  else none

end Sys2Proof.Machine
end

