-- ==== Sys2Proof/Machine/StoreQueue.lean ====
section
/-! DEFINITION. The Flash Job Queue: coalescing of requests (Table 56), the turning of a full queue
(R161), and the store idle condition (R206). -/

namespace Sys2Proof.Machine

/-- Whether a job is a FAULT_APPEND. -/
def Job.isAppend : Job → Bool
  | .faultAppend _ => true
  | .counterSave | .faultRewrite | .calibWrite => false

/-- A job joins the end of the queue, unless an equal one is queued already. -/
def joinQueue (q : List Job) (j : Job) : List Job := if j ∈ q then q else q ++ [j]

/-- The outcome of a request by Table 56. -/
def coalesce (q : List Job) (j : Job) : List Job :=
  match j with
  | .counterSave => joinQueue q .counterSave
  | .faultAppend c => if .faultRewrite ∈ q then q else joinQueue q (.faultAppend c)
  | .faultRewrite => joinQueue (q.filter fun k => !k.isAppend) .faultRewrite
  | .calibWrite => joinQueue q .calibWrite

/-- A request taken by the queue: one that Table 56 would queue into a full queue first turns the queued
FAULT_APPENDs into one FAULT_REWRITE (R161). -/
def enqueue (q : List Job) (j : Job) : List Job :=
  if (coalesce q j).length ≤ 8 then coalesce q j else coalesce (coalesce q .faultRewrite) j

/-- Whether flash jobs are taken and erases started: in RUN and AFTERRUN (R162). -/
def PowerState.working : PowerState → Bool
  | .run | .afterrun => true
  | .start | .sleep => false

/-- Whether some block is STALE (R168). -/
def Rst.hasStale (r : Rst) : Bool := allBlocks.any fun b => r.blocks[b].state == .stale

/-- The store idle condition (R168, R206): the controller is IDLE, the queue is empty, and no background
erase is about to start (log entry 20). -/
def State.storeIdle (s : State) : Bool :=
  s.rst.controller == .idle && s.rst.queue.isEmpty && !(s.pwc.power.working && s.rst.hasStale)

/-- A store request from another block: one event at the Record Store (R160). The store idle condition
is then NO, since the queue holds a job. -/
def rstRequest (j : Job) (s : State) : State :=
  let s := s.setRst { s.rst with queue := enqueue s.rst.queue j }
  s.setPwc { s.pwc with storeIdle := s.storeIdle }

end Sys2Proof.Machine
end

