-- ==== Sys2Proof/Machine/FaultMemory.lean ====
section
/-! DEFINITION. The Fault Memory (chapter 8): occurrences, ends, replacement, aging, clear, the held
reports of START, and the store requests that follow. -/

namespace Sys2Proof.Machine

/-- What an event at FLM stamps an entry with (R138, R139, R140). -/
structure FaultStamp where
  odometer : Count
  ignition : BitVec 16
  freeze : Option (Vector FreezeMember 4)
  deriving DecidableEq, Repr

/-- The stamps as they stand now. -/
def State.faultStamp (s : State) : FaultStamp := ⟨s.odometer, s.pwc.ignitionCycles, s.freezeFrame⟩

/-- What an event makes of the list and its header, whether that counts as a change (R144), and the
store requests it makes (R145). -/
structure FaultChange where
  list : List FaultEntry
  overflow : Bool
  changed : Bool
  jobs : List Job
  deriving DecidableEq, Repr

/-- No change. -/
def Flm.unchanged (f : Flm) : FaultChange := ⟨f.list, f.overflow, false, []⟩

/-- Whether the list holds a code. -/
def Flm.holds (f : Flm) (code : BitVec 16) : Bool := f.list.any fun e => e.code == code

/-- An entry updated by occurrences of its code (R138). -/
def FaultEntry.occur (e : FaultEntry) (source : FaultSource) (number : BitVec 8) (st : FaultStamp) :
    FaultEntry :=
  { e with
    active := true
    occurrences := satAdd e.occurrences number
    lastOdometer := st.odometer
    lastIgnition := st.ignition
    aging := 0
    source := source }

/-- A new entry (R139, R151). -/
def newEntry (code : BitVec 16) (source : FaultSource) (number : BitVec 8) (st : FaultStamp) :
    FaultEntry where
  code := code
  source := source
  active := true
  occurrences := number
  firstOdometer := st.odometer
  lastOdometer := st.odometer
  firstIgnition := st.ignition
  lastIgnition := st.ignition
  aging := 0
  freeze := st.freeze

/-- The older candidate stands unless the new one is STORED with a larger aging (R141). -/
def olderOf (best : Option FaultEntry) (e : FaultEntry) : Option FaultEntry :=
  match best with
  | none => if e.active then none else some e
  | some b => if !e.active && decide (b.aging < e.aging) then some e else some b

/-- The STORED entry with the largest aging, the earliest among equals (R141). -/
def replaceable (l : List FaultEntry) : Option FaultEntry := l.foldl olderOf none

/-- The list without a code; later entries close up (R136). -/
def withoutCode (code : BitVec 16) (l : List FaultEntry) : List FaultEntry :=
  l.filter fun e => e.code != code

/-- An entry's state becomes STORED. -/
def FaultEntry.stored (e : FaultEntry) : FaultEntry := { e with active := false }

/-- Apply a change to the entry of a code. -/
def onCode (code : BitVec 16) (f : FaultEntry → FaultEntry) (l : List FaultEntry) : List FaultEntry :=
  l.map fun e => if e.code = code then f e else e

/-- An occurrence, of the number given, of a code (R138, R139, R141). -/
def Flm.occurrence (f : Flm) (code : BitVec 16) (source : FaultSource) (number : BitVec 8)
    (st : FaultStamp) : FaultChange :=
  if f.holds code then
    ⟨onCode code (fun e => e.occur source number st) f.list, f.overflow, true, [.faultAppend code]⟩
  else if f.list.length < 32 then
    ⟨f.list ++ [newEntry code source number st], f.overflow, true, [.faultAppend code]⟩
  else match replaceable f.list with
    | some old =>
      ⟨withoutCode old.code f.list ++ [newEntry code source number st], f.overflow, true,
        [.faultAppend old.code, .faultAppend code]⟩
    | none => ⟨f.list, true, !f.overflow, []⟩

/-- The entry of a code becomes STORED within the same event (R142, R151). -/
def FaultChange.store (c : FaultChange) (code : BitVec 16) : FaultChange :=
  { c with list := onCode code FaultEntry.stored c.list }

/-- An end of a code (R143). -/
def Flm.ended (f : Flm) (code : BitVec 16) : FaultChange :=
  if f.list.any fun e => e.code == code && e.active then
    ⟨onCode code FaultEntry.stored f.list, f.overflow, true, [.faultAppend code]⟩
  else f.unchanged

/-- Whether a code is one of E300h to E400h, which are STORED at once (R142). -/
def storedAtOnce (code : BitVec 16) : Bool := decide (0xE300 ≤ code.toNat ∧ code.toNat ≤ 0xE400)

/-- A report applied to the list (R138–R143). -/
def Flm.apply (f : Flm) (r : Report) (st : FaultStamp) : FaultChange :=
  match r with
  | .occurrence code source =>
    let c := f.occurrence code source 1 st
    if storedAtOnce code then c.store code else c
  | .ended code => f.ended code

/-- One event at FLM: a change raises the generation by 1 and sets the FAULTS notice once (R144), and then
makes its store requests, each an event of its own (R145). -/
def flmEvent (c : FaultChange) (s : State) : State :=
  if c.changed then
    let s := s.setFlm
      { s.flm with list := c.list, overflow := c.overflow, generation := s.flm.generation + 1 }
    c.jobs.foldl (fun t j => rstRequest j t) (s.notice flagFaults)
  else s

/-! ## Reports, and the held reports of START (R151) -/

/-- The member of a code after one more report. -/
def HeldReport.add (m : HeldReport) (r : Report) : HeldReport :=
  match r with
  | .occurrence _ source =>
    { m with source := some source, number := satInc m.number, lastIsEnd := false }
  | .ended _ => { m with lastIsEnd := true }

/-- The code of a report. -/
def Report.code : Report → BitVec 16
  | .occurrence code _ => code
  | .ended code => code

/-- A report held: it adds to the member of its code, or makes one at the end of the table. -/
def hold (table : List HeldReport) (r : Report) : List HeldReport :=
  if table.any fun m => m.code == r.code then
    table.map fun m => if m.code = r.code then m.add r else m
  else table ++ [HeldReport.add ⟨r.code, none, 0, false⟩ r]

/-- A report from another block: held until the replay has completed, and applied afterwards. -/
def flmReport (r : Report) (s : State) : State :=
  if s.flm.replayDone then flmEvent (s.flm.apply r s.faultStamp) s
  else s.setFlm { s.flm with held := hold s.flm.held r }

/-- Reports of one block, in the order in which it sends them (R136). -/
def flmReports (rs : List Report) (s : State) : State := rs.foldl (fun t r => flmReport r t) s

/-- A held member applied: as occurrences of the number held, or as an end (R151). -/
def Flm.applyHeld (f : Flm) (m : HeldReport) (st : FaultStamp) : FaultChange :=
  match m.source with
  | some source =>
    let c := f.occurrence m.code source m.number st
    if m.lastIsEnd || storedAtOnce m.code then c.store m.code else c
  | none => f.ended m.code

/-- The held members applied in table order, each as one event; the table is then empty (R151). -/
def flmApplyHeld (s : State) : State :=
  let members := s.flm.held
  members.foldl (fun t m => flmEvent (t.flm.applyHeld m t.faultStamp) t)
    (s.setFlm { s.flm with held := [] })

/-- The replay list becomes the Fault List: every entry STORED, generation 0, mark CLEAR (R150). -/
def flmReplay (l : List FaultEntry) (s : State) : State :=
  s.setFlm { s.flm with
    list := l.map FaultEntry.stored, generation := 0, overflow := false, replayDone := true }

/-! ## Aging and clear -/

/-- An entry at an aging step: a STORED entry ages, and leaves at the limit (R146). -/
def FaultEntry.aged (limit : BitVec 8) (e : FaultEntry) : Option FaultEntry :=
  if e.active then some e
  else
    let a := satInc e.aging
    if limit ≤ a then none else some { e with aging := a }

/-- The aging step (R146). -/
def Flm.agingStep (f : Flm) (limit : BitVec 8) : FaultChange :=
  if f.list.any fun e => !e.active then
    ⟨f.list.filterMap (FaultEntry.aged limit), f.overflow, true, [.faultRewrite]⟩
  else f.unchanged

/-- The aging step at FLM, handed at each ignition-on (R146, R204). -/
def flmAging (s : State) : State := flmEvent (s.flm.agingStep s.cal.general.agingLimit) s

/-- An entry kept by a clear (R147). -/
def FaultEntry.cleared (st : FaultStamp) (e : FaultEntry) : FaultEntry :=
  { e with
    occurrences := 1
    firstOdometer := st.odometer
    lastOdometer := st.odometer
    firstIgnition := st.ignition
    lastIgnition := st.ignition
    aging := 0
    freeze := st.freeze }

/-- The clear (R147). -/
def Flm.clear (f : Flm) (st : FaultStamp) : FaultChange :=
  ⟨(f.list.filter fun e => e.active).map (FaultEntry.cleared st), false, true, [.faultRewrite]⟩

/-- The clear at FLM (R147). -/
def flmClear (s : State) : State := flmEvent (s.flm.clear s.faultStamp) s

/-! ## Reads -/

/-- The number of ACTIVE entries (R149). -/
def Flm.activeCount (f : Flm) : Nat := (f.list.filter fun e => e.active).length

/-- The number of STORED entries (R149). -/
def Flm.storedCount (f : Flm) : Nat := (f.list.filter fun e => !e.active).length

end Sys2Proof.Machine
end

