-- ==== Sys2Proof/Machine/Operands.lean ====
section
/-! DEFINITION. The operands of a request: the judging of a frame (R191, R209), the request codes and the
port rights (Table 67, Table 76), the request a port has in hand, and the handing back of its answer. -/

namespace Sys2Proof.Machine

/-! ## Judging what was clocked in -/

/-- The kinds of R191; a bad frame with its tag as clocked in. -/
inductive Clocked
  | noRequest
  | request (r : Request)
  | bad (tag : Byte)
  deriving DecidableEq, Repr

/-- Whether a frame is complete, not too long, and passes its check (R191, R209). -/
def frameGood (bs : List Byte) : Bool :=
  let n := (byteAt bs 2).toNat
  decide (n ≤ 60) && decide (4 + n ≤ bs.length) && (crc8 (bs.take (3 + n)) == byteAt bs (3 + n))

/-- The request that a good frame carries (Table 74). -/
def requestOf (bs : List Byte) : Request where
  code := byteAt bs 0
  tag := byteAt bs 1
  payload := (bs.drop 3).take (byteAt bs 2).toNat

/-- What was clocked in, judged (R191); a frame that ended before its tag has tag 00h (Table 66). -/
def judgeFrame (bs : List Byte) : Clocked :=
  if bs.isEmpty then .noRequest
  else if frameGood bs then
    if byteAt bs 0 = 0#8 then .noRequest else .request (requestOf bs)
  else .bad (byteAt bs 1)

/-! ## Requests and rights -/

/-- The requests of Table 67, NOP apart. -/
inductive RequestKind
  | readStatus | readNotices | setNoticeMask
  | readSignals | readWarnings | readDoors | readFaultSummary | ackWarning
  | netFrames | channelControl | readChannels
  | serviceEnter | serviceExit | readoutOpen | readoutNext | liveSubscribe | liveFetch | substitute
  | releaseSubstitute | outputTest | clearPrepare | clearConfirm | calibLoad | calibCommitPrepare
  | calibCommitConfirm | calibRead | odometerSet
  deriving DecidableEq, Repr

/-- The code of a request (Table 76). -/
def RequestKind.code : RequestKind → Nat
  | .readStatus => 0x01 | .readNotices => 0x02 | .setNoticeMask => 0x03
  | .readSignals => 0x10 | .readWarnings => 0x11 | .readDoors => 0x12 | .readFaultSummary => 0x13
  | .ackWarning => 0x14
  | .netFrames => 0x20 | .channelControl => 0x21 | .readChannels => 0x22
  | .serviceEnter => 0x30 | .serviceExit => 0x31 | .readoutOpen => 0x32 | .readoutNext => 0x33
  | .liveSubscribe => 0x34 | .liveFetch => 0x35 | .substitute => 0x36 | .releaseSubstitute => 0x37
  | .outputTest => 0x38 | .clearPrepare => 0x39 | .clearConfirm => 0x3A | .calibLoad => 0x3B
  | .calibCommitPrepare => 0x3C | .calibCommitConfirm => 0x3D | .calibRead => 0x3E
  | .odometerSet => 0x3F

/-- Every request. -/
def allRequests : List RequestKind :=
  [.readStatus, .readNotices, .setNoticeMask, .readSignals, .readWarnings, .readDoors,
    .readFaultSummary, .ackWarning, .netFrames, .channelControl, .readChannels, .serviceEnter,
    .serviceExit, .readoutOpen, .readoutNext, .liveSubscribe, .liveFetch, .substitute,
    .releaseSubstitute, .outputTest, .clearPrepare, .clearConfirm, .calibLoad, .calibCommitPrepare,
    .calibCommitConfirm, .calibRead, .odometerSet]

/-- The request that a code names. -/
def RequestKind.ofCode (n : Nat) : Option RequestKind := allRequests.find? fun k => k.code == n

/-- Whether a request is owned by the Service Controller (Table 67). -/
def RequestKind.ofService : RequestKind → Bool
  | .serviceEnter | .serviceExit | .readoutOpen | .readoutNext | .liveSubscribe | .liveFetch
  | .substitute | .releaseSubstitute | .outputTest | .clearPrepare | .clearConfirm | .calibLoad
  | .calibCommitPrepare | .calibCommitConfirm | .calibRead | .odometerSet => true
  | .readStatus | .readNotices | .setNoticeMask | .readSignals | .readWarnings | .readDoors
  | .readFaultSummary | .ackWarning | .netFrames | .channelControl | .readChannels => false

/-- The port rights (Table 67). -/
def RequestKind.permitted (k : RequestKind) (p : Port) : Bool :=
  match k with
  | .readStatus | .readNotices | .setNoticeMask | .readSignals | .readWarnings | .readDoors
  | .readFaultSummary => true
  | .ackWarning => p == .cluster
  | .netFrames => p == .body
  | .channelControl | .readChannels => p == .body || p == .service
  | .serviceEnter | .serviceExit | .readoutOpen | .readoutNext | .liveSubscribe | .liveFetch
  | .substitute | .releaseSubstitute | .outputTest | .clearPrepare | .clearConfirm | .calibLoad
  | .calibCommitPrepare | .calibCommitConfirm | .calibRead | .odometerSet => p == .service

/-! ## Carrying out -/

/-- What an owner makes of a request: the state after its event, the result and the answer payload. -/
structure Reply where
  state : State
  result : Result
  payload : List Byte

/-- A refusal or an answer without payload that leaves the part as it is. -/
def refuse (s : State) (r : Result) : Reply := ⟨s, r, []⟩

/-- An answer OK. -/
def accept (s : State) (payload : List Byte) : Reply := ⟨s, .ok, payload⟩

/-- The request of a kind that a port is carrying out. -/
def State.inHand (s : State) (p : Port) (k : RequestKind) : Option Request :=
  match (s.port p).state with
  | .working r => if r.code.toNat = k.code then some r else none
  | .idle | .ready _ => none

/-- The answer placed in the answer slot: the port is READY; ANSWER is set unless told otherwise
(R193, R198). -/
def State.placeAnswer (s : State) (p : Port) (a : Answer) (flag : Bool) : State :=
  let r := { s.port p with state := PortState.ready a }
  s.setPort p (if flag then r.notice flagAnswer else r)

/-- The owner hands back its answer with the tag of the request (R193). -/
def handBack (p : Port) (req : Request) (out : Reply) : State :=
  out.state.placeAnswer p ⟨req.tag, out.result, out.payload⟩ true

/-- The request of a kind in hand at a port is carried out by its owner, when its payload suits the
command; a command whose request is not in hand has no effect (log entries 3, 18). -/
def carryOutForm (k : RequestKind) (p : Port) (suits : List Byte → Bool)
    (work : List Byte → State → Reply) (s : State) : State :=
  match s.inHand p k with
  | none => s
  | some r => if suits r.payload then handBack p r (work r.payload s) else s

/-- A request of a kind with one form. -/
def carryOut (k : RequestKind) (p : Port) (work : List Byte → State → Reply) (s : State) : State :=
  carryOutForm k p (fun _ => true) work s

/-- A field of one byte as an index below n; absent where the payload is short or the number out of
range (R193, R208). -/
def indexArg (n : Nat) (bs : List Byte) (i : Nat) : Option (Fin n) :=
  match bs[i]? with
  | none => none
  | some b => toIndex n b.toNat

/-- A 32-bit field of a payload; absent where the payload is short. -/
def wordArg (bs : List Byte) (i : Nat) : Option (BitVec 32) :=
  if i + 4 ≤ bs.length then some (field32 bs i) else none

/-- All bytes of a payload as indices below n; absent when one is out of range. -/
def indexArgs (n : Nat) (bs : List Byte) : Option (List (Fin n)) :=
  bs.mapM fun b => toIndex n b.toNat

end Sys2Proof.Machine
end

