-- ==== Sys2Proof/Machine/Outputs.lean ====
section
/-! DEFINITION. The Output Unit (chapter 6): lamps, chime arbiter, DRIVE_INHIBIT, OPEN_ENABLE, output
test override, and the expiries of its timers. -/

namespace Sys2Proof.Machine

/-- Whether outputs are decided: in RUN and AFTERRUN (Table 39). -/
def Opu.deciding (o : Opu) : Bool := o.power == .run || o.power == .afterrun

/-! ## Lamps -/

/-- The lamp state that two summary items give (R101). -/
def lampModeOf (present unack : Bool) : LampMode :=
  if present then (if unack then .flashing else .steady) else .off

/-- A lamp takes a lamp state; a lamp that stays FLASHING keeps phase and timer (R101). -/
def LampState.decide (l : LampState) (m : LampMode) (now : Time) : LampState :=
  match m with
  | .off => lampReset
  | .steady => ⟨.steady, true, none⟩
  | .flashing => if l.mode = .flashing then l else ⟨.flashing, true, startTimer now 500⟩

/-- A lamp at the expiry of its flash timer (R101). -/
def LampState.toggled (l : LampState) (now : Time) : LampState :=
  if l.mode = .flashing then { l with lit := !l.lit, timer := startTimer now 500 } else l

/-- Both lamps decided from the summary (R101). -/
def Opu.decideLamps (o : Opu) (now : Time) : Opu :=
  { o with
    lampStop := o.lampStop.decide (lampModeOf o.summary.stopPresent o.summary.stopUnack) now
    lampCaution :=
      o.lampCaution.decide (lampModeOf o.summary.cautionPresent o.summary.cautionUnack) now }

/-- A present door that is not CLOSED_LOCKED, or has its ramp out: a door reason (R102). -/
def Opu.doorHolds (o : Opu) (d : Fin 4) : Bool :=
  o.present[d] && (o.doorStates[d] != some .closedLocked || o.ramps[d])

/-- Whether a door reason holds (R102). -/
def Opu.doorReason (o : Opu) : Bool := allDoors.any o.doorHolds

/-! ## The chime -/

/-- Priority of a claim, smaller is higher (Table 37). -/
def Claim.priority : Claim → Nat
  | .test => 1 | .stopAlarm => 2 | .doorClosing => 3 | .stopDing => 4 | .cautionNew => 5

/-- Whether a claim is continuous (Table 37). -/
def Claim.continuous : Claim → Bool
  | .test | .stopAlarm | .doorClosing => true
  | .stopDing | .cautionNew => false

/-- The length in ms of a step of a claim's pattern; none after the last step (Table 38). -/
def Claim.stepLength : Claim → Nat → Option Nat
  | .test, _ => some 500
  | .stopAlarm, _ => some 250
  | .doorClosing, _ => some 500
  | .stopDing, n => if n < 1 then some 150 else none
  | .cautionNew, n => if n < 5 then some 100 else none

/-- The step after a step; a repeating pattern alternates tone and pause (R105). -/
def Claim.nextStep (c : Claim) (n : Nat) : Nat := if c.continuous then (n + 1) % 2 else n + 1

/-- The chime at a step of a claim's pattern; NONE when the pattern is complete (R104, R105). -/
def chimeAt (c : Claim) (n : Nat) (now : Time) : Chime :=
  match c.stepLength n with
  | some ms => ⟨some c, n, startTimer now ms⟩
  | none => chimeReset

/-- Whether a continuous claim is present (Table 37). Once claims are events and have no presence. -/
def Opu.claimPresent (o : Opu) : Claim → Bool
  | .test => o.testTarget == some .chime
  | .stopAlarm => o.summary.stopUnack
  | .doorClosing => allDoors.any fun d => o.present[d] && (o.doorStates[d] == some .closing)
  | .stopDing | .cautionNew => false

/-- The present continuous claim of highest priority (R104). -/
def Opu.highestClaim (o : Opu) : Option Claim :=
  [Claim.test, .stopAlarm, .doorClosing].find? o.claimPresent

/-- The arbiter after a change of continuous claims (R104). A granted once claim has no continuous claim
present, so with none present it stands. -/
def Opu.regrant (o : Opu) (now : Time) : Opu :=
  match o.highestClaim with
  | some c => if o.chime.granted = some c then o else { o with chime := chimeAt c 0 now }
  | none =>
    match o.chime.granted with
    | some g => if g.continuous then { o with chime := chimeReset } else o
    | none => o

/-- A once claim arrives (R104, R111). -/
def Opu.onceClaim (o : Opu) (c : Claim) (now : Time) : Opu :=
  if o.deciding && o.highestClaim.isNone then
    match o.chime.granted with
    | none => { o with chime := chimeAt c 0 now }
    | some g => if c.priority < g.priority then { o with chime := chimeAt c 0 now } else o
  else o

/-- The chime at the expiry of its cadence timer (R105). -/
def Chime.advanced (c : Chime) (now : Time) : Chime :=
  match c.granted with
  | none => c
  | some g => chimeAt g (g.nextStep c.position) now

/-- The chime output is on during a tone (R105). -/
def Chime.sounding (c : Chime) : Bool := c.granted.isSome && c.position % 2 == 0

/-! ## OPEN_ENABLE -/

/-- Regime FOLLOWING: asserted while the parking-brake slot is VALID with value 1 (R108). -/
def Opu.followBrake (o : Opu) : Opu :=
  { o with
    regime := .following
    fallback := none
    openEnable := o.brake.configured && o.brake.status == .valid && o.brake.value == 1#32 }

/-- The speed decision with its hysteresis (R108). -/
def Opu.trackSpeed (o : Opu) : Opu :=
  { o with
    regime := .tracking
    fallback := none
    openEnable :=
      if o.speed.value.toInt ≤ o.openLow.toInt then true
      else if o.openHigh.toInt < o.speed.value.toInt then false
      else o.openEnable }

/-- A decision of OPEN_ENABLE (R108); nothing is decided in START and SLEEP (R109). -/
def Opu.decideOpen (o : Opu) (now : Time) : Opu :=
  if !o.deciding then o
  else if !o.speed.configured then o.followBrake
  else if o.speed.status = .valid then o.trackSpeed
  else match o.regime with
    | .tracking => { o with regime := .holding, fallback := startTimer now 2000 }
    | .holding => o
    | .following => o.followBrake

/-! ## The output pins -/

/-- Whether the output test lights a lamp (R110). -/
def Opu.testLights (o : Opu) (t : TestTarget) : Bool :=
  o.testTarget == some t || o.testTarget == some .allLamps

/-- The drives that the copies and states give (R101, R102, R105, R106, R108, R110, Table 39). -/
def Opu.drives (o : Opu) : Outputs where
  lampStop := o.deciding && (o.testLights .lampStop || o.lampStop.lit)
  lampCaution := o.deciding && (o.testLights .lampCaution || o.lampCaution.lit)
  lampDoor := o.deciding && (o.testLights .lampDoor || o.doorReason)
  lampStopReq := o.deciding && (o.testLights .lampStopReq || o.latch)
  chime := o.deciding && o.chime.sounding
  driveInhibit := !(o.power == .run && !o.doorReason)
  openEnable := o.deciding && o.openEnable

/-- After each event OPU sets its outputs from its copies (R100). -/
def Opu.settle (o : Opu) : Opu := { o with outputs := o.drives }

/-- One event at OPU (R100). -/
def State.opuEvent (s : State) (f : Opu → Opu) : State := s.onOpu fun o => (f o).settle

/-! ## Events at OPU -/

/-- The arbiter and the two flashing lamps decided again where outputs are decided. -/
def Opu.redecide (o : Opu) (now : Time) : Opu :=
  if o.deciding then (o.decideLamps now).regrant now else o

/-- A new warning summary (R101, R103). -/
def opuSummary (sm : Summary) (s : State) : State :=
  s.opuEvent fun o => Opu.redecide { o with summary := sm } s.now

/-- A CAUTION_NEW claim (R86, R104). -/
def opuCautionNew (s : State) : State := s.opuEvent fun o => o.onceClaim .cautionNew s.now

/-- The stop-request latch; each setting carries a STOP_DING claim (R102, R104). -/
def opuLatch (set : Bool) (ding : Bool) (s : State) : State :=
  s.opuEvent fun o =>
    let o := { o with latch := set }
    if ding then o.onceClaim .stopDing s.now else o

/-- A door's state (Table 36). -/
def opuDoorState (d : Fin 4) (st : DoorState) (s : State) : State :=
  s.opuEvent fun o => Opu.redecide { o with doorStates := o.doorStates.set d (some st) } s.now

/-- A door's ramp out (Table 36). -/
def opuRamp (d : Fin 4) (out : Bool) (s : State) : State :=
  s.opuEvent fun o => { o with ramps := o.ramps.set d out }

/-- The start, replacement or end of an output test (R110). A CHIME test replaced by a CHIME test has
its claim made anew. -/
def opuTest (t : Option TestTarget) (s : State) : State :=
  s.opuEvent fun o =>
    let anew := o.testTarget == some .chime && t == some .chime
    let o := { o with testTarget := t, chime := if anew then chimeReset else o.chime }
    o.redecide s.now

/-- The live contents of a role slot in the Signal Table; unconfigured without the role. -/
def State.roleCopy (s : State) (role : Option (Fin 96)) : RoleCopy :=
  match role with
  | none => roleCopyReset
  | some i => ⟨true, s.slots[i].liveValue, s.slots[i].liveStatus⟩

/-- The copies of the speed and parking-brake slots read from the Signal Table. -/
def Opu.readRoles (o : Opu) (s : State) : Opu :=
  { o with speed := s.roleCopy s.cal.general.speedSlot, brake := s.roleCopy s.cal.general.brakeSlot }

/-- The table event at OPU (R10, R109). -/
def opuTable (s : State) : State := s.opuEvent fun o => (o.readRoles s).decideOpen s.now

/-- A live change of the speed slot or the parking-brake slot (R108): the role copies that name the slot
take its contents. -/
def opuLiveChange (i : Fin 96) (v : Value) (st : LiveStatus) (s : State) : State :=
  let isSpeed := s.cal.general.speedSlot == some i
  let isBrake := s.cal.general.brakeSlot == some i
  if isSpeed || isBrake then
    s.opuEvent fun o =>
      let o := if isSpeed then { o with speed := ⟨true, v, st⟩ } else o
      let o := if isBrake then { o with brake := ⟨true, v, st⟩ } else o
      o.decideOpen s.now
  else s

/-- Outputs at rest: START and SLEEP (R109, R111). -/
def Opu.rest (o : Opu) (p : PowerState) : Opu :=
  { o with
    power := p, lampStop := lampReset, lampCaution := lampReset, chime := chimeReset,
    openEnable := false, fallback := none }

/-- Entry into RUN or AFTERRUN from START or SLEEP (R109, R111). -/
def Opu.enter (o : Opu) (p : PowerState) (now : Time) : Opu :=
  Opu.redecide { o.rest p with regime := .tracking } now

/-- A change of the power state at OPU (R106, R109, R111). Entering AFTERRUN from START or SLEEP it reads
the role slots; entering RUN it decides on its copies, and the table event, before or after, brings them to
what it offers. -/
def opuPower (p : PowerState) (s : State) : State :=
  s.opuEvent fun o =>
    match p with
    | .start => o.rest .start
    | .sleep => o.rest .sleep
    | .run => if o.deciding then { o with power := .run } else (o.enter .run s.now).decideOpen s.now
    | .afterrun =>
      if o.deciding then { o with power := .afterrun }
      else ((o.enter .afterrun s.now).readRoles s).decideOpen s.now

/-- What the calibration gives OPU (Table 36): door presence, role slots and thresholds. -/
def Opu.takeCalibration (o : Opu) (s : State) : Opu :=
  Opu.readRoles { o with
    present := s.cal.doors.map fun d => d.present
    openLow := s.cal.general.openLow
    openHigh := s.cal.general.openHigh } s

/-- The calibration load at OPU (Table 36). -/
def opuLoad (s : State) : State := s.opuEvent fun o => o.takeCalibration s

/-- The commit at OPU (R111): copies of the doors present become UNKNOWN and ramp out NO. OPEN_ENABLE is
decided at the table event of the commit (R109). -/
def opuCommit (s : State) : State :=
  s.opuEvent fun o =>
    let o := o.takeCalibration s
    let o := { o with
      doorStates := Vector.ofFn fun d => if o.present[d] then none else o.doorStates[d]
      ramps := Vector.ofFn fun d => if o.present[d] then false else o.ramps[d] }
    o.redecide s.now

/-! ## Expiries of OPU's timers -/

/-- A flash timer expires (R101). -/
def flashExpiry (lamp : FlashingLamp) (s : State) : State :=
  match lamp with
  | .stop =>
    if timerDue s.opu.lampStop.timer s.now then
      s.opuEvent fun o => { o with lampStop := o.lampStop.toggled s.now }
    else s
  | .caution =>
    if timerDue s.opu.lampCaution.timer s.now then
      s.opuEvent fun o => { o with lampCaution := o.lampCaution.toggled s.now }
    else s

/-- The cadence timer expires (R105). -/
def cadenceExpiry (s : State) : State :=
  if timerDue s.opu.chime.cadence s.now then
    s.opuEvent fun o => { o with chime := o.chime.advanced s.now }
  else s

/-- The fallback timer expires: it runs only in HOLDING, and the regime becomes FOLLOWING (R108). -/
def fallbackExpiry (s : State) : State :=
  if timerDue s.opu.fallback s.now then s.opuEvent fun o => o.followBrake else s

/-- FLASH_TIMER_EXPIRY (R101). -/
def execFlashTimerExpiry (lamp : FlashingLamp) (s : State) : Host.Outcome State Fault Refusal :=
  act s (flashExpiry lamp)

/-- CADENCE_TIMER_EXPIRY (R105). -/
def execCadenceTimerExpiry (s : State) : Host.Outcome State Fault Refusal := act s cadenceExpiry

/-- FALLBACK_TIMER_EXPIRY (R108). -/
def execFallbackTimerExpiry (s : State) : Host.Outcome State Fault Refusal := act s fallbackExpiry

end Sys2Proof.Machine
end

