-- ==== Sys2Proof/Machine/Warnings.lean ====
section
/-! DEFINITION. The Warning Engine (chapter 5): conditions, the rule state machine, the Active Warning
List with displacement and refill, acknowledgement, re-announce, and what the power events, the commit
and the release of a substitution do. -/

namespace Sys2Proof.Machine

/-! ## The condition -/

/-- GREATER, LESS, EQUAL and NOT_EQUAL on a usable value, from the held result (R75). Threshold and
hysteresis are added in full. -/
def compareValue (it : RuleItem) (held : Bool) (v : Int) : Bool :=
  let t := it.threshold.toInt
  let h : Int := it.hysteresis.toNat
  match it.comparison with
  | .greater => if held then !decide (v ≤ t - h) else decide (t < v)
  | .less => if held then !decide (t + h ≤ v) else decide (v < t)
  | .equal => decide (v = t)
  | .notEqual => decide (v ≠ t)
  | .notValid => false

/-- Whether a visible status carries a usable value: VALID or SUBSTITUTED (R75, R77). -/
def Status.usable (st : Status) : Bool := st == .valid || st == .substituted

/-- The comparison result of a rule at an evaluation: NOT_VALID looks at the status (R76); the others keep
the held result while the slot has no usable value (R75). -/
def comparisonResult (it : RuleItem) (held : Bool) (x : Slot) : Bool :=
  match it.comparison with
  | .notValid => !x.visibleStatus.usable
  | .greater | .less | .equal | .notEqual =>
    if x.visibleStatus.usable then compareValue it held x.visibleValue.toInt else held

/-- Whether a qualifier holds on its slot (R77). -/
def Qualifier.holds (q : Qualifier) (x : Slot) : Bool :=
  x.visibleStatus.usable &&
    (match q.comparison with
    | .greater => decide (q.threshold.toInt < x.visibleValue.toInt)
    | .less => decide (x.visibleValue.toInt < q.threshold.toInt)
    | .equal => decide (x.visibleValue = q.threshold)
    | .notEqual => decide (x.visibleValue ≠ q.threshold))

/-- Whether the qualifier of a rule, if present, holds (R77). -/
def RuleItem.qualified (it : RuleItem) (slots : Vector Slot 96) : Bool :=
  match it.qualifier with
  | none => true
  | some q => q.holds slots[q.slot]

/-- Whether a rule refers to a slot, as signal or qualifier slot. -/
def RuleItem.refersTo (it : RuleItem) (i : Fin 96) : Bool :=
  it.signalSlot == i || it.qualifier.any fun q => q.slot == i

/-- Whether a slot of a rule is substituted, which keeps its occurrence from being reported (R84). -/
def RuleItem.substituted (it : RuleItem) (slots : Vector Slot 96) : Bool :=
  slots[it.signalSlot].substitution.isSome
    || it.qualifier.any fun q => slots[q.slot].substitution.isSome

/-- Whether an interval is given and the class is STOP or CAUTION (R94). -/
def RuleItem.reAnnounces (it : RuleItem) : Bool := it.reAnnounce != 0 && it.cls != .advise

/-! ## An event at WRE -/

/-- What an event at WRE has made so far: the engine's state, the reports for FLM in their order, whether
the list has changed, and whether a CAUTION entry has become unacknowledged (R84, R86). -/
structure WreEvent where
  wre : Wre
  reports : List Report
  changed : Bool
  cautionNew : Bool
  deriving DecidableEq, Repr

/-- An event begins. -/
def Wre.event (w : Wre) : WreEvent := ⟨w, [], false, false⟩

/-- Replace the state of a rule. -/
def WreEvent.setRule (e : WreEvent) (r : Fin 48) (x : RuleState) : WreEvent :=
  { e with wre := { e.wre with rules := e.wre.rules.set r x } }

/-- Replace the list; this is a change of the list. -/
def WreEvent.setList (e : WreEvent) (l : List WarningEntry) : WreEvent :=
  { e with wre := { e.wre with list := l }, changed := true }

/-- The list is changed although its entries stand: a phase changed (R86). -/
def WreEvent.touch (e : WreEvent) : WreEvent := { e with changed := true }

/-- The end of a rule's open fault (R84). -/
def WreEvent.endFault (s : State) (r : Fin 48) (e : WreEvent) : WreEvent :=
  let x := e.wre.rules[r]
  if x.faultOpen then
    match s.cal.rules[r].faultCode with
    | some code =>
      { (e.setRule r { x with faultOpen := false }) with reports := e.reports ++ [.ended code] }
    | none => e.setRule r { x with faultOpen := false }
  else e

/-- The occurrence of a rule's fault, withheld while a slot of the rule is substituted (R84). -/
def WreEvent.occur (s : State) (r : Fin 48) (e : WreEvent) : WreEvent :=
  match s.cal.rules[r].faultCode with
  | none => e
  | some code =>
    if s.cal.rules[r].substituted s.slots then e
    else
      { (e.setRule r { e.wre.rules[r] with faultOpen := true }) with
        reports := e.reports ++ [.occurrence code (.rule r)] }

/-- A rule into IDLE: timers stopped, confirmed time and odometer absent, comparison result kept (R79). -/
def RuleState.idled (x : RuleState) : RuleState :=
  { x with
    phase := .idle
    raiseTimer := none
    clearTimer := none
    reAnnounceTimer := none
    confirmedTime := none
    confirmedOdometer := none }

/-- A rule goes to IDLE. -/
def WreEvent.toIdle (r : Fin 48) (e : WreEvent) : WreEvent := e.setRule r e.wre.rules[r].idled

/-! ## The list -/

/-- The age of a rule's confirmation (R85). -/
def Wre.confirmedAge (w : Wre) (now : Time) (r : Fin 48) : Nat :=
  elapsed now (w.rules[r].confirmedTime.getD 0)

/-- List order between two rules: class, then confirmed time with the oldest first, then number (R85). -/
def precedes (s : State) (w : Wre) (a b : Fin 48) : Bool :=
  let ca := s.cal.rules[a].cls.rank
  let cb := s.cal.rules[b].cls.rank
  if ca ≠ cb then decide (ca < cb)
  else
    let ta := w.confirmedAge s.now a
    let tb := w.confirmedAge s.now b
    if ta ≠ tb then decide (tb < ta) else decide (a < b)

/-- Insert an entry before the first that it precedes. -/
def insertEntry (before : Fin 48 → Fin 48 → Bool) (x : WarningEntry) :
    List WarningEntry → List WarningEntry
  | [] => [x]
  | y :: ys => if before x.rule y.rule then x :: y :: ys else y :: insertEntry before x ys

/-- A rule becomes ACTIVE with a new unacknowledged entry (R85); an entry of class CAUTION is a new
caution (R86). -/
def WreEvent.enter (s : State) (r : Fin 48) (e : WreEvent) : WreEvent :=
  let e := e.setRule r { e.wre.rules[r] with phase := .active, reAnnounceTimer := none }
  let e := e.setList (insertEntry (precedes s e.wre) ⟨r, false⟩ e.wre.list)
  { e with cautionNew := e.cautionNew || s.cal.rules[r].cls == .caution }

/-- The entry of a rule leaves the list. -/
def WreEvent.remove (r : Fin 48) (e : WreEvent) : WreEvent :=
  e.setList (e.wre.list.filter fun x => x.rule != r)

/-- Whether the rule's entry is acknowledged. -/
def Wre.acknowledged (w : Wre) (r : Fin 48) : Bool :=
  w.list.any fun x => x.rule == r && x.acknowledged

/-- Mark the entry of a rule. -/
def WreEvent.mark (r : Fin 48) (ack : Bool) (e : WreEvent) : WreEvent :=
  e.setList (e.wre.list.map fun x => if x.rule = r then { x with acknowledged := ack } else x)

/-- The rule that list order puts first among those that are SUPPRESSED (R88). -/
def bestSuppressed (s : State) (w : Wre) : Option (Fin 48) :=
  allRules.foldl (fun best r =>
    if w.rules[r].phase = .suppressed then
      match best with
      | none => some r
      | some b => if precedes s w r b then some r else some b
    else best) none

/-- One place refilled, if there is a place and a SUPPRESSED rule (R88). -/
def WreEvent.refill (s : State) (e : WreEvent) : WreEvent :=
  if e.wre.list.length < 16 then
    match bestSuppressed s e.wre with
    | none => e
    | some r => e.enter s r
  else e

/-- As many places refilled as are open, in turn (R88, R90, R97). -/
def WreEvent.refillAll (s : State) (e : WreEvent) : WreEvent :=
  (List.range 16).foldl (fun e _ => e.refill s) e

/-- The last entry's rule gives way: an ACTIVE rule becomes SUPPRESSED, a CLEARING rule IDLE (R87). -/
def WreEvent.displace (s : State) (r : Fin 48) (e : WreEvent) : WreEvent :=
  let e := e.remove r
  let x := e.wre.rules[r]
  if x.phase = .active then e.setRule r { x with phase := .suppressed, reAnnounceTimer := none }
  else (e.toIdle r).endFault s r

/-- The full-list decision on a newcomer (R87). The last entry is of the lowest class present and the
newest of its class. -/
def WreEvent.intoFullList (s : State) (r : Fin 48) (e : WreEvent) : WreEvent :=
  let suppressed := e.setRule r { e.wre.rules[r] with phase := .suppressed }
  match e.wre.list.getLast? with
  | none => suppressed
  | some last =>
    if s.cal.rules[r].cls.rank < s.cal.rules[last.rule].cls.rank then
      (e.displace s last.rule).enter s r
    else suppressed

/-- A confirmation (R80). -/
def WreEvent.confirm (s : State) (r : Fin 48) (e : WreEvent) : WreEvent :=
  let e := e.setRule r { e.wre.rules[r] with
    raiseTimer := none
    confirmedTime := some s.now
    confirmedOdometer := some s.odometer }
  let e := if e.wre.list.length < 16 then e.enter s r else e.intoFullList s r
  e.occur s r

/-- The end of CLEARING (R81). -/
def WreEvent.endClearing (s : State) (r : Fin 48) (e : WreEvent) : WreEvent :=
  if s.cal.rules[r].latching && !e.wre.acknowledged r then
    let x := e.wre.rules[r]
    ((e.setRule r { x with phase := .latched, clearTimer := none, reAnnounceTimer := none }).touch).endFault
      s r
  else (((e.toIdle r).remove r).endFault s r).refill s

/-! ## Evaluation -/

/-- An evaluation finds the condition TRUE (Table 30). -/
def WreEvent.conditionTrue (s : State) (r : Fin 48) (e : WreEvent) : WreEvent :=
  let it := s.cal.rules[r]
  let x := e.wre.rules[r]
  match x.phase with
  | .idle =>
    if it.raiseDelay = 0 then e.confirm s r
    else e.setRule r { x with phase := .raising, raiseTimer := startTimer s.now it.raiseDelay }
  | .clearing =>
    let again := e.wre.acknowledged r && it.reAnnounces && x.reAnnounceTimer.isNone
    (e.setRule r { x with
      phase := .active
      clearTimer := none
      reAnnounceTimer :=
        if again then startTimer s.now (it.reAnnounce * 60000) else x.reAnnounceTimer }).touch
  | .latched => ((e.setRule r { x with phase := .active }).touch).occur s r
  | .disabled | .raising | .active | .suppressed => e

/-- An evaluation finds the condition FALSE (Table 30). -/
def WreEvent.conditionFalse (s : State) (r : Fin 48) (e : WreEvent) : WreEvent :=
  let it := s.cal.rules[r]
  let x := e.wre.rules[r]
  match x.phase with
  | .raising => e.toIdle r
  | .active =>
    if it.clearDelay = 0 then (e.setRule r { x with phase := .clearing }).endClearing s r
    else
      (e.setRule r { x with phase := .clearing, clearTimer := startTimer s.now it.clearDelay }).touch
  | .suppressed => (e.toIdle r).endFault s r
  | .disabled | .idle | .clearing | .latched => e

/-- An evaluation of a rule (R78): comparison, condition, state. A DISABLED rule receives none (R74). -/
def WreEvent.evaluate (s : State) (e : WreEvent) (r : Fin 48) : WreEvent :=
  let it := s.cal.rules[r]
  let x := e.wre.rules[r]
  if x.phase = .disabled then e
  else
    let result := comparisonResult it x.comparison s.slots[it.signalSlot]
    let e := e.setRule r { x with comparison := result }
    if result && it.qualified s.slots then e.conditionTrue s r else e.conditionFalse s r

/-! ## Acknowledgement and re-announce -/

/-- An acknowledgement of one entry; the refill of a removed LATCHED entry follows (R89). -/
def WreEvent.acknowledge (s : State) (e : WreEvent) (r : Fin 48) : WreEvent :=
  let x := e.wre.rules[r]
  if x.phase = .latched then (e.toIdle r).remove r
  else
    let e := e.mark r true
    if x.phase = .active && s.cal.rules[r].reAnnounces then
      e.setRule r { x with reAnnounceTimer := startTimer s.now (s.cal.rules[r].reAnnounce * 60000) }
    else e

/-- The rules whose entries are unacknowledged, in list order, among those of a class. -/
def Wre.unacknowledged (w : Wre) (s : State) (cls : WarningClass) : List (Fin 48) :=
  (w.list.filter fun x => !x.acknowledged && s.cal.rules[x.rule].cls == cls).map WarningEntry.rule

/-- ALL_OF_CLASS: the entries named when the event begins, then the refills (R90). -/
def WreEvent.acknowledgeClass (s : State) (cls : WarningClass) (e : WreEvent) : WreEvent :=
  ((e.wre.unacknowledged s cls).foldl (fun e r => e.acknowledge s r) e).refillAll s

/-- The re-announce timer of a rule expires (R94). -/
def WreEvent.reAnnounce (s : State) (r : Fin 48) (e : WreEvent) : WreEvent :=
  let x := e.wre.rules[r]
  let e := e.setRule r { x with reAnnounceTimer := none }
  if x.phase = .active && e.wre.acknowledged r then
    let e := e.mark r false
    { e with cautionNew := e.cautionNew || s.cal.rules[r].cls == .caution }
  else e

/-! ## Power events, commit and release -/

/-- Every rule that takes part goes to IDLE with its reset values, open faults end, in rule order (log entry
30), and the list is emptied without refills (R95). -/
def WreEvent.allIdle (s : State) (e : WreEvent) : WreEvent :=
  let e := allRules.foldl (fun e r =>
    if e.wre.rules[r].phase = .disabled then e
    else
      let e := e.endFault s r
      e.setRule r (ruleReset .idle)) e
  if e.wre.list.isEmpty then e else e.setList []

/-- The reset values of every rule of a table (R74). -/
def freshRules (c : Calibration) : Vector RuleState 48 :=
  c.rules.map fun it => ruleReset (if it.enabled then .idle else .disabled)

/-- A rule returned to IDLE by a release, with its comparison result FALSE (R97). -/
def WreEvent.releaseRule (s : State) (e : WreEvent) (r : Fin 48) : WreEvent :=
  let x := e.wre.rules[r]
  if x.phase = .disabled || x.phase = .idle then e
  else
    let listed := e.wre.list.any fun y => y.rule == r
    let e := if listed then e.remove r else e
    let e := (e.toIdle r).endFault s r
    e.setRule r { e.wre.rules[r] with comparison := false }

/-- The rules of the table that refer to a slot, in rule order. -/
def rulesOn (c : Calibration) (i : Fin 96) : List (Fin 48) :=
  allRules.filter fun r => c.rules[r].enabled && c.rules[r].refersTo i

/-- The release event of a slot: three stages (R97). -/
def WreEvent.release (s : State) (i : Fin 96) (e : WreEvent) : WreEvent :=
  let rs := rulesOn s.cal i
  let e := rs.foldl (fun e r => e.releaseRule s r) e
  let e := e.refillAll s
  rs.foldl (fun e r => e.evaluate s r) e

/-! ## After an event -/

/-- Whether the list holds an entry of a class that meets a condition. -/
def Wre.anyEntry (w : Wre) (c : Calibration) (cls : WarningClass) (f : WarningEntry → Bool) : Bool :=
  w.list.any fun x => c.rules[x.rule].cls == cls && f x

/-- The summary of the list (Table 31). -/
def Wre.summary (w : Wre) (c : Calibration) : Summary where
  stopPresent := w.anyEntry c .stop fun _ => true
  stopUnack := w.anyEntry c .stop fun x => !x.acknowledged
  cautionPresent := w.anyEntry c .caution fun _ => true
  cautionUnack := w.anyEntry c .caution fun x => !x.acknowledged

/-- What WRE hands OPU after a change of the list: the summary, and a CAUTION_NEW claim where one is due,
with no order between them (R86, R104). -/
def wreHandings (e : WreEvent) (s : State) : List Delivery :=
  opuSummary (e.wre.summary s.cal) :: (if e.cautionNew then [opuCautionNew] else [])

/-- An event at WRE is finished: its state stands, a change of the list sets the WARNINGS notice once and
is handed to OPU (R86), and the reports go to FLM, each as an event of its own (R84). -/
def wreFinish (e : WreEvent) (s : State) : State :=
  let s := s.setWre e.wre
  let s := if e.changed then deliverAll (wreHandings e s) (s.notice flagWarnings) else s
  flmReports e.reports s

/-- One event at WRE. -/
def wreEvent (f : WreEvent → WreEvent) (s : State) : State := wreFinish (f s.wre.event) s

/-- Whether rules are evaluated at visible changes: in RUN (R78), after the table event of its entry (R96). -/
def State.evaluating (s : State) : Bool := s.pwc.power == .run && s.wre.tableTaken

/-- An evaluation of one rule at a visible change of one of its slots (R78, R96). -/
def wreEvaluate (r : Fin 48) (s : State) : State :=
  if s.evaluating then wreEvent (fun e => e.evaluate s r) s else s

/-- The table event is taken, or awaited (R96). -/
def WreEvent.markTable (taken : Bool) (e : WreEvent) : WreEvent :=
  { e with wre := { e.wre with tableTaken := taken } }

/-- The table event: every enabled rule in rule order within one event (R96). -/
def wreTable (s : State) : State :=
  wreEvent (fun e => allRules.foldl (fun e r => e.evaluate s r) (e.markTable true)) s

/-- The ignition-off (R95); the next entry into RUN has a table event of its own (R96). -/
def wreIgnitionOff (s : State) : State := wreEvent (fun e => (e.allIdle s).markTable false) s

/-- The release event of a slot; outside RUN it has no effect (R97). -/
def wreRelease (i : Fin 96) (s : State) : State :=
  if s.pwc.power = .run then wreEvent (fun e => e.release s i) s else s

/-- The first stage of the commit, under the old table (R98). -/
def WreEvent.commit (s : State) (new : Calibration) (e : WreEvent) : WreEvent :=
  let e := e.allIdle s
  { e with wre := { e.wre with rules := freshRules new } }

/-- An activation of the acknowledge input: the first unacknowledged entry (R91). -/
def wreAcknowledgeInput (s : State) : State :=
  match s.wre.list.find? fun x => !x.acknowledged with
  | none => s
  | some x => wreEvent (fun e => (e.acknowledge s x.rule).refillAll s) s

/-! ## Requests and expiries -/

/-- A list entry of a READ_WARNINGS answer, 13 bytes (Table 77). -/
def entryBytes (s : State) (x : WarningEntry × Nat) : List Byte :=
  let st := s.wre.rules[x.1.rule]
  [numByte x.2, numByte x.1.rule.val, numByte s.cal.rules[x.1.rule].cls.rank, numByte st.phase.entryCode,
    flagByte x.1.acknowledged]
    ++ bytes32 (st.confirmedTime.getD 0) ++ bytes32 (st.confirmedOdometer.getD 0)

/-- READ_WARNINGS at WRE: up to 4 entries from a start position 0–15 (R99). -/
def readWarningsWork (bs : List Byte) (s : State) : Reply :=
  match indexArg 16 bs 0 with
  | none => refuse s .badArgument
  | some start =>
    let shown := (s.wre.list.zipIdx.drop start.val).take 4
    accept s ([numByte s.wre.list.length, numByte shown.length] ++ shown.flatMap (entryBytes s))

/-- ACK_WARNING of the form RULE (Table 32). -/
def ackRuleWork (bs : List Byte) (s : State) : Reply :=
  if byteAt bs 0 ≠ 0#8 then refuse s .badArgument
  else match indexArg 48 bs 1 with
  | none => refuse s .badArgument
  | some r =>
    match s.wre.list.find? fun x => x.rule == r with
    | none => refuse s .noSuchEntry
    | some x =>
      if x.acknowledged then refuse s .already
      else accept (wreEvent (fun e => (e.acknowledge s r).refillAll s) s) [1#8]

/-- ACK_WARNING of the form ALL_OF_CLASS (Table 32). -/
def ackClassWork (bs : List Byte) (s : State) : Reply :=
  if byteAt bs 0 ≠ 1#8 then refuse s .badArgument
  else match (bs[1]?).bind fun b => WarningClass.ofCode b.toNat with
  | none => refuse s .badArgument
  | some cls =>
    accept (wreEvent (fun e => e.acknowledgeClass s cls) s)
      [numByte (s.wre.unacknowledged s cls).length]

/-- A payload that starts with the form RULE, or with no form of R90. -/
def suitsRule (bs : List Byte) : Bool := bs[0]? != some 1#8

/-- A payload that starts with the form ALL_OF_CLASS, or with no form of R90. -/
def suitsClass (bs : List Byte) : Bool := bs[0]? != some 0#8

/-- A raise timer expires (R80). -/
def raiseExpiry (r : Fin 48) (s : State) : State :=
  if s.wre.rules[r].phase = .raising && timerDue s.wre.rules[r].raiseTimer s.now then
    wreEvent (fun e => e.confirm s r) s
  else s

/-- A clear timer expires (R81). -/
def clearExpiry (r : Fin 48) (s : State) : State :=
  if s.wre.rules[r].phase = .clearing && timerDue s.wre.rules[r].clearTimer s.now then
    wreEvent (fun e => e.endClearing s r) s
  else s

/-- A re-announce timer expires (R94). -/
def reAnnounceExpiry (r : Fin 48) (s : State) : State :=
  if timerDue s.wre.rules[r].reAnnounceTimer s.now then wreEvent (fun e => e.reAnnounce s r) s else s

/-- READ_WARNINGS (R99). -/
def execReadWarnings (p : Port) (s : State) : Host.Outcome State Fault Refusal :=
  act s (carryOut .readWarnings p readWarningsWork)

/-- ACK_WARNING_RULE (R90). -/
def execAckWarningRule (s : State) : Host.Outcome State Fault Refusal :=
  act s (carryOutForm .ackWarning .cluster suitsRule ackRuleWork)

/-- ACK_WARNING_ALL_OF_CLASS (R90). -/
def execAckWarningAllOfClass (s : State) : Host.Outcome State Fault Refusal :=
  act s (carryOutForm .ackWarning .cluster suitsClass ackClassWork)

/-- RAISE_TIMER_EXPIRY (R80). -/
def execRaiseTimerExpiry (r : Fin 48) (s : State) : Host.Outcome State Fault Refusal :=
  act s (raiseExpiry r)

/-- CLEAR_TIMER_EXPIRY (R81). -/
def execClearTimerExpiry (r : Fin 48) (s : State) : Host.Outcome State Fault Refusal :=
  act s (clearExpiry r)

/-- RE_ANNOUNCE_TIMER_EXPIRY (R94). -/
def execReAnnounceTimerExpiry (r : Fin 48) (s : State) : Host.Outcome State Fault Refusal :=
  act s (reAnnounceExpiry r)

end Sys2Proof.Machine
end

