-- ==== Sys2Proof/Machine/Signals.lean ====
section
/-! DEFINITION. The Signal Table (chapter 1): source updates, change events and their deliveries, refresh
timers, the substitution overlay, binding, run restart and SLEEP entry; and what the Service Controller
does at a change event: live samples (R180) and service mode exit (R176, R177). -/

namespace Sys2Proof.Machine

/-! ## Service mode exit and live samples -/

/-- The visible change of a slot at SVC: a subscribed slot appends a live sample (R180). -/
def svcSample (i : Fin 96) (v : Value) (st : Status) (s : State) : State :=
  if i ∈ s.svc.subscription then
    let sample : LiveSample := ⟨i, v, st, s.now, false⟩
    let kept :=
      if s.svc.liveQueue.length < 32 then s.svc.liveQueue
      else match s.svc.liveQueue.drop 1 with
        | [] => []
        | x :: xs => { x with gap := true } :: xs
    let s' := s.setSvc { s.svc with liveQueue := kept ++ [sample] }
    if s.svc.liveQueue.isEmpty then s'.noticeOn .service flagLive else s'
  else s

/-- A slot without its substitution. -/
def Slot.released (x : Slot) : Slot := { x with substitution := none }

/-- Service mode exit, whatever its cause (R177): the steps in their order; the release events reach WRE
afterwards, each an event of its own. R177 orders the releases at SGT and gives their events at WRE no order:
that one is drawn (log entry 1). SVC adds no sample, since its subscription is empty. -/
def svcExit (s : State) : State :=
  let released := s.svc.substituted
  let s := if s.svc.outputTest.isSome then opuTest none s else s
  let s := released.foldl (fun t i => t.setSlot i t.slots[i].released) s
  deliverAll (released.map wreRelease) (s.setSvc svcReset)

/-- Whether contents of a role slot end service mode: a VALID speed above the stationary threshold, or a
VALID parking brake other than applied (R176). -/
def State.endsService (s : State) (i : Fin 96) (v : Value) (st : LiveStatus) : Bool :=
  st == .valid &&
    ((s.cal.general.speedSlot == some i && decide (s.cal.general.stationary.toInt < v.toInt))
      || (s.cal.general.brakeSlot == some i && v != 1#32))

/-- A live change at SVC (R176). -/
def svcLiveChange (i : Fin 96) (v : Value) (st : LiveStatus) (s : State) : State :=
  if s.svc.state != .off && s.endsService i v st then svcExit s else s

/-! ## Change events -/

/-- Whether the live contents differ (R6). -/
def Slot.liveDiffers (x y : Slot) : Bool :=
  x.liveValue != y.liveValue || x.liveStatus != y.liveStatus

/-- Whether the visible contents differ (R6). -/
def Slot.visibleDiffers (x y : Slot) : Bool :=
  x.visibleValue != y.visibleValue || x.visibleStatus != y.visibleStatus

/-- Whether a live status has entered STALE or OUT_OF_RANGE (R8). -/
def entersFailure (old new : LiveStatus) : Bool :=
  old != new && (new == .stale || new == .outOfRange)

/-- The receivers of a visible change: the rules that refer to the slot, each on its own (R78, R96), and SVC
when the slot is subscribed (Table 9). -/
def visibleReceivers (i : Fin 96) (x : Slot) (s : State) : List Delivery :=
  (if s.evaluating then (rulesOn s.cal i).map wreEvaluate else [])
    ++ (if i ∈ s.svc.subscription then [svcSample i x.visibleValue x.visibleStatus] else [])

/-- SVC as a receiver of a live change of a role slot (Table 9). -/
def liveReceivers (i : Fin 96) (x : Slot) (s : State) : List Delivery :=
  if s.svc.state != .off && s.endsService i x.liveValue x.liveStatus then
    [svcLiveChange i x.liveValue x.liveStatus]
  else []

/-- The change events of a slot that passed from old to new contents (R6, R8). PTU and OPU are told first:
neither order with the others can be told apart. -/
def changeEvents (i : Fin 96) (old x : Slot) (s : State) : State :=
  let live := old.liveDiffers x
  let visible := old.visibleDiffers x
  let s := if entersFailure old.liveStatus x.liveStatus then s.notice flagSignal else s
  let s := if live then opuLiveChange i x.liveValue x.liveStatus s else s
  deliverAll
    ((if visible then visibleReceivers i x s else []) ++ (if live then liveReceivers i x s else [])) s

/-- An event at SGT that gives a slot new contents. In START it raises no change events (R15, R21). -/
def sgtAlter (i : Fin 96) (x : Slot) (s : State) : State :=
  if s.pwc.power = .start then s.setSlot i x else changeEvents i s.slots[i] x (s.setSlot i x)

/-! ## Events at SGT -/

/-- The slot after an update from its source (R5, R9). -/
def Slot.updated (x : Slot) (st : LiveStatus) (v : Value) (stamp now : Time) : Slot :=
  { x with
    liveStatus := st
    liveValue := if st = .valid then v else x.liveValue
    updateTime := stamp
    refreshTimer :=
      if x.kind = .network ∧ x.refreshTimeout ≠ 0 then startTimer now x.refreshTimeout
      else x.refreshTimer }

/-- An update from its source reaches a slot (R5). -/
def sgtUpdate (i : Fin 96) (st : LiveStatus) (v : Value) (s : State) : State :=
  sgtAlter i (s.slots[i].updated st v s.now s.now) s

/-- The slots bound to a source. -/
def State.boundTo (s : State) (k : SourceKind) (index : Option (Fin 32)) : List (Fin 96) :=
  allSlots.filter fun i => s.slots[i].kind == k && s.slots[i].index == index

/-- A source delivers an update to every slot bound to it; slots are not ordered against one another
(R2, R7). -/
def sourceUpdate (k : SourceKind) (index : Option (Fin 32)) (st : LiveStatus) (v : Value) (s : State) :
    State :=
  deliverAll ((s.boundTo k index).map fun i => sgtUpdate i st v) s

/-- The index of a sender, channel or door as a source index. -/
def sourceIndex {n : Nat} (h : n ≤ 32) (i : Fin n) : Option (Fin 32) := some (i.castLE h)

/-- A source of one of the eight-fold kinds. -/
def sourceOf (i : Fin 8) : Option (Fin 32) := sourceIndex (by omega) i

/-- A slot at the expiry of its refresh timer (R9). -/
def Slot.expired (x : Slot) : Slot :=
  { x with
    refreshTimer := none
    liveStatus := if x.liveStatus = .valid then .stale else x.liveStatus }

/-- The refresh timer of a slot expires (R9). -/
def refreshExpiry (i : Fin 96) (s : State) : State :=
  if timerDue s.slots[i].refreshTimer s.now then sgtAlter i s.slots[i].expired s else s

/-- A SUBSTITUTE reaches its slot (R11). -/
def sgtSubstitute (i : Fin 96) (v : Value) (s : State) : State :=
  sgtAlter i { s.slots[i] with substitution := some v } s

/-- A RELEASE_SUBSTITUTE reaches its slot: a visible change for SVC, a release event for WRE (R12). -/
def sgtRelease (i : Fin 96) (s : State) : State :=
  let x := s.slots[i].released
  deliverAll [wreRelease i, svcSample i x.visibleValue x.visibleStatus] (s.setSlot i x)

/-- The slot that has no value of its own any more (R16, R17). -/
def Slot.unavailable (x : Slot) (now : Time) : Slot :=
  if x.bound then
    { x with liveStatus := .notAvailable, updateTime := now, substitution := none, refreshTimer := none }
  else x

/-- The run restart at SGT: no change events (R16). -/
def sgtRestart (s : State) : State :=
  { s with slots := s.slots.map fun x => x.unavailable s.now }

/-- SLEEP entry at SGT: ordinary change events (R17). -/
def sgtSleep (s : State) : State :=
  allSlots.foldl (fun t i => sgtAlter i (t.slots[i].unavailable t.now) t) s

/-- The refresh timeout that a binding gives: that of the filter entry for a NETWORK slot, else 0 (R2). -/
def Calibration.refreshTimeout (c : Calibration) (i : Fin 96) : Nat :=
  match c.slots[i].kind, c.slots[i].index with
  | .network, some e => c.filters[e].refreshTimeout
  | _, _ => 0

/-- A slot newly bound by a calibration (R15, R18). -/
def boundSlot (c : Calibration) (now : Time) (i : Fin 96) : Slot :=
  if c.bound i then
    { slotReset with
      kind := c.slots[i].kind
      index := c.slots[i].index
      updateTime := now
      refreshTimeout := c.refreshTimeout i }
  else slotReset

/-- The Signal Table is bound to the active calibration (R15, R18): no change events. -/
def sgtBind (s : State) : State := { s with slots := Vector.ofFn (boundSlot s.cal s.now) }

/-- The table event (R10) at its two receivers, WRE (R96) and OPU (R109), without order between them. -/
def tableEvent (s : State) : State := deliverAll [wreTable, opuTable] s

/-! ## READ_SIGNALS and the expiry -/

/-- A signal record, 7 bytes (R13, Table 77). -/
def signalRecord (s : State) (i : Fin 96) : List Byte :=
  let x := s.slots[i]
  if x.bound then
    bytes32 x.visibleValue ++ [numByte x.visibleStatus.code] ++ leBytes 2 (x.age s.now)
  else bytes32 0#32 ++ [numByte Status.notAvailable.code] ++ leBytes 2 65535

/-- READ_SIGNALS at SGT (R13). -/
def readSignalsWork (bs : List Byte) (s : State) : Reply :=
  match indexArgs 96 bs with
  | none => refuse s .badArgument
  | some is =>
    if is.isEmpty || decide (12 < is.length) then refuse s .badArgument
    else
      let shown := is.take 8
      accept s (numByte shown.length :: shown.flatMap (signalRecord s))

/-- READ_SIGNALS (R13). -/
def execReadSignals (p : Port) (s : State) : Host.Outcome State Fault Refusal :=
  act s (carryOut .readSignals p readSignalsWork)

/-- REFRESH_TIMER_EXPIRY (R9). -/
def execRefreshTimerExpiry (slot : Fin 96) (s : State) : Host.Outcome State Fault Refusal :=
  act s (refreshExpiry slot)

end Sys2Proof.Machine
end

