-- ==== Sys2Proof/Machine/Channels.lean ====
section
/-! DEFINITION. The Counter Channel Unit (chapter 3): gates, counting and completion, RATE and WIDTH
measurement, set-points, the role counts, publication, CHANNEL_CONTROL and READ_CHANNELS, and what the
power events and the commit do to the channels. -/

namespace Sys2Proof.Machine

/-! ## Counts -/

/-- The count of a channel: the role count for a role channel (R50). -/
def State.count (s : State) (c : Fin 8) : Count :=
  match s.cal.channels[c].role with
  | .odometer => s.ccu.odometer.count
  | .hours => s.ccu.hours.count
  | .noRole => s.ccu.channels[c].count

/-- Set the count of a channel. -/
def State.putCount (s : State) (c : Fin 8) (n : Count) : State :=
  match s.cal.channels[c].role with
  | .odometer => { s with ccu := { s.ccu with odometer := { s.ccu.odometer with count := n } } }
  | .hours => { s with ccu := { s.ccu with hours := { s.ccu.hours with count := n } } }
  | .noRole => s.setChannel c { s.ccu.channels[c] with count := n }

/-- Whether a channel counts: TOTAL, TIMER or FOLLOW. -/
def ChannelMode.counts : ChannelMode → Bool
  | .total | .timer | .follow => true
  | .off | .rate | .width => false

/-- Whether a channel has a role. -/
def ChannelItem.hasRole (x : ChannelItem) : Bool := x.role != .noRole

/-! ## Publication -/

/-- A channel delivers a value to its slots (R53, R54). -/
def ccuDeliver (c : Fin 8) (v : Value) (s : State) : State :=
  sourceUpdate .channel (sourceOf c) .valid v s

/-- A channel delivers its count, saturated, and records it, with the hold-off timer given (R53; log entry 26). What
it records is the count itself, also above the saturation (log entry 46). -/
def ccuDeliverCount (c : Fin 8) (holdOff : Timer) (s : State) : State :=
  let n := s.count c
  ccuDeliver c (clampCount n)
    (s.setChannel c { s.ccu.channels[c] with lastDelivery := some n, holdOff := holdOff })

/-- A change of the count of a counting channel is published (R53). -/
def publishCount (c : Fin 8) (s : State) : State :=
  if s.ccu.channels[c].holdOff.isNone then ccuDeliverCount c (startTimer s.now 10) s else s

/-- The delivery of the initialisations of section 3.8: at once, with the hold-off timer stopped (R53). -/
def deliverInitial (c : Fin 8) (s : State) : State :=
  if s.cal.channels[c].mode.counts then ccuDeliverCount c none s else s

/-- The hold-off timer of a channel expires (R53): the count itself is compared with the last delivery, also above
the saturation (log entry 46). -/
def holdOffExpiry (c : Fin 8) (s : State) : State :=
  if timerDue s.ccu.channels[c].holdOff s.now then
    if s.ccu.channels[c].lastDelivery = some (s.count c) then
      s.setChannel c { s.ccu.channels[c] with holdOff := none }
    else ccuDeliverCount c (startTimer s.now 10) s
  else s

/-! ## Gates -/

/-- Whether the hardware gate permits counting (R40). -/
def State.gatePermits (s : State) (x : ChannelItem) : Bool :=
  match x.hardwareGate with
  | none => true
  | some n => s.switches[n].active == (x.gatePolarity == .active)

/-- The effective gate that a soft gate gives; a role channel's is OPEN (R40, R50). -/
def State.gateFor (s : State) (c : Fin 8) (soft : Bool) : Bool :=
  s.cal.channels[c].hasRole || (soft && s.gatePermits s.cal.channels[c])

/-- A RATE window starts (R41, R47). -/
def Channel.startWindow (x : Channel) (it : ChannelItem) (now : Time) : Channel :=
  { x with count := 0, window := startTimer now it.rateWindow.ms }

/-- A WIDTH channel is armed (R41, R48). -/
def Channel.armed (x : Channel) : Channel := { x with count := 0, phase := .waiting }

/-- A measuring channel whose gate is OPEN begins: a RATE window starts, a WIDTH channel is armed. -/
def Channel.begin (x : Channel) (it : ChannelItem) (now : Time) : Channel :=
  if x.gateOpen then
    match it.mode with
    | .rate => x.startWindow it now
    | .width => x.armed
    | .off | .total | .timer | .follow => x
  else x

/-- An opening of the effective gate (R41). -/
def gateOpens (c : Fin 8) (s : State) : State :=
  let it := s.cal.channels[c]
  let s := s.setChannel c { s.ccu.channels[c] with gateOpen := true }
  if it.mode.counts then (if it.clearOnOpen then publishCount c (s.putCount c 0) else s)
  else s.setChannel c (s.ccu.channels[c].begin it s.now)

/-- A closing of the effective gate (R42). -/
def Channel.closed (x : Channel) (count : Count) : Channel :=
  { x with
    gateOpen := false
    hold := count
    setPoint := x.pendingSetPoint.getD x.setPoint
    pendingSetPoint := none
    window := none
    phase := .idle }

/-- The effective gate re-evaluated (R40). A channel in mode OFF keeps its reset values (R38), and a role
channel's gate is OPEN whatever its gates are (R50). -/
def reevaluate (c : Fin 8) (s : State) : State :=
  let x := s.ccu.channels[c]
  let isOpen := s.gateFor c x.softGate
  if s.cal.channels[c].mode = .off || s.cal.channels[c].hasRole || isOpen = x.gateOpen then s
  else if isOpen then gateOpens c s
  else s.setChannel c (x.closed (s.count c))

/-! ## Counting -/

/-- The increments after which a role requests a save (R51). -/
def Role.saveEvery : Role → Nat
  | .odometer => 10
  | .hours => 60
  | .noRole => 0

/-- A role count after an increment, and whether it requests a save (R50, R51). -/
def RoleCount.incremented (x : RoleCount) (every : Nat) : RoleCount × Bool :=
  if x.sinceSave + 1 < every then (⟨x.count + 1, x.sinceSave + 1⟩, false) else (⟨x.count + 1, 0⟩, true)

/-- A changed role count is published, and a save requested where one is due, with no order between the two
(R51, R53, R160). -/
def roleChanged (c : Fin 8) (save : Bool) (s : State) : State :=
  deliverAll (publishCount c :: (if save then [rstRequest .counterSave] else [])) s

/-- Set the odometer with its increments since save. -/
def State.putOdometer (s : State) (r : RoleCount) : State :=
  { s with ccu := { s.ccu with odometer := r } }

/-- Set the hours count with its increments since save. -/
def State.putHours (s : State) (r : RoleCount) : State := { s with ccu := { s.ccu with hours := r } }

/-- An increment of a role channel; at saturation it does not take place (R50, R51). -/
def roleIncrement (c : Fin 8) (s : State) : State :=
  if s.count c = BitVec.allOnes 32 then s
  else
    match s.cal.channels[c].role with
    | .odometer =>
      let r := s.ccu.odometer.incremented Role.odometer.saveEvery
      roleChanged c r.2 (s.putOdometer r.1)
    | .hours =>
      let r := s.ccu.hours.incremented Role.hours.saveEvery
      roleChanged c r.2 (s.putHours r.1)
    | .noRole => s

/-- Whether an increment from a count is a completion (R45). -/
def completes (count setPoint : Count) : Bool :=
  setPoint != 0#32 && decide (setPoint.toNat ≤ count.toNat + 1)

/-- The channel numbered one higher, when it is in mode FOLLOW (R45). -/
def State.follower (s : State) (c : Fin 8) : Option (Fin 8) :=
  (toIndex 8 (c.val + 1)).filter fun d => s.cal.channels[d].mode == .follow

/-- An increment of a counting channel with its completion test and publication; a completion is an event
at the FOLLOW neighbour, which counts it while its gate is OPEN (R43–R46). An increment that completes is published
once, as the 0 that it leaves (log entry 45). The number bounds the chain. -/
def increment : Nat → Fin 8 → State → State
  | 0, _, s => s
  | fuel + 1, c, s =>
    if s.cal.channels[c].hasRole then roleIncrement c s
    else
      let x := s.ccu.channels[c]
      if completes x.count x.setPoint then
        let s := s.setChannel c { x with
          count := 0
          setPoint := x.pendingSetPoint.getD x.setPoint
          pendingSetPoint := none }
        match s.follower c with
        | none => publishCount c s
        | some d =>
          deliverAll [publishCount c,
            fun t => if t.ccu.channels[d].gateOpen then increment fuel d t else t] s
      else publishCount c (s.setChannel c { x with count := x.count + 1 })

/-- One increment at a channel, with the chain that may follow it over at most eight channels. -/
def countOne (c : Fin 8) (s : State) : State := increment 8 c s

/-! ## Edges, ticks and windows -/

/-- Whether an edge field takes a transition to a level (R39). -/
def EdgeChoice.takes (e : EdgeChoice) (high : Bool) : Bool :=
  match e with
  | .rising => high
  | .falling => !high
  | .both => true

/-- Whether a level is the active level of a WIDTH channel: high for RISING, low for FALLING (R48). -/
def EdgeChoice.active (e : EdgeChoice) (high : Bool) : Bool := high == (e == .rising)

/-- The end of a WIDTH measurement (R48): the result, then the soft gate OFF and the closing (R42). -/
def endWidth (c : Fin 8) (s : State) : State :=
  let x := s.ccu.channels[c]
  let result := clampCount x.count
  let s := s.setChannel c { x with result := result, phase := .idle, softGate := false }
  ccuDeliver c result (reevaluate c s)

/-- An edge event at a WIDTH channel (R48). -/
def widthEdge (c : Fin 8) (high : Bool) (s : State) : State :=
  let x := s.ccu.channels[c]
  match x.phase, s.cal.channels[c].edge.active high with
  | .waiting, true => s.setChannel c { x with phase := .measuring }
  | .measuring, false => endWidth c s
  | .waiting, false | .measuring, true | .idle, true | .idle, false => s

/-- An edge event at a channel (R39, R43, R47, R48). -/
def edgeAt (c : Fin 8) (high : Bool) (s : State) : State :=
  let it := s.cal.channels[c]
  let x := s.ccu.channels[c]
  match it.mode with
  | .total => if x.gateOpen && it.edge.takes high then countOne c s else s
  | .rate =>
    if x.window.isSome && it.edge.takes high then s.setChannel c { x with count := x.count + 1 } else s
  | .width => widthEdge c high s
  | .off | .timer | .follow => s

/-- The channels that an edge of an input reaches (R39). -/
def edgeReceivers (c : Calibration) (n : Fin 8) : List (Fin 8) :=
  allEight.filter fun k =>
    c.channels[k].pulseInput == n
      && (c.channels[k].mode == .total || c.channels[k].mode == .rate || c.channels[k].mode == .width)

/-- A pulse input changes its level; in RUN and AFTERRUN this is an edge event, delivered to every channel
that uses the input (R39; log entry 8). -/
def pulseChange (n : Fin 8) (s : State) : State :=
  let high := !s.pins.pulses[n]
  let s := { s with pins := { s.pins with pulses := s.pins.pulses ^^^ BitVec.twoPow 8 n.val } }
  if s.pwc.power.working then
    deliverAll ((edgeReceivers s.cal n).map fun c => edgeAt c high) s
  else s

/-- A millisecond tick at a channel (R44, R48). -/
def tickAt (c : Fin 8) (s : State) : State :=
  let x := s.ccu.channels[c]
  match s.cal.channels[c].mode with
  | .timer => if x.gateOpen then countOne c s else s
  | .width => if x.phase = .measuring then s.setChannel c { x with count := satInc x.count } else s
  | .off | .total | .rate | .follow => s

/-- The channels that receive a millisecond tick and do something at it (R39). -/
def tickReceivers (s : State) : List (Fin 8) :=
  allEight.filter fun c =>
    (s.cal.channels[c].mode == .timer && s.ccu.channels[c].gateOpen)
      || (s.cal.channels[c].mode == .width && s.ccu.channels[c].phase == .measuring)

/-- The result of a RATE window (R47). -/
def rateResult (it : ChannelItem) (count : Count) : Value :=
  clampValue (quotient ((count.toNat : Int) * it.multiplier.toInt) (it.divisor : Int))

/-- The window timer of a channel expires (R47). -/
def windowExpiry (c : Fin 8) (s : State) : State :=
  let x := s.ccu.channels[c]
  if timerDue x.window s.now then
    let it := s.cal.channels[c]
    let result := rateResult it x.count
    ccuDeliver c result (s.setChannel c { x.startWindow it s.now with result := result })
  else s

/-! ## Initialisations (section 3.8) -/

/-- The state that R58 gives a channel under the active calibration. -/
def freshChannel (s : State) (c : Fin 8) : Channel :=
  let it := s.cal.channels[c]
  let soft := it.hasRole || it.defaultSoftGate
  { channelReset with
    softGate := soft
    gateOpen := s.gateFor c soft
    setPoint := it.upperSetPoint }

/-- Every channel takes the state that a function gives it. -/
def State.mapChannels (s : State) (f : Fin 8 → Channel) : State :=
  { s with ccu := { s.ccu with channels := Vector.ofFn f } }

/-- Every channel takes the state of R58. -/
def ccuFresh (s : State) : State := s.mapChannels (freshChannel s)

/-- Channels whose gate is OPEN begin: those chosen (R58). -/
def ccuBegin (which : Fin 8 → Bool) (s : State) : State :=
  s.mapChannels fun c =>
    if which c then s.ccu.channels[c].begin s.cal.channels[c] s.now else s.ccu.channels[c]

/-- Every counting channel delivers its count (R58–R61). -/
def ccuDeliverAll (s : State) : State := deliverAll (allEight.map deliverInitial) s

/-- Power-on and pin reset in START (R58), after the counter restore has set the role counts. -/
def ccuInit (s : State) : State :=
  ccuDeliverAll
    (ccuFresh ((s.putOdometer ⟨s.ccu.odometer.count, 0⟩).putHours ⟨s.ccu.hours.count, 0⟩))

/-- The power state leaves START (R58). -/
def ccuStart (s : State) : State := ccuBegin (fun _ => true) s

/-- The run restart (R59): channels without a role begin afresh, role channels keep their state. -/
def ccuRestart (s : State) : State :=
  let plain (c : Fin 8) : Bool := !s.cal.channels[c].hasRole
  ccuDeliverAll (ccuBegin plain
    (s.mapChannels fun c => if plain c then freshChannel s c else s.ccu.channels[c]))

/-- SLEEP entry (R60). -/
def ccuSleep (s : State) : State :=
  s.mapChannels fun c => { s.ccu.channels[c] with holdOff := none, window := none, phase := .idle }

/-- A channel at wake (R60; log entry 27): gate re-evaluated, a kept open gate begins anew, count
delivered. -/
def channelWake (c : Fin 8) (s : State) : State :=
  let s := reevaluate c (s.setChannel c { s.ccu.channels[c] with lastDelivery := none })
  deliverInitial c (s.setChannel c (s.ccu.channels[c].begin s.cal.channels[c] s.now))

/-- The wake at the channels, which are not ordered against one another (R60). -/
def ccuWake (s : State) : State := deliverAll (allEight.map channelWake) s

/-- The commit (R61): the role counts are kept with their increments since save. -/
def ccuCommit (s : State) : State := ccuDeliverAll (ccuBegin (fun _ => true) (ccuFresh s))

/-! ## CHANNEL_CONTROL and READ_CHANNELS -/

/-- The actions of CHANNEL_CONTROL, in the order of R55. -/
inductive GateAction
  | softGateOn | softGateOff | setCount | setUpper
  deriving DecidableEq, Repr

/-- The code of an action (R208). -/
def GateAction.code : GateAction → Nat
  | .softGateOn => 0 | .softGateOff => 1 | .setCount => 2 | .setUpper => 3

/-- The gate byte of a channel record (section 13.3). -/
def gateByte (x : Channel) : Byte :=
  numByte ((if x.softGate then 1 else 0) + (if x.gateOpen then 2 else 0)
    + (if x.pendingSetPoint.isSome then 4 else 0) + 16 * x.phase.code)

/-- The increments since save that a channel shows (Table 19). -/
def State.sinceSave (s : State) (c : Fin 8) : Nat :=
  match s.cal.channels[c].role with
  | .odometer => s.ccu.odometer.sinceSave
  | .hours => s.ccu.hours.sinceSave
  | .noRole => 0

/-- A channel record, 24 bytes (R57, Table 77). -/
def channelRecord (s : State) (c : Fin 8) : List Byte :=
  let it := s.cal.channels[c]
  let x := s.ccu.channels[c]
  [numByte it.mode.code, numByte it.role.code, gateByte x] ++ bytes32 (s.count c) ++ bytes32 x.hold
    ++ bytes32 x.result ++ bytes32 x.setPoint ++ bytes32 (x.pendingSetPoint.getD 0)
    ++ [numByte (s.sinceSave c)]

/-- The owner's permission of a port over a channel (Table 20, check 2). -/
def channelPermitted (p : Port) (s : State) (c : Fin 8) : Bool :=
  match p with
  | .cluster => false
  | .body => s.cal.channels[c].bodyControl
  | .service => s.svc.state != .off

/-- The value of a new set-point (R49). -/
def Channel.setUpper (x : Channel) (v : Count) : Channel :=
  if x.gateOpen then { x with pendingSetPoint := some v }
  else { x with setPoint := v, pendingSetPoint := none }

/-- An accepted action (R56). -/
def channelAction (a : GateAction) (c : Fin 8) (v : Count) (s : State) : State :=
  let x := s.ccu.channels[c]
  match a with
  | .softGateOn => reevaluate c (s.setChannel c { x with softGate := true })
  | .softGateOff => reevaluate c (s.setChannel c { x with softGate := false })
  | .setCount => publishCount c (s.putCount c v)
  | .setUpper => s.setChannel c (x.setUpper v)

/-- The checks 3 to 7 of Table 20 and the action. -/
def channelDecide (a : GateAction) (c : Fin 8) (v : Count) (s : State) : Reply :=
  let it := s.cal.channels[c]
  let x := s.ccu.channels[c]
  if it.mode = .off then refuse s .notPermitted
  else if it.hasRole && a != .softGateOn then refuse s .notPermitted
  else if a = .setCount && (it.mode = .rate || it.mode = .width) then refuse s .badArgument
  else if (a = .softGateOn && x.softGate) || (a = .softGateOff && !x.softGate) then
    ⟨s, .already, channelRecord s c⟩
  else
    let t := channelAction a c v s
    accept t (channelRecord t c)

/-- CHANNEL_CONTROL at the named channel: checks 1 and 2 of Table 20, then the rest. The value is one of the
request's fixed fields for every action, and the two gate actions ignore what it is (R193, Table 78). -/
def channelControlWork (a : GateAction) (p : Port) (bs : List Byte) (s : State) : Reply :=
  match indexArg 8 bs 0, wordArg bs 2 with
  | some c, some v =>
    if (bs[1]?).map BitVec.toNat = some a.code then
      if channelPermitted p s c then channelDecide a c v s else refuse s .notPermitted
    else refuse s .badArgument
  | _, _ => refuse s .badArgument

/-- Whether a payload suits a command of CHANNEL_CONTROL: it names the action, or no action of R55. -/
def suitsAction (a : GateAction) (bs : List Byte) : Bool :=
  match bs[1]? with
  | none => true
  | some b => b.toNat == a.code || decide (3 < b.toNat)

/-- CHANNEL_CONTROL with an action is carried out in RUN and AFTERRUN: in SLEEP no source delivers (R17), and a
request in hand there waits for the wake (log entry 18). -/
def channelControl (a : GateAction) (p : Port) (s : State) : State :=
  if s.pwc.power.working then
    carryOutForm .channelControl p (suitsAction a) (channelControlWork a p) s
  else s

/-- READ_CHANNELS: one or two channels (R57). -/
def readChannelsWork (bs : List Byte) (s : State) : Reply :=
  match indexArgs 8 bs with
  | none => refuse s .badArgument
  | some cs =>
    if cs.isEmpty || decide (2 < cs.length) then refuse s .badArgument
    else accept s (cs.flatMap (channelRecord s))

/-- An ODOMETER_SET at the ODOMETER channel (R52). -/
def odometerSetAt (v : Count) (s : State) : Reply :=
  match s.cal.roleChannel .odometer with
  | none => refuse s .notPermitted
  | some c =>
    if v < s.ccu.odometer.count then refuse s .badArgument
    else accept (roleChanged c true (s.putOdometer ⟨v, 0⟩)) (bytes32 v)

/-! ## Commands -/

/-- PULSE_EDGE (R39). -/
def execPulseEdge (n : Fin 8) (s : State) : Host.Outcome State Fault Refusal := act s (pulseChange n)

/-- RATE_WINDOW_EXPIRY (R47). -/
def execRateWindowExpiry (c : Fin 8) (s : State) : Host.Outcome State Fault Refusal :=
  act s (windowExpiry c)

/-- HOLD_OFF_EXPIRY (R53). -/
def execHoldOffExpiry (c : Fin 8) (s : State) : Host.Outcome State Fault Refusal :=
  act s (holdOffExpiry c)

/-- SOFT_GATE_ON (R56). -/
def execSoftGateOn (p : Port) (s : State) : Host.Outcome State Fault Refusal :=
  act s (channelControl .softGateOn p)

/-- SOFT_GATE_OFF (R56). -/
def execSoftGateOff (p : Port) (s : State) : Host.Outcome State Fault Refusal :=
  act s (channelControl .softGateOff p)

/-- SET_COUNT (R56). -/
def execSetCount (p : Port) (s : State) : Host.Outcome State Fault Refusal :=
  act s (channelControl .setCount p)

/-- SET_UPPER (R49). -/
def execSetUpper (p : Port) (s : State) : Host.Outcome State Fault Refusal :=
  act s (channelControl .setUpper p)

/-- READ_CHANNELS (R57). -/
def execReadChannels (p : Port) (s : State) : Host.Outcome State Fault Refusal :=
  act s (carryOut .readChannels p readChannelsWork)

end Sys2Proof.Machine
end

