-- ==== Sys2Proof/Machine/Doors.lean ====
section
/-! DEFINITION. The Door Supervisor (chapter 7): re-derivation, transitions, faults, what a door hands its
neighbours, the ramp, the stop-request latch, and READ_DOORS. -/

namespace Sys2Proof.Machine

/-! ## Inputs and records -/

/-- Whether a switch input is active. -/
def State.active (s : State) (n : Fin 32) : Bool := s.switches[n].active

/-- Whether an optional input is present and active; an absent one is taken as inactive (R115). -/
def State.optActive (s : State) (o : Option (Fin 32)) : Bool := o.any fun n => s.switches[n].active

/-- Every timer of a door stopped. -/
def DoorRecord.stopped (r : DoorRecord) : DoorRecord :=
  { r with openLimit := none, settle := none, closeLimit := none }

/-- The closed state that the locked input gives (R115, R123). -/
def closedStateOf (s : State) (it : DoorItem) : DoorState :=
  if it.lockedInput.isNone || s.optActive it.lockedInput then .closedLocked else .closed

/-- OPENING with its timers (R115, R119). -/
def DoorRecord.opening (r : DoorRecord) (it : DoorItem) (now : Time) : DoorRecord :=
  { r.stopped with
    state := .opening
    reason := none
    openLimit := startTimer now it.openLimit
    settle := if it.openInput.isNone then startTimer now it.settleTime else none }

/-- OPEN (R120). -/
def DoorRecord.opened (r : DoorRecord) : DoorRecord := { r.stopped with state := .doorOpen, reason := none }

/-- FAULT with a reason (R124). -/
def DoorRecord.faulted (r : DoorRecord) (why : DoorReason) : DoorRecord :=
  { r.stopped with state := .fault, reason := some why }

/-- RELEASED (R117). -/
def DoorRecord.toReleased (r : DoorRecord) : DoorRecord :=
  { r.stopped with state := .released, reason := none }

/-- The record of a door that is not present (R114); cycle count and last open duration are kept. -/
def DoorRecord.absent (r : DoorRecord) : DoorRecord :=
  { doorReset with cycles := r.cycles, lastOpen := r.lastOpen }

/-- A re-derivation of a present door from its inputs (R115). -/
def rederived (s : State) (d : Fin 4) : DoorRecord :=
  let it := s.cal.doors[d]
  let r := { s.drs.doors[d] with reversals := 0 }
  let r' := { r with openStart := some (r.openStart.getD s.now) }
  let isClosed := s.active it.closedInput
  let isOpen := s.optActive it.openInput
  if s.optActive it.releaseInput then r'.toReleased
  else if isClosed && !isOpen then
    { r.stopped with state := closedStateOf s it, reason := none, openStart := none }
  else if isOpen && !isClosed then r'.opened
  else if !isOpen && !isClosed then r'.opening it s.now
  else r'.faulted .switchConflict

/-! ## Faults -/

/-- The fault code of a door and a reason (R124, Table 44). -/
def doorCode (d : Fin 4) (why : DoorReason) : BitVec 16 :=
  BitVec.ofNat 16 (0xE200 + 8 * d.val + why.number)

/-- The reports that a passage between two records makes: the end of the old reason, then the occurrence of
the new one (R115, R117, R124, R125). -/
def doorReports (d : Fin 4) (old new : DoorRecord) : List Report :=
  if old.reason = new.reason then []
  else
    (old.reason.toList.map fun why => Report.ended (doorCode d why))
      ++ (new.reason.toList.map fun why => Report.occurrence (doorCode d why) (.door d))

/-! ## Handing -/

/-- Door activity or a port transaction at PWC: in AFTERRUN the quiet timer starts anew (R206). -/
def pwcActivity (s : State) : State :=
  if s.pwc.power = .afterrun then
    s.setPwc { s.pwc with quiet := false, quietTimer := startTimer s.now 10000 }
  else s

/-- The latch given to every STOPREQ slot (R129). -/
def stopReqUpdate (s : State) : State :=
  sourceUpdate .stopReq none .valid (if s.drs.latch then 1 else 0) s

/-- Set or clear the latch in DRS. -/
def State.putLatch (s : State) (b : Bool) : State := { s with drs := { s.drs with latch := b } }

/-- What a setting or clearing of the latch hands, besides the DOORS notice (R128, R129). -/
def latchHandings (set : Bool) : List Delivery := [stopReqUpdate, opuLatch set set]

/-- The door's state at its slots (R126). -/
def doorUpdate (d : Fin 4) (st : DoorState) (s : State) : State :=
  sourceUpdate .door (sourceIndex (by omega) d) .valid (BitVec.ofNat 32 st.number) s

/-- An event at a door that changes its state or re-derives it: the record, the latch that an OPEN door
clears, and the handings to the neighbours and to FLM, without order among them (R124, R126, R129). PTU and
PWC are told first; no order with the others can be told apart. -/
def doorEvent (d : Fin 4) (r : DoorRecord) (more : List Delivery) (s : State) : State :=
  let old := s.drs.doors[d]
  let clears := r.state == .doorOpen && s.drs.latch
  let s := s.setDoor d r
  let s := if clears then s.putLatch false else s
  let reports := doorReports d old r
  deliverAll
    ([doorUpdate d r.state, opuDoorState d r.state] ++ more
      ++ (if clears then latchHandings false else [])
      ++ (if reports.isEmpty then [] else [flmReports reports]))
    (pwcActivity (s.notice flagDoors))

/-- A re-derivation with its handing (R115, R126). -/
def doorRederive (d : Fin 4) (s : State) : State := doorEvent d (rederived s d) [] s

/-! ## Transitions -/

/-- The closing transition (R123). -/
def DoorRecord.closedNow (r : DoorRecord) (s : State) (it : DoorItem) : DoorRecord :=
  { r.stopped with
    state := closedStateOf s it
    cycles := satInc r.cycles
    lastOpen := s.now - r.openStart.getD s.now
    openStart := none
    reversals := 0 }

/-- A reversal in CLOSING (R122): the close-limit timer runs on. -/
def DoorRecord.reversed (r : DoorRecord) (it : DoorItem) : DoorRecord :=
  let r := { r with reversals := r.reversals + 1 }
  if it.reversalLimit < r.reversals then r.faulted .edgeRepeated else { r with state := .reversing }

/-- The start of a closing (R121); an active edge reverses it within the event. -/
def DoorRecord.closingStarts (r : DoorRecord) (s : State) (it : DoorItem) : DoorRecord :=
  let r := { r.stopped with state := .closing, closeLimit := startTimer s.now it.closeLimit }
  if s.optActive it.edgeInput then r.reversed it else r

/-- The start of a door cycle (R119); an open input already made passes the door on to OPEN. -/
def DoorRecord.cycleStarts (r : DoorRecord) (s : State) (it : DoorItem) : DoorRecord :=
  let r := { r with openStart := some s.now, reversals := 0 }
  if s.optActive it.openInput then r.opened else r.opening it s.now

/-- The record after a change of an input by the rules of the door's state (R118–R123); absent when the
change is ignored. -/
def doorStateStep (s : State) (it : DoorItem) (r : DoorRecord) (n : Fin 32) : Option DoorRecord :=
  let on := s.active n
  match r.state with
  | .closed =>
    if n = it.closedInput then (if on then none else some (r.cycleStarts s it))
    else if it.lockedInput = some n && on then some { r with state := .closedLocked }
    else none
  | .closedLocked =>
    if n = it.closedInput then (if on then none else some (r.cycleStarts s it))
    else if it.lockedInput = some n && !on then some { r with state := .closed }
    else none
  | .opening =>
    if n = it.closedInput && on then some (r.closedNow s it)
    else if it.openInput = some n && on then some r.opened
    else none
  | .doorOpen =>
    if n = it.closedInput && on then some (r.closedNow s it)
    else if it.openInput = some n && !on then some (r.closingStarts s it)
    else none
  | .closing =>
    if n = it.closedInput && on then some (r.closedNow s it)
    else if it.openInput = some n && on then some r.opened
    else if it.edgeInput = some n && on then some (r.reversed it)
    else none
  | .reversing =>
    if n = it.closedInput && on then some (r.closedNow s it)
    else if it.openInput = some n && on then some r.opened
    else none
  | .released | .fault => none

/-- The record after a debounced change of an input, in the order of R116. -/
def doorInputStep (s : State) (d : Fin 4) (n : Fin 32) : Option DoorRecord :=
  let it := s.cal.doors[d]
  let r := s.drs.doors[d]
  if it.releaseInput = some n && s.active n then some r.toReleased
  else if r.state = .released then
    if it.releaseInput = some n then some (rederived s d) else none
  else if r.state = .fault then
    if n = it.closedInput || it.openInput = some n then some (rederived s d) else none
  else if s.active it.closedInput && s.optActive it.openInput then some (r.faulted .switchConflict)
  else doorStateStep s it r n

/-- A change of a door's ramp out (R127). -/
def rampChange (d : Fin 4) (out : Bool) (s : State) : State :=
  opuRamp d out ((s.setDoor d { s.drs.doors[d] with rampOut := out }).notice flagDoors)

/-- A debounced change of an input at a present door (R116, R127). -/
def doorInput (d : Fin 4) (n : Fin 32) (s : State) : State :=
  let s := if s.cal.doors[d].rampInput = some n then rampChange d (s.active n) s else s
  match doorInputStep s d n with
  | none => s
  | some r => doorEvent d r [] s

/-- The present doors that name an input (Table 12). -/
def doorsOn (c : Calibration) (n : Fin 32) : List (Fin 4) :=
  allDoors.filter fun d => c.doors[d].present && c.doors[d].inputs.contains n

/-- An open-limit timer expires (R120). -/
def openLimitExpiry (d : Fin 4) (s : State) : State :=
  if timerDue s.drs.doors[d].openLimit s.now then
    doorEvent d (s.drs.doors[d].faulted .openTimeout) [] s
  else s

/-- A settle timer expires (R120). -/
def settleExpiry (d : Fin 4) (s : State) : State :=
  if timerDue s.drs.doors[d].settle s.now then doorEvent d s.drs.doors[d].opened [] s else s

/-- A close-limit timer expires (R123). -/
def closeLimitExpiry (d : Fin 4) (s : State) : State :=
  if timerDue s.drs.doors[d].closeLimit s.now then
    doorEvent d (s.drs.doors[d].faulted .closeTimeout) [] s
  else s

/-! ## The stop-request latch -/

/-- Whether some present door is OPEN (R128). -/
def State.someDoorOpen (s : State) : Bool :=
  allDoors.any fun d => s.cal.doors[d].present && s.drs.doors[d].state == .doorOpen

/-- An activation of a stop-request input (R128). -/
def stopRequest (s : State) : State :=
  if s.pwc.power = .run && !s.someDoorOpen && !s.drs.latch then
    deliverAll (latchHandings true) ((s.putLatch true).notice flagDoors)
  else s

/-- The clearing of the latch at ignition-off (R129). -/
def latchOff (s : State) : State :=
  if s.drs.latch then deliverAll (latchHandings false) ((s.putLatch false).notice flagDoors) else s

/-! ## Power events and commit (section 7.10) -/

/-- Whether a door's ramp is out by its ramp input (R127). -/
def State.rampActive (s : State) (d : Fin 4) : Bool :=
  s.cal.doors[d].present && s.optActive s.cal.doors[d].rampInput

/-- Power-on and pin reset in START: cycle counts from the counter restore, ramp out from the first switch
sample; STOPREQ slots receive VALID 0 (R131). -/
def drsInit (s : State) : State :=
  stopReqUpdate { s with drs := ⟨Vector.ofFn fun d =>
    { doorReset with cycles := s.drs.doors[d].cycles, rampOut := s.rampActive d }, false⟩ }

/-- A present door re-derived, its ramp out taken and handed with its state (R131, R133, R134). -/
def doorAfresh (d : Fin 4) (s : State) : State :=
  let out := s.rampActive d
  doorEvent d { rederived s d with rampOut := out } [opuRamp d out] s

/-- The present doors. -/
def Calibration.presentDoors (c : Calibration) : List (Fin 4) :=
  allDoors.filter fun d => c.doors[d].present

/-- The power state leaves START: every present door is re-derived (R131). -/
def drsStart (s : State) : State := deliverAll (s.cal.presentDoors.map doorAfresh) s

/-- The run restart (R132). -/
def drsRestart (s : State) : State :=
  deliverAll (stopReqUpdate :: s.cal.presentDoors.map doorRederive) s

/-- SLEEP entry: every timer stops (R133). -/
def drsSleep (s : State) : State :=
  { s with drs := { s.drs with doors := s.drs.doors.map DoorRecord.stopped } }

/-- The wake (R133). -/
def drsWake (s : State) : State :=
  deliverAll (stopReqUpdate :: s.cal.presentDoors.map doorAfresh) s

/-- A door that is not present under the committed calibration: its fault ends, and it takes the values of
R114 (R134). -/
def doorLeaves (d : Fin 4) (s : State) : State :=
  let old := s.drs.doors[d]
  flmReports (doorReports d old old.absent) (s.setDoor d old.absent)

/-- The commit at the doors (R134): the latch is kept and handed to the slots of the new binding, unless a
door re-derived to OPEN clears it. -/
def drsCommit (s : State) : State :=
  deliverAll (stopReqUpdate ::
    allDoors.map fun d => if s.cal.doors[d].present then doorAfresh d else doorLeaves d) s

/-! ## READ_DOORS -/

/-- A door record of an answer, 13 bytes (R130, Table 77). -/
def doorBytes (s : State) (d : Fin 4) : List Byte :=
  let r := s.drs.doors[d]
  [flagByte s.cal.doors[d].present, numByte r.state.number,
    (r.reason.map fun why => numByte why.number).getD 0xFF#8, numByte r.reversals]
    ++ bytes32 r.cycles ++ bytes32 r.lastOpen ++ [flagByte r.rampOut]

/-- READ_DOORS at DRS (R130). -/
def readDoorsWork (_bs : List Byte) (s : State) : Reply :=
  accept s (allDoors.flatMap (doorBytes s) ++ [flagByte s.drs.latch])

/-- READ_DOORS (R130). -/
def execReadDoors (p : Port) (s : State) : Host.Outcome State Fault Refusal :=
  act s (carryOut .readDoors p readDoorsWork)

/-- OPEN_LIMIT_EXPIRY (R120). -/
def execOpenLimitExpiry (d : Fin 4) (s : State) : Host.Outcome State Fault Refusal :=
  act s (openLimitExpiry d)

/-- SETTLE_TIMER_EXPIRY (R120). -/
def execSettleTimerExpiry (d : Fin 4) (s : State) : Host.Outcome State Fault Refusal :=
  act s (settleExpiry d)

/-- CLOSE_LIMIT_EXPIRY (R123). -/
def execCloseLimitExpiry (d : Fin 4) (s : State) : Host.Outcome State Fault Refusal :=
  act s (closeLimitExpiry d)

end Sys2Proof.Machine
end

