-- ==== Sys2Proof/Machine/Inputs.lean ====
section
/-! DEFINITION. The Switch Input Unit and the Sender Input Unit (chapter 2): debounce, first samples and
the delivery of debounced changes; filter, wire diagnosis, curve and publication of the senders. -/

namespace Sys2Proof.Machine

/-! ## Switch inputs -/

/-- The sampled state of an input: its raw level under its polarity (R19, R20). -/
def State.sampled (s : State) (n : Fin 32) : Bool :=
  s.pins.switches[n] == (s.cal.switches[n].polarity == .activeHigh)

/-- The debounce class of an input in samples (R20). -/
def State.debounceClass (s : State) (n : Fin 32) : Nat := s.cal.switches[n].debounce.ms

/-- A sample of one millisecond (R20). A count that reaches the debounce class stands until its debounced change
is taken within the same millisecond (log entry 6). -/
def sampledSwitch (x : SwitchState) (sampled : Bool) : SwitchState :=
  if sampled = x.active then { x with disagreement := 0 }
  else { x with disagreement := x.disagreement + 1 }

/-- The closed inputs of present doors, which are the wake inputs (R24). -/
def Calibration.wakeInput (c : Calibration) (n : Fin 32) : Bool :=
  allDoors.any fun d => c.doors[d].present && c.doors[d].closedInput == n

/-- The samples of one millisecond: every input in START, RUN and AFTERRUN, the wake inputs in SLEEP
(R24). -/
def sampleSwitches (s : State) : State :=
  { s with switches := Vector.ofFn fun n =>
    (if s.pwc.power = .sleep && !s.cal.wakeInput n then s.switches[n]
      else sampledSwitch s.switches[n] (s.sampled n)) }

/-- The debounced state of an input given to its slots (Table 8). -/
def switchUpdate (n : Fin 32) (s : State) : State :=
  sourceUpdate .switch (some n) .valid (if s.active n then 1 else 0) s

/-- The first sample of every input (R21). -/
def firstSample (s : State) : State :=
  { s with switches := Vector.ofFn fun n => ⟨s.sampled n, 0⟩ }

/-- The deliveries of a first sample, or of the run restart, to the slots (R21, R25). -/
def switchUpdates : List Delivery := allSwitches.map switchUpdate

/-- Whether an input is one of the stop-request inputs (R128). -/
def Calibration.stopInput (c : Calibration) (n : Fin 32) : Bool := some n ∈ c.general.stopInputs.toList

/-- The channels whose hardware gate is an input (Table 12). -/
def gatesOn (c : Calibration) (n : Fin 32) : List (Fin 8) :=
  allEight.filter fun k => c.channels[k].hardwareGate == some n

/-- The users of a debounced change in RUN and AFTERRUN (Table 12): slots and door records and channels at
either change, the stop-request logic and the acknowledge input at an activation. -/
def switchUsers (n : Fin 32) (s : State) : List Delivery :=
  (s.boundTo .switch (some n)).map
      (fun i => sgtUpdate i .valid (if s.active n then 1 else 0))
    ++ (doorsOn s.cal n).map (fun d => doorInput d n)
    ++ (gatesOn s.cal n).map reevaluate
    ++ (if s.active n && s.cal.stopInput n then [stopRequest] else [])
    ++ (if s.active n && s.cal.general.ackInput == some n then [wreAcknowledgeInput] else [])

/-- The debounced state takes the sampled state, and the count becomes 0 (R20). -/
def switchTaken (n : Fin 32) (s : State) : State := s.setSwitch n ⟨!s.switches[n].active, 0⟩

/-- SLEEP entry at SWI: inputs that are not wake inputs lose their count (R24). -/
def swiSleep (s : State) : State :=
  { s with switches := Vector.ofFn fun n =>
    (if s.cal.wakeInput n then s.switches[n] else { s.switches[n] with disagreement := 0 }) }

/-! ## Sender inputs -/

/-- Whether a sender input is in use: some slot is bound to it (R27). -/
def Calibration.senderInUse (c : Calibration) (n : Fin 8) : Bool :=
  allSlots.any fun i => c.slots[i].kind == .sender && c.slots[i].index == sourceOf n

/-- The filtered value after a sample (R28): the difference divided by 2^level, rounded toward zero. -/
def filtered (it : SenderItem) (old : Option (BitVec 12)) (raw : BitVec 12) : BitVec 12 :=
  match old with
  | none => raw
  | some f =>
    BitVec.ofInt 12
      ((f.toNat : Int) + quotient ((raw.toNat : Int) - (f.toNat : Int)) (2 ^ it.filterLevel.val))

/-- Whether a filtered value is out of range by the thresholds that are present (R29). -/
def SenderItem.outside (it : SenderItem) (f : BitVec 12) : Bool :=
  it.openThreshold.any (fun t => decide (t ≤ f)) || it.shortThreshold.any (fun t => decide (f ≤ t))

/-- The diagnosis after a sample: state and pending time (R29). -/
def diagnose (isOut : Bool) (pending : Option Time) (judged : Bool) (now : Time) : Bool × Option Time :=
  if judged = isOut then (isOut, none)
  else match pending with
    | none => (isOut, some now)
    | some t => if 500 ≤ elapsed now t then (judged, none) else (isOut, some t)

/-- The value between two points, the quotient rounded toward zero (R31). -/
def interpolate (p q : CurvePoint) (f : Int) : Int :=
  let r : Int := p.raw.toNat
  p.value.toInt + quotient ((f - r) * (q.value.toInt - p.value.toInt)) ((q.raw.toNat : Int) - r)

/-- The curve value over the points in use (R31): the first value below, the last value above, and the
segment's value between. A curve has at least two points (R26). -/
def curveValue : List CurvePoint → Int → Int
  | [], _ => 0
  | [p], _ => p.value.toInt
  | p :: q :: rest, f =>
    if f ≤ p.raw.toNat then p.value.toInt
    else if f ≤ q.raw.toNat then interpolate p q f
    else curveValue (q :: rest) f

/-- The publication that a sample forms (R32). -/
def publicationOf (it : SenderItem) (isOut : Bool) (f : BitVec 12) : Publication :=
  if isOut then .outOfRange else .valid (BitVec.ofInt 32 (curveValue it.pointsInUse f.toNat))

/-- A publication at a slot (R32): OUT_OF_RANGE carries no value. -/
def Publication.update (p : Publication) (i : Fin 96) (s : State) : State :=
  match p with
  | .valid v => sgtUpdate i .valid v s
  | .outOfRange => sgtUpdate i .outOfRange 0 s

/-- The fault code of a sender (R30). -/
def senderCode (n : Fin 8) : BitVec 16 := BitVec.ofNat 16 (0xE100 + n.val)

/-- The report of a change of the diagnosis state (R30). -/
def senderReports (n : Fin 8) (old new : Bool) : List Report :=
  if old = new then []
  else if new then [.occurrence (senderCode n) (.sender n)]
  else [.ended (senderCode n)]

/-- A sample of a sender input in use: filter, diagnosis, curve and publication (R28–R32). The report and the
slots have no order among them (R30). -/
def senderSample (n : Fin 8) (raw : BitVec 12) (s : State) : State :=
  if s.cal.senderInUse n && s.pwc.power != .sleep then
    let it := s.cal.senders[n]
    let x := s.senders[n]
    let f := filtered it x.filtered raw
    let d := diagnose x.outOfRange x.pendingTime (it.outside f) s.now
    let p := publicationOf it d.1 f
    let news := x.lastPublication != some p
    let reports := senderReports n x.outOfRange d.1
    deliverAll
      ((if news then (s.boundTo .sender (sourceOf n)).map p.update else [])
        ++ (if reports.isEmpty then [] else [flmReports reports]))
      (s.setSender n ⟨some f, d.1, d.2, some p⟩)
  else s

/-- Every sender input takes the state that a function gives it. -/
def State.mapSenders (s : State) (f : SenderState → SenderState) : State :=
  { s with senders := s.senders.map f }

/-- SLEEP entry at SNI (R34). -/
def sniSleep (s : State) : State :=
  s.mapSenders fun x => { x with filtered := none, pendingTime := none, lastPublication := none }

/-- The run restart at SNI (R34). -/
def sniRestart (s : State) : State := s.mapSenders fun x => { x with lastPublication := none }

/-- A sender input at the commit: in use it starts afresh with its diagnosis kept, and otherwise it ends its
fault and holds nothing (R35). -/
def senderCommit (n : Fin 8) (s : State) : State :=
  let x := s.senders[n]
  if s.cal.senderInUse n then s.setSender n { senderReset with outOfRange := x.outOfRange }
  else flmReports (senderReports n x.outOfRange false) (s.setSender n senderReset)

/-- The samples that the senders in use take together, which are not ordered against one another (R28). -/
def sampleSenders (raw : Conversions) (s : State) : State :=
  deliverAll (allEight.map fun n => senderSample n raw[n]) s

/-- The commit at SNI, one event (R35). Where several inputs leave use, their ends are sent in input order, one
that R35 does not give (log entry 30). -/
def sniCommit (s : State) : State := deliverInOrder (allEight.map senderCommit) s

/-- SENDER_SAMPLE (R28). -/
def execSenderSample (n : Fin 8) (raw : BitVec 12) (s : State) : Host.Outcome State Fault Refusal :=
  act s (senderSample n raw)

end Sys2Proof.Machine
end

