-- ==== Sys2Proof/Machine/Network.lean ====
section
/-! DEFINITION. The Network Intake (chapter 4): the frames of a NET_FRAMES request, matching, extraction,
raw conventions, scaling and delivery. -/

namespace Sys2Proof.Machine

/-- A network frame of a request (R65). -/
structure NetFrame where
  identifier : BitVec 29
  extended : Bool
  data : List Byte
  deriving DecidableEq, Repr

/-- The frame at the front of a payload: identifier word (bit 31 extended, bits 29–30 ignored), data length
and data (Table 78); absent where R65 refuses it. -/
def frameAt (bs : List Byte) : Option NetFrame :=
  let word := field32 bs 0
  let len := (byteAt bs 4).toNat
  let f : NetFrame := ⟨word.setWidth 29, word.msb, (bs.drop 5).take len⟩
  if bs.length < 5 + len || decide (8 < len) then none
  else if !f.extended && decide (0x7FF#29 < f.identifier) then none
  else some f

/-- The frames that a count declares, one after another (R65). -/
def framesAt : Nat → List Byte → Option (List NetFrame)
  | 0, _ => some []
  | n + 1, bs => do
    let f ← frameAt bs
    let rest ← framesAt n (bs.drop (5 + f.data.length))
    some (f :: rest)

/-- The frames of a payload; absent where the request is refused (R65). -/
def netFramesOf (bs : List Byte) : Option (List NetFrame) :=
  match bs with
  | [] => none
  | n :: rest => if 1 ≤ n.toNat ∧ n.toNat ≤ 4 then framesAt n.toNat rest else none

/-- Whether a frame matches an entry (R66). -/
def FilterItem.takes (e : FilterItem) (f : NetFrame) : Bool :=
  e.enabled && (e.extended == f.extended)
    && (f.identifier &&& e.mask == e.identifier &&& e.mask)

/-- The number that bytes give, most significant byte first. -/
def beNum (bs : List Byte) : Nat := bs.foldl (fun n b => 256 * n + b.toNat) 0

/-- The raw field of an entry in data bytes; absent where it does not fit (R67). In LITTLE order position p
weighs 2^p in the number that starts with its least significant byte, and in BIG order 2^(8L − 1 − p) in the
number that starts with its most significant byte. -/
def FilterItem.rawField (e : FilterItem) (data : List Byte) : Option Nat :=
  let bits := 8 * data.length
  if bits < e.startBit + e.bitLength then none
  else match e.byteOrder with
    | .little => some ((leNum data >>> e.startBit) % 2 ^ e.bitLength)
    | .big => some ((beNum data >>> (bits - e.startBit - e.bitLength)) % 2 ^ e.bitLength)

/-- The number that a raw field stands for (R69, step 1). -/
def FilterItem.number (e : FilterItem) (raw : Nat) : Int :=
  if e.signed && decide (2 ^ (e.bitLength - 1) ≤ raw) then (raw : Int) - 2 ^ e.bitLength else raw

/-- The scaled value (R69). -/
def FilterItem.scaled (e : FilterItem) (raw : Nat) : Value :=
  clampValue (quotient (e.number raw * e.multiplier.toInt) e.divisor + e.offset.toInt)

/-- The status and value of an update: the raw conventions, then the scaling (R68). -/
def FilterItem.convert (e : FilterItem) (raw : Nat) : LiveStatus × Value :=
  if 2 ≤ e.bitLength && raw == 2 ^ e.bitLength - 1 then (.notAvailable, 0)
  else if 2 ≤ e.bitLength && raw == 2 ^ e.bitLength - 2 then (.outOfRange, 0)
  else (.valid, e.scaled raw)

/-- An update that a request produces. -/
structure NetUpdate where
  slot : Fin 96
  status : LiveStatus
  value : Value
  deriving DecidableEq, Repr

/-- The update that an entry makes of a frame it takes, if its field is present (R66, R67). -/
def FilterItem.update (e : FilterItem) (f : NetFrame) : Option NetUpdate := do
  let slot ← e.targetSlot
  let raw ← e.rawField f.data
  let c := e.convert raw
  some ⟨slot, c.1, c.2⟩

/-- The entries that a frame matches, in entry order (R66). -/
def matching (c : Calibration) (f : NetFrame) : List FilterItem :=
  c.filters.toList.filter fun e => e.takes f

/-- The updates of a request in the order in which NWI hands them over (R70; log entry 33). -/
def netUpdates (c : Calibration) (fs : List NetFrame) : List NetUpdate :=
  fs.flatMap fun f => (matching c f).filterMap fun e => e.update f

/-- The count of frames that matched at least one entry (R71). -/
def matchedCount (c : Calibration) (fs : List NetFrame) : Nat :=
  (fs.filter fun f => !(matching c f).isEmpty).length

/-- An update at its slot (R70). -/
def NetUpdate.deliver (u : NetUpdate) (s : State) : State := sgtUpdate u.slot u.status u.value s

/-- NET_FRAMES at NWI (R65–R71). -/
def netFramesWork (bs : List Byte) (s : State) : Reply :=
  match netFramesOf bs with
  | none => refuse s .badArgument
  | some fs =>
    accept (deliverInOrder ((netUpdates s.cal fs).map NetUpdate.deliver) s)
      [numByte (matchedCount s.cal fs)]

/-- NET_FRAMES is carried out in RUN and AFTERRUN (R65); in SLEEP no source delivers (R17; log entry 18). -/
def netFrames (s : State) : State :=
  if s.pwc.power.working then carryOut .netFrames .body netFramesWork s else s

/-- NET_FRAMES (R65). -/
def execNetFrames (s : State) : Host.Outcome State Fault Refusal := act s netFrames

end Sys2Proof.Machine
end

