-- ==== Sys2Proof/Machine/Sleep.lean ====
section
/-! DEFINITION. SLEEP entry and its decision (R206, R207), which the Record Store's work can bring about. -/

namespace Sys2Proof.Machine

/-- A change of the power state sets the POWER notice on all three ports (R201). -/
def powerTo (p : PowerState) (s : State) : State := (s.setPwc { s.pwc with power := p }).notice flagPower

/-- SLEEP entry (R207). OPU is handed it first: what the other order gives cannot be told apart (R109). -/
def enterSleep (s : State) : State :=
  let s := powerTo .sleep (s.setPwc { s.pwc with quietTimer := none })
  drsSleep (ccuSleep (sniSleep (swiSleep (sgtSleep (opuPower .sleep s)))))

/-- The SLEEP decision at an event at PWC: in AFTERRUN, with quiet YES and the store idle (R206). -/
def sleepDecision (s : State) : State :=
  if s.pwc.power = .afterrun && s.pwc.quiet && s.pwc.storeIdle then enterSleep s else s

/-- The Record Store hands PWC a change of its store idle condition; becoming idle is an event at which SLEEP
may be entered (R206). -/
def handStoreIdle (s : State) : State :=
  let now := s.storeIdle
  if now = s.pwc.storeIdle then s
  else
    let s := s.setPwc { s.pwc with storeIdle := now }
    if now then sleepDecision s else s

end Sys2Proof.Machine
end

