-- ==== Sys2Proof/Machine/Store.lean ====
section
/-! DEFINITION. The Record Store at work (sections 9.4 to 9.6): the flash controller, its jobs, appends and
rewrites, failures, READ_ONLY areas and the background erase. -/

namespace Sys2Proof.Machine

/-! ## The Block Status Table and the store's fields -/

/-- Replace a member of the Block Status Table. -/
def Rst.setBlock (r : Rst) (b : Fin 16) (x : BlockStatus) : Rst := { r with blocks := r.blocks.set b x }

/-- Change the state of a block, its other fields kept. -/
def Rst.putState (r : Rst) (b : Fin 16) (st : BlockState) : Rst :=
  r.setBlock b { r.blocks[b] with state := st }

/-- The next free slot of a block moves on. -/
def Rst.advance (r : Rst) (b : Fin 16) : Rst :=
  r.setBlock b { r.blocks[b] with writePoint := r.blocks[b].writePoint + 1 }

/-- The OPEN block of an area. -/
def Rst.openBlock (r : Rst) (a : Area) : Option (Fin 16) :=
  a.blocks.find? fun b => r.blocks[b].state == .blockOpen

/-- The OPEN block of an area with room for an append (R157). -/
def Rst.openWithRoom (r : Rst) (a : Area) : Option (Fin 16) :=
  (r.openBlock a).filter fun b => decide (r.blocks[b].writePoint ≤ 62)

/-- The store state of an area: true is READ_ONLY. -/
def StoreStates.of (x : StoreStates) : Area → Bool
  | .calibration => x.calibration | .counters => x.counters | .faults => x.faults

/-- An area becomes READ_ONLY. -/
def StoreStates.close (x : StoreStates) : Area → StoreStates
  | .calibration => { x with calibration := true }
  | .counters => { x with counters := true }
  | .faults => { x with faults := true }

/-- A block has been erased: it has no header, and no newest counter record stands in it (R158, R168). -/
def Rst.erased (r : Rst) (b : Fin 16) : Rst :=
  { (r.setBlock b blockReset) with
    newestCounter := r.newestCounter.filter fun x => x.1 != b }

/-- A slot index below 64. -/
def slotNumber (n : Nat) : Fin 64 := ⟨n % 64, Nat.mod_lt _ (by omega)⟩

/-- The area of a job. -/
def Job.area : Job → Area
  | .counterSave => .counters
  | .faultAppend _ | .faultRewrite => .faults
  | .calibWrite => .calibration

/-- The fault code of an area that becomes READ_ONLY (R167). -/
def storeCode (a : Area) : BitVec 16 := BitVec.ofNat 16 (0xE300 + a.number)

/-! ## What jobs take from RAM (R163) -/

/-- The values of a COUNTER record (R156). -/
def State.counterValues (s : State) : CounterValues where
  odometer := s.ccu.odometer.count
  hours := s.ccu.hours.count
  cycles := s.drs.doors.map fun d => d.cycles
  ignition := s.pwc.ignitionCycles

/-- The record that a FAULT_APPEND writes: the entry of its code, or a REMOVE (R145, R163). -/
def State.appendContent (s : State) (code : BitVec 16) : List Byte :=
  match s.flm.list.find? fun e => e.code == code with
  | some e => entryContent e
  | none => removeContent code

/-! ## Operations of a job -/

/-- The controller runs an operation of a job. -/
def State.runJob (s : State) (j : RunningJob) : State :=
  s.setRst { s.rst with controller := .running j }

/-- The controller is IDLE; PWC is told when that makes the store idle (R162, R206). -/
def controllerIdle (s : State) : State := handStoreIdle (s.setRst { s.rst with controller := .idle })

/-- A COUNTER record of a job's own values is programmed: it takes the next counter sequence (R156; log entry
21). -/
def programCounter (j : RunningJob) (task : FlashTask) (b : Fin 16) (k : Fin 64) (v : CounterValues)
    (s : State) : State :=
  let content := counterContent s.rst.nextCounterSeq v
  let s := s.setRst { s.rst with nextCounterSeq := satInc s.rst.nextCounterSeq }
  s.runJob { j with task := task, op := .program b k content }

/-- A job of an area that finds no block: the area becomes READ_ONLY, the job is dropped, the STORE notice is
set and the occurrence of E300h + area sent (R167). FLM and PWC are told without order. -/
def areaCloses (a : Area) (s : State) : State :=
  let s := s.setRst { s.rst with readOnly := s.rst.readOnly.close a, controller := .idle }
  deliverAll [handStoreIdle, flmReport (.occurrence (storeCode a) .store)] (s.notice flagStore)

/-- The header of the block being filled is programmed with the next block sequence (R158, log entry 21). -/
def startHeader (j : RunningJob) (a : Area) (b : Fin 16) (s : State) : State :=
  let sequence := s.rst.nextBlockSeq
  let s := s.setRst { (s.rst.putState b .filling) with nextBlockSeq := satInc sequence }
  s.runJob { j with task := .header sequence, op := .program b 0 (headerContent a sequence) }

/-- Step 1 of a rewrite: the next ERASED block after the origin in cyclic order, else the first STALE one,
which is erased first, else the area becomes READ_ONLY (R158). -/
def startRewrite (j : RunningJob) (s : State) : State :=
  let a := j.job.area
  let order := a.cyclicAfter j.origin
  match order.find? fun b => s.rst.blocks[b].state == .erased with
  | some b => startHeader j a b s
  | none =>
    match order.find? fun b => s.rst.blocks[b].state == .stale with
    | some b => s.runJob { j with task := .staleErase, op := .erase b }
    | none => areaCloses a s

/-- The calibration block: B0, or B1 when B0 is BAD; none when both are (R164, R172). -/
def Rst.calibrationBlock (r : Rst) : Option (Fin 16) :=
  Area.calibration.blocks.find? fun b => r.blocks[b].state != .bad

/-- A calibration write begins, or begins again on the other block, with the erase (R164): the block is FILLING,
with slot 0 the next that the job programs and no sequence as yet (R155, Table 54). -/
def startCalibration (j : RunningJob) (s : State) : State :=
  match s.rst.calibrationBlock with
  | none => areaCloses .calibration s
  | some b =>
    (s.setRst (s.rst.setBlock b ⟨.filling, 0, none⟩)).runJob
      { j with task := .calibrationErase, op := .erase b }

/-- The number of records of an image before IMAGE_END (R159, R164). -/
def JobData.imageLength : JobData → Nat
  | .counter _ => 1
  | .appendRecord _ => 0
  | .faults l => l.length
  | .image _ => 51

/-- Record k of an image that does not come from the newest counter location. -/
def JobData.imageRecord (d : JobData) (k : Nat) : List Byte :=
  match d with
  | .faults l => (l[k]?).elim [] entryContent
  | .image c => calibrationContent c.image k
  | .counter _ | .appendRecord _ => []

/-- The location of the newest COUNTER record, when the record there passes its check (R159). -/
def Rst.newestValid (r : Rst) : Option (Fin 16 × Fin 64) :=
  r.newestCounter.filter fun x => (r.flash.counter x.1 x.2).isSome

/-- The COUNTER image of one record: the newest moved by copy-back, or the job's own (R159). -/
def startCounterImage (j : RunningJob) (b : Fin 16) (v : CounterValues) (s : State) : State :=
  match s.rst.newestValid with
  | some x =>
    s.runJob { j with task := .imageRecord 0, op := .copyBack b 1 x.1 x.2, ownFollows := true }
  | none => programCounter { j with ownFollows := false } (.imageRecord 0) b 1 v s

/-- The operation that follows `k` image records: record k, or IMAGE_END (R158, R159, R164). -/
def nextImageOp (j : RunningJob) (b : Fin 16) (k : Nat) (s : State) : State :=
  if k < j.data.imageLength then
    match j.data with
    | .counter v => startCounterImage j b v s
    | .appendRecord _ | .faults _ | .image _ =>
      s.runJob { j with
        task := .imageRecord k
        op := .program b (slotNumber (k + 1)) (j.data.imageRecord k) }
  else s.runJob { j with task := .imageEnd, op := .program b (slotNumber (k + 1)) imageEndContent }

/-! ## Taking a job -/

/-- The choice of a job: an URGENT COUNTER_SAVE in AFTERRUN, else the first that is no CALIB_WRITE, else the
CALIB_WRITE (R162). -/
def chooseJob (q : List Job) (p : PowerState) : Option Job :=
  if p = .afterrun ∧ Job.counterSave ∈ q then some .counterSave
  else match q.find? fun j => j != .calibWrite with
    | some j => some j
    | none => q.head?

/-- A job of a journal area that appends where there is room, and rewrites otherwise (R157, R163). -/
def startJournal (j : RunningJob) (append : Fin 16 → State → State) (s : State) : State :=
  let a := j.job.area
  match s.rst.openWithRoom a with
  | some b => append b s
  | none => startRewrite { j with origin := (s.rst.openBlock a).getD a.lowest } s

/-- The write point of a block as a slot. -/
def Rst.writeSlot (r : Rst) (b : Fin 16) : Fin 64 := slotNumber r.blocks[b].writePoint

/-- A job as it is taken, with what it takes from RAM; task and operation are set as it starts. -/
def newJob (job : Job) (data : JobData) : RunningJob :=
  ⟨job, data, .append, .erase 0, job.area.lowest, false⟩

/-- A job starts with what it takes from RAM (R163). -/
def startJob (job : Job) (s : State) : State :=
  match job with
  | .counterSave =>
    let v := s.counterValues
    let j := newJob job (.counter v)
    startJournal j (fun b t => programCounter j .append b (t.rst.writeSlot b) v t) s
  | .faultAppend code =>
    let content := s.appendContent code
    match s.rst.openWithRoom .faults with
    | some b =>
      s.runJob { newJob job (.appendRecord content) with
        op := .program b (s.rst.writeSlot b) content }
    | none => startJournal (newJob job (.faults s.flm.list)) (fun _ t => t) s
  | .faultRewrite =>
    startRewrite { newJob job (.faults s.flm.list) with
      origin := (s.rst.openBlock .faults).getD Area.faults.lowest } s
  | .calibWrite => startCalibration (newJob job (.image s.cal)) s

/-- A chosen job leaves the queue and starts, or is dropped where its area is READ_ONLY (R162, R167). -/
def takeJob (job : Job) (s : State) : State :=
  let s := s.setRst { s.rst with queue := s.rst.queue.erase job }
  if s.rst.readOnly.of job.area then controllerIdle s else startJob job s

/-- The controller takes a job when it is IDLE, in RUN or AFTERRUN, and one is queued (R162). -/
def jobTaken (s : State) : State :=
  if s.rst.controller = .idle ∧ s.pwc.power.working then
    match chooseJob s.rst.queue s.pwc.power with
    | some job => takeJob job s
    | none => s
  else s

/-! ## The end of an operation -/

/-- A block is marked BAD (R166): at once, with a program of its marker slot to follow. Its write point is kept
(Table 54), and so is its block sequence, after a failed erase too, where the rules do not say whether it is
absent (log entry 42). -/
def Rst.markBad (r : Rst) (b : Fin 16) : Rst := r.putState b .bad

/-- The program of the marker slot. -/
def markerOp (b : Fin 16) : FlashOp := .program b 63 markerContent

/-- A FAIL within a job marks the block BAD; the job waits for the end of the marker program (R165, R166). The
next choice begins after a failed OPEN or FILLING block, and after the same block as before where a STALE
block could not be erased. -/
def jobFails (j : RunningJob) (s : State) : State :=
  let b := j.op.block
  let origin := if j.task = .staleErase then j.origin else b
  (s.setRst (s.rst.markBad b)).runJob { j with task := .marker, op := markerOp b, origin := origin }

/-- The job goes on after a marker program (R164, R165, R166): a failed append becomes a rewrite with the list
as it then stands, and other jobs keep what they hold. -/
def afterMarker (j : RunningJob) (s : State) : State :=
  match j.data with
  | .image _ => startCalibration j s
  | .appendRecord _ => startRewrite { j with data := .faults s.flm.list } s
  | .counter _ | .faults _ => startRewrite j s

/-- A COUNTER record programmed with PASS becomes the newest counter location (R156). -/
def Rst.noteCounter (r : Rst) (j : RunningJob) (b : Fin 16) (k : Fin 64) : Rst :=
  match j.data with
  | .counter _ => { r with newestCounter := some (b, k) }
  | .appendRecord _ | .faults _ | .image _ => r

/-- IMAGE_END has been programmed: the FILLING block becomes OPEN, the block that was OPEN before STALE
(R158). -/
def Rst.imageStands (r : Rst) (b : Fin 16) : Rst :=
  let r := match r.openBlock (areaOf b) with
    | some old => r.putState old .stale
    | none => r
  (r.advance b).putState b .blockOpen

/-- An operation of a job ends with PASS: the next operation, or the end of the job (R157, R158, R159,
R164). -/
def jobPasses (j : RunningJob) (s : State) : State :=
  let b := j.op.block
  match j.task with
  | .append =>
    controllerIdle (s.setRst ((s.rst.noteCounter j b (s.rst.writeSlot b)).advance b))
  | .staleErase => startHeader j j.job.area b (s.setRst (s.rst.erased b))
  | .calibrationErase => startHeader j .calibration b (s.setRst (s.rst.erased b))
  | .header sequence =>
    nextImageOp j b 0
      (s.setRst (s.rst.setBlock b ⟨.filling, 1, some sequence⟩))
  | .imageRecord k =>
    nextImageOp j b (k + 1) (s.setRst ((s.rst.noteCounter j b (slotNumber (k + 1))).advance b))
  | .imageEnd =>
    let s := s.setRst (s.rst.imageStands b)
    match j.ownFollows, j.data with
    | true, .counter v =>
      programCounter { j with ownFollows := false } .append b (s.rst.writeSlot b) v s
    | _, _ => controllerIdle s
  | .marker => afterMarker j s

/-- The array as the end of an operation leaves it. -/
def State.operated (s : State) (op : FlashOp) (pass : Bool) : State :=
  if pass then s.setRst { s.rst with flash := s.rst.flash.passed op }
  else (s.setRst { s.rst with flash := s.rst.flash.failed s.draws op }).drawn

/-- An operation of a background erase has ended (R166, R168): the erase with PASS, the erase with FAIL, or the
marker program. -/
def backgroundEnds (op : FlashOp) (pass : Bool) (s : State) : State :=
  match op with
  | .erase b =>
    if pass then controllerIdle (s.setRst (s.rst.erased b))
    else s.setRst { (s.rst.markBad b) with controller := .erasing (markerOp b) }
  | .program _ _ _ | .copyBack _ _ _ _ => controllerIdle s

/-- The flash operation in progress ends with PASS or FAIL (R153). A FAIL of a marker program is ignored
(R166). -/
def operationEnd (pass : Bool) (s : State) : State :=
  match s.rst.controller with
  | .idle => s
  | .erasing op => backgroundEnds op pass (s.operated op pass)
  | .running j =>
    let t := s.operated j.op pass
    if pass || j.task == .marker then jobPasses j t else jobFails j t

/-- The lowest-numbered STALE block (R168). -/
def Rst.lowestStale (r : Rst) : Option (Fin 16) :=
  allBlocks.find? fun b => r.blocks[b].state == .stale

/-- A background erase starts: controller IDLE in RUN or AFTERRUN, queue empty, some block STALE (R168). -/
def backgroundStart (s : State) : State :=
  if s.rst.controller = .idle ∧ s.pwc.power.working ∧ s.rst.queue = [] then
    match s.rst.lowestStale with
    | some b => s.setRst { s.rst with controller := .erasing (.erase b) }
    | none => s
  else s

/-- The operation in progress, if any. -/
def Controller.operation : Controller → Option FlashOp
  | .idle => none
  | .erasing op => some op
  | .running j => some j.op

/-- A power loss or a pin reset abandons the operation in progress (R169). -/
def State.abandonFlash (s : State) : State :=
  match s.rst.controller.operation with
  | none => s
  | some op => (s.setRst { s.rst with flash := s.rst.flash.abandoned s.draws op }).drawn

/-! ## Commands -/

/-- FLASH_JOB_TAKEN (R162). -/
def execFlashJobTaken (s : State) : Host.Outcome State Fault Refusal := act s jobTaken

/-- FLASH_OPERATION_END (R153). -/
def execFlashOperationEnd (pass : Bool) (s : State) : Host.Outcome State Fault Refusal :=
  act s (operationEnd pass)

/-- BACKGROUND_ERASE_START (R168). -/
def execBackgroundEraseStart (s : State) : Host.Outcome State Fault Refusal := act s backgroundStart

end Sys2Proof.Machine
end

