-- ==== Sys2Proof/Machine/StartUp.lean ====
section
/-! DEFINITION. The start-up steps of the Record Store (section 9.7): the scan, the calibration load, the
counter restore and the fault replay. -/

namespace Sys2Proof.Machine

/-! ## The scan (R170) -/

/-- Whether every slot of a block is erased. -/
def Flash.blank (f : Flash) (b : Fin 16) : Bool := (List.finRange 64).all fun k => !f.programmed b k

/-- One above the highest programmed slot among 1 to 62, or 1 (R170). -/
def Flash.writePoint (f : Flash) (b : Fin 16) : Nat :=
  (recordSlots.filter fun k => f.programmed b k).foldl (fun n k => max n (k.val + 1)) 1

/-- The header of a block that passes its check and names the block's own area. -/
def Flash.ownHeader (f : Flash) (b : Fin 16) : Option (BitVec 32) :=
  ((f.header b).filter fun h => h.1 == (areaOf b).number).map Prod.snd

/-- Whether a block holds an image end (R170). -/
def Flash.hasImageEnd (f : Flash) (b : Fin 16) : Bool := recordSlots.any fun k => f.imageEnd b k

/-- The member that the scan gives a block, with every block that has a header STALE as yet (R170). The rule
gives a BAD block its state alone, and a STALE block without a header no write point: both take the write point
and the sequence that their slots show (log entry 40). -/
def Flash.scanned (f : Flash) (b : Fin 16) : BlockStatus :=
  if f.programmed b 63 then ⟨.bad, f.writePoint b, f.ownHeader b⟩
  else if f.blank b then blockReset
  else ⟨.stale, f.writePoint b, f.ownHeader b⟩

/-- The later of two blocks by block sequence. -/
def laterBlock (f : Flash) (best : Option (Fin 16)) (b : Fin 16) : Option (Fin 16) :=
  match best with
  | none => some b
  | some a => if (f.ownHeader b).getD 0 < (f.ownHeader a).getD 0 then some a else some b

/-- The block of an area that becomes OPEN: the highest block sequence among those with a header and an image
end (R170). -/
def Flash.scanOpen (f : Flash) (a : Area) : Option (Fin 16) :=
  (a.blocks.filter fun b =>
    (f.scanned b).state == .stale && (f.ownHeader b).isSome && f.hasImageEnd b).foldl (laterBlock f) none

/-- One above the highest block sequence of any header that passes its check, or 1 (R170). -/
def Flash.nextSequence (f : Flash) : BitVec 32 :=
  match allBlocks.filterMap fun b => (f.header b).map Prod.snd with
  | [] => 1
  | x :: xs => satInc (xs.foldl (fun m y => if m < y then y else m) x)

/-- The state of a block after the scan. -/
def Flash.scanState (f : Flash) (b : Fin 16) : BlockStatus :=
  let x := f.scanned b
  if areaOf b ≠ .calibration ∧ f.scanOpen (areaOf b) = some b then { x with state := .blockOpen } else x

/-- Whether every block of an area is BAD (R170). -/
def Rst.allBad (r : Rst) (a : Area) : Bool := a.blocks.all fun b => r.blocks[b].state == .bad

/-- The store fields that the scan sets. -/
def Rst.scan (r : Rst) : Rst :=
  { r with blocks := Vector.ofFn r.flash.scanState, nextBlockSeq := r.flash.nextSequence }

/-- An area whose blocks are all BAD is READ_ONLY, with its report and notice (R167, R170; log entry 22). -/
def scanArea (a : Area) (s : State) : State :=
  if s.rst.allBad a then
    flmReport (.occurrence (storeCode a) .store)
      ((s.setRst { s.rst with readOnly := s.rst.readOnly.close a }).notice flagStore)
  else s

/-- The start-up scan (R170). Several areas whose blocks are all BAD are reported in the order of their numbers,
one that R170 does not give (log entry 30). -/
def startScan (s : State) : State :=
  scanArea .faults (scanArea .counters (scanArea .calibration (s.setRst s.rst.scan)))

/-! ## The calibration load (R172) -/

/-- The image that the records in slots 1 to 51 of a block hold; absent when one fails its check. -/
def Flash.imageIn (f : Flash) (b : Fin 16) : Option (List Byte) :=
  ((List.range 51).mapM fun k => f.calibrationPart b (slotNumber (k + 1))).map
    fun parts => parts.flatten.take 2872

/-- The valid calibration that a block holds (R172). -/
def Flash.calibrationIn (f : Flash) (b : Fin 16) : Option Calibration :=
  if (f.ownHeader b).isSome && f.imageEnd b 52 then
    ((f.imageIn b).bind Calibration.ofImage).filter fun c => c.firstFault.isNone
  else none

/-- The calibration becomes active, with the binding, the first switch samples and OPU's copies (R15, R21,
R203, Table 36). -/
def activate (c : Calibration) (loaded : Bool) (s : State) : State :=
  let s := firstSample (sgtBind { s with cal := c, calLoaded := loaded })
  let s := s.setWre { s.wre with rules := freshRules c }
  deliverAll switchUpdates (opuLoad s)

/-- The factory default becomes active, with E400h (R172). -/
def activateDefault (s : State) : State :=
  flmReport (.occurrence 0xE400#16 .calibration) (activate Calibration.factory false s)

/-- The calibration load (R172). -/
def loadCalibration (s : State) : State :=
  match s.rst.calibrationBlock with
  | none => activateDefault s
  | some b =>
    match s.rst.flash.calibrationIn b with
    | some c => activate c true (s.setRst (s.rst.putState b .blockOpen))
    | none => activateDefault s

/-! ## The counter restore (R171) -/

/-- A COUNTER record found, with the block sequence and place that break ties (R155). -/
structure FoundCounter where
  sequence : BitVec 32
  values : CounterValues
  block : Fin 16
  slot : Fin 64
  deriving DecidableEq, Repr

/-- Whether a record counts as newer than another: counter sequence, then block sequence, then slot (R155). A
block without a header of its own counts as block sequence 0, and of records equal in all three the one found
first, in the lower block, stands (log entry 37). -/
def FoundCounter.newer (f : Flash) (x y : FoundCounter) : Bool :=
  let bx := ((f.ownHeader x.block).map BitVec.toNat).getD 0
  let yb := ((f.ownHeader y.block).map BitVec.toNat).getD 0
  if x.sequence ≠ y.sequence then decide (y.sequence < x.sequence)
  else if bx ≠ yb then decide (yb < bx)
  else decide (y.slot < x.slot)

/-- Every COUNTER record that passes its check in the COUNTERS area (R171). -/
def Flash.counters (f : Flash) : List FoundCounter :=
  Area.counters.blocks.flatMap fun b =>
    recordSlots.filterMap fun k => (f.counter b k).map fun c => ⟨c.1, c.2, b, k⟩

/-- The newest of the records found. -/
def newestOf (f : Flash) (l : List FoundCounter) : Option FoundCounter :=
  l.foldl (fun best x =>
    match best with
    | none => some x
    | some b => if x.newer f b then some x else some b) none

/-- The counts restored to their holders (R171). -/
def State.restoreCounts (s : State) (v : CounterValues) : State :=
  let s := (s.putOdometer ⟨v.odometer, 0⟩).putHours ⟨v.hours, 0⟩
  let doors : Vector DoorRecord 4 := Vector.ofFn fun d => { s.drs.doors[d] with cycles := v.cycles[d] }
  let s := { s with drs := { s.drs with doors := doors } }
  s.setPwc { s.pwc with ignitionCycles := v.ignition }

/-- The counter restore (R171). -/
def restoreCounters (s : State) : State :=
  match newestOf s.rst.flash s.rst.flash.counters with
  | some x =>
    (s.restoreCounts x.values).setRst
      { s.rst with nextCounterSeq := satInc x.sequence, newestCounter := some (x.block, x.slot) }
  | none =>
    flmReport (.occurrence 0xE310#16 .store)
      ((s.restoreCounts ⟨0, 0, Vector.replicate 4 0, 0⟩).setRst
        { s.rst with nextCounterSeq := 1, newestCounter := none })

/-! ## The fault replay (R173) -/

/-- A record acts on the replay list. An ENTRY whose fields are outside their ranges has no effect (log entry
23). -/
def replayRecord (l : List FaultEntry) (c : List Byte) : List FaultEntry :=
  if byteAt c 0 = 2#8 then
    match faultEntryAt c 1 with
    | none => l
    | some e =>
      if l.any fun x => x.code == e.code then l.map fun x => if x.code = e.code then e else x
      else l ++ [e]
  else if byteAt c 0 = 3#8 then withoutCode (field16 c 1) l
  else l

/-- The entry of largest aging, the earliest among equals. -/
def oldestEntry (l : List FaultEntry) : Option FaultEntry :=
  l.foldl (fun best e =>
    match best with
    | none => some e
    | some b => if b.aging < e.aging then some e else some b) none

/-- While the list holds more than 32 entries, the entry with the largest aging is removed (R173). At most
`n` removals. -/
def trimReplay : Nat → List FaultEntry → List FaultEntry
  | 0, l => l
  | n + 1, l =>
    if l.length ≤ 32 then l
    else match oldestEntry l with
      | none => l
      | some e => trimReplay n (withoutCode e.code l)

/-- The replay list of the OPEN block, in slot order below its write point (R173). -/
def Rst.replayList (r : Rst) : List FaultEntry :=
  match r.openBlock .faults with
  | none => []
  | some b =>
    let records := (recordSlots.filter fun k => decide (k.val < r.blocks[b].writePoint)).filterMap
      fun k => r.flash.record b k
    let l := records.foldl replayRecord []
    trimReplay l.length l

/-- The fault replay, and the reports held during START applied after it (R150, R151, R173). -/
def replayFaults (s : State) : State := flmApplyHeld (flmReplay s.rst.replayList s)

end Sys2Proof.Machine
end

