-- ==== Sys2Proof/Machine/Power.lean ====
section
/-! DEFINITION. The Power Controller (chapter 12): start-up, the ignition line, ignition-on and
ignition-off, the quiet time, wake, power loss, pin reset and its release, the millisecond tick, and the
debounced change of a switch input, which can wake the part. -/

namespace Sys2Proof.Machine

/-! ## Ignition-off and ignition-on -/

/-- AFTERRUN is entered: quiet NO, quiet timer started, POWER notice (R201, R205, R206). -/
def toAfterrun (s : State) : State :=
  powerTo .afterrun (s.setPwc { s.pwc with quiet := false, quietTimer := startTimer s.now 10000 })

/-- Service mode ends at ignition-off (R176). -/
def svcIgnitionOff (s : State) : State := if s.svc.state ≠ .off then svcExit s else s

/-- Ignition-off (R205): the handings are events of their own without order among them (R201). -/
def ignitionOff (s : State) : State :=
  deliverAll
    [rstRequest .counterSave, svcIgnitionOff, wreIgnitionOff, latchOff, opuPower .afterrun]
    (toAfterrun s)

/-- RUN is entered by an ignition-on: the count first, then the power state; the quiet timer stops and quiet
becomes NO (R204). -/
def toRun (s : State) : State :=
  powerTo .run (s.setPwc { s.pwc with
    ignitionCycles := satInc s.pwc.ignitionCycles, quiet := false, quietTimer := none })

/-- What an ignition-on hands besides, without order against anything else it hands: the aging step to FLM, and
the power state to OPU (R146, R201, R204). -/
def onHandings : List Delivery := [flmAging, opuPower .run]

/-- What the sources deliver at a run restart (R16, R25, R59, R132). -/
def restartSources : List Delivery := switchUpdates ++ [ccuRestart, drsRestart]

/-- The run restart at SGT and SNI (R16, R34). -/
def tableRestart (s : State) : State := sniRestart (sgtRestart s)

/-- A run restart with the entry into RUN: SGT takes the run restart first, the table event finds every bound
slot NOT_AVAILABLE, and the sources deliver after it (R10, R16, R109, R204). -/
def restartGroups : List (List Delivery) := [[tableRestart], [tableEvent], restartSources]

/-- Ignition-on from AFTERRUN (R204). -/
def ignitionOn (s : State) : State :=
  deliverGroups (if s.pwc.rstrun then restartGroups else [[tableEvent]]) onHandings (toRun s)

/-! ## Wake (R207) -/

/-- What the blocks deliver at a wake, after the first sample of the switches (R21, R60, R133). -/
def wakeSources : List Delivery := switchUpdates ++ [ccuWake, drsWake]

/-- A wake to AFTERRUN (R207; log entry 28): after the first sample of the switches, which doors and gates
read, nothing has an order. -/
def wakeAfterrun (s : State) : State :=
  handStoreIdle (deliverAll (opuPower .afterrun :: wakeSources) (firstSample (toAfterrun s)))

/-- A wake to RUN is an ignition-on; with RSTRUN HIGH the blocks take the wake first and the run restart after
it (R207), and otherwise the table event has no order against what the wake delivers. -/
def wakeRun (s : State) : State :=
  handStoreIdle
    (deliverGroups
      (if s.pwc.rstrun then wakeSources :: restartGroups else [tableEvent :: wakeSources])
      onHandings (firstSample (toRun s)))

/-! ## Samples and debounced changes -/

/-- The debounce of the ignition line in samples (R202). -/
def ignitionClass : Nat := 50

/-- A sample of IGN (R202). -/
def sampleIgnition (ign : Bool) (s : State) : State :=
  let x := sampledSwitch ⟨s.pwc.ignition, s.pwc.ignitionDisagreement⟩ ign
  s.setPwc { s.pwc with ignitionDisagreement := x.disagreement }

/-- The debounced change of the ignition state (R202). -/
def ignitionChange (s : State) : State :=
  if s.pwc.ignitionDisagreement = ignitionClass then
    let on := !s.pwc.ignition
    let s := s.setPwc { s.pwc with ignition := on, ignitionDisagreement := 0 }
    match s.pwc.power, on with
    | .run, false => ignitionOff s
    | .afterrun, true => ignitionOn s
    | .sleep, true => wakeRun s
    | .start, _ | .run, true | .afterrun, false | .sleep, false => s
  else s

/-- Whether the disagreement count of a switch input has reached its debounce class (R20). -/
def State.countFull (s : State) (n : Fin 32) : Bool := s.switches[n].disagreement == s.debounceClass n

/-- A debounced change of a switch input and its delivery (R20, R23): to the slots alone in START, to every
user in RUN and AFTERRUN without order, to the wake logic in SLEEP. -/
def switchChange (n : Fin 32) (s : State) : State :=
  if s.countFull n then
    let s := switchTaken n s
    match s.pwc.power with
    | .start => switchUpdate n s
    | .run | .afterrun => deliverAll (switchUsers n s) s
    | .sleep => if s.cal.wakeInput n then wakeAfterrun s else s
  else s

/-- The changes of the millisecond that is ending which no command of their own has taken: its samples have
filled the counts (R20, R202; log entry 6). -/
def changesDue (s : State) : List Delivery :=
  (allSwitches.filter s.countFull).map switchChange
    ++ (if s.pwc.ignitionDisagreement = ignitionClass then [ignitionChange] else [])

/-- The samples of a new millisecond (R20, R39, R201, R202): uptime, IGN, the switches that are sampled, and the
channels that take a tick. -/
def sampleMillisecond (ign : Bool) (s : State) : State :=
  let s := s.setPwc { s.pwc with uptime := s.pwc.uptime + 1 }
  let s := sampleSwitches (sampleIgnition ign s)
  if s.pwc.power.working then deliverAll ((tickReceivers s).map tickAt) s else s

/-- A millisecond: first the changes of the one before, at the uptime of the samples that completed them (R20),
then its own samples. While RST_N holds the part, the levels alone are taken (log entry 9). -/
def tick (switches : BitVec 32) (ign : Bool) (s : State) : State :=
  let taken (t : State) : State := { t with pins := { t.pins with switches := switches, ign := ign } }
  if s.pwc.held then taken s else sampleMillisecond ign (taken (deliverAll (changesDue s) s))

/-- The quiet timer expires: quiet becomes YES, and SLEEP may be entered (R206). -/
def quietExpiry (s : State) : State :=
  if timerDue s.pwc.quietTimer s.now then
    sleepDecision (s.setPwc { s.pwc with quiet := true, quietTimer := none })
  else s

/-! ## Start-up, power loss and pin reset -/

/-- Every block at its value after power-on and pin reset, over the flash array as the abandoned operation left
it; the strap and IGN are sampled (R201–R203). -/
def ramReset (pins : PinLevels) (held : Bool) (s : State) : State :=
  let s := s.abandonFlash
  { State.reset with
    rst := rstReset s.rst.flash
    pwc := pwcReset pins.rstrun pins.ign held
    pins := pins
    draws := s.draws
    pending := s.pending }

/-- START is left (R203): the power state follows the ignition state, and then, without order among them, OPU is
handed the power state, the channels start, the doors are re-derived, and at entry into RUN the table event is
handed. It is no ignition-on. -/
def startExit (s : State) : State :=
  handStoreIdle
    (if s.pwc.ignition then
      deliverAll [opuPower .run, tableEvent, ccuStart, drsStart] (powerTo .run s)
    else deliverAll [opuPower .afterrun, ccuStart, drsStart] (toAfterrun s))

/-- The steps of START after the sample of the strap, each ending before the next begins (R203). The senders in
use take their first sample with the calibration load (R33). The channels and doors are initialised after the
counter restore (R58, R131) and before the fault replay and the held reports, where R203 leaves their place open
(log entry 44). -/
def startUp (senders : Conversions) (s : State) : State :=
  let s := sampleSenders senders (loadCalibration (startScan s))
  startExit (replayFaults (drsInit (ccuInit (restoreCounters s))))

/-- The supply rises (R203). RST_N is taken as high from then on, whatever it was (log entry 9). -/
def powerRises (levels : StartLevels) (s : State) : State :=
  startUp levels.senders (ramReset levels.pins false s)

/-- RST_N falls (R203; log entry 9). -/
def resetFalls (levels : StartLevels) (s : State) : State :=
  startUp levels.senders (ramReset levels.pins true s)

/-- RST_N rises: uptime starts at 0 and IGN is sampled again (R201, R202). -/
def resetRises (s : State) : State :=
  if s.pwc.held then s.setPwc { s.pwc with held := false, uptime := 0 } else s

/-- What the outputs drive without supply is free (log entry 10). -/
def unpoweredOutputs (draw : Nat) : Outputs :=
  let x := Config.unpoweredDrive draw
  ⟨x[0], x[1], x[2], x[3], x[4], x[5], x[6]⟩

/-- The supply is lost: RAM is lost with it, and the flash array is left as the abandoned operation leaves it
(R169). -/
def powerLost (s : State) : State :=
  let t := ramReset s.pins false s
  { t with
    supply := false
    opu := { t.opu with outputs := unpoweredOutputs t.draws }
    draws := t.draws + 1 }

/-! ## Commands -/

/-- POWER_ON (R203). It acts without supply: it is the supply's rise. -/
def execPowerOn (levels : StartLevels) (s : State) : Host.Outcome State Fault Refusal :=
  .next (powerRises levels s)

/-- PIN_RESET (R203). -/
def execPinReset (levels : StartLevels) (s : State) : Host.Outcome State Fault Refusal :=
  act s (resetFalls levels)

/-- RESET_RELEASE (R201). -/
def execResetRelease (s : State) : Host.Outcome State Fault Refusal := act s resetRises

/-- POWER_LOSS (R169). -/
def execPowerLoss (s : State) : Host.Outcome State Fault Refusal := act s powerLost

/-- IGNITION_CHANGE (R202). -/
def execIgnitionChange (s : State) : Host.Outcome State Fault Refusal := act s ignitionChange

/-- QUIET_TIMER_EXPIRY (R206). -/
def execQuietTimerExpiry (s : State) : Host.Outcome State Fault Refusal := act s quietExpiry

/-- MILLISECOND_TICK (R20, R44, R201, R202). -/
def execMillisecondTick (switches : BitVec 32) (ign : Bool) (s : State) :
    Host.Outcome State Fault Refusal := act s (tick switches ign)

/-- SWITCH_DEBOUNCED_CHANGE (R20). -/
def execSwitchDebouncedChange (n : Fin 32) (s : State) : Host.Outcome State Fault Refusal :=
  act s (switchChange n)

end Sys2Proof.Machine
end

