-- ==== Sys2Proof/Machine/Service.lean ====
section
/-! DEFINITION. The Service Controller (chapter 10): entry and exit, readout, live data, substitution,
output test, two-step requests, calibration and commit, and the setting of the odometer. -/

namespace Sys2Proof.Machine

/-! ## The form of a service request -/

/-- A service request other than SERVICE_ENTER and CALIB_READ is answered NOT_IN_SERVICE in state OFF, before
any check of its arguments (R174). -/
def inService (work : List Byte → State → Reply) (bs : List Byte) (s : State) : Reply :=
  if s.svc.state = .off then refuse s .notInService else work bs s

/-- A pending confirmation dropped (R183). -/
def State.dropConfirmation (s : State) : State := s.setSvc { s.svc with confirmation := none }

/-- A service request that is no confirmation: carried out on port S, it drops a pending confirmation and is
then decided as if none had existed (R183). -/
def serviceWork (work : List Byte → State → Reply) (bs : List Byte) (s : State) : Reply :=
  work bs s.dropConfirmation

/-! ## Entry and exit -/

/-- Whether the speed slot is VALID at or below the stationary threshold (R175, R188). -/
def State.stationary (s : State) : Bool :=
  match s.cal.general.speedSlot with
  | none => false
  | some i =>
    s.slots[i].liveStatus == .valid
      && decide (s.slots[i].liveValue.toInt ≤ s.cal.general.stationary.toInt)

/-- Whether the parking-brake slot is VALID with value 1 (R175). -/
def State.brakeApplied (s : State) : Bool :=
  match s.cal.general.brakeSlot with
  | none => false
  | some i => s.slots[i].liveStatus == .valid && s.slots[i].liveValue == 1#32

/-- SERVICE_ENTER (R175). -/
def serviceEnterWork (_bs : List Byte) (s : State) : Reply :=
  if s.svc.state ≠ .off then refuse s .already
  else if s.pwc.power ≠ .run || !s.stationary || !s.brakeApplied then refuse s .vehicleMoving
  else accept (s.setSvc { s.svc with state := .on, serviceTimer := startTimer s.now 60000 }) []

/-- SERVICE_EXIT in service (R176). -/
def serviceExitWork (_bs : List Byte) (s : State) : Reply := accept (svcExit s) []

/-- The service timer expires (R176). -/
def serviceTimerExpiry (s : State) : State :=
  if s.svc.state ≠ .off && timerDue s.svc.serviceTimer s.now then svcExit s else s

/-! ## Fault readout -/

/-- READOUT_OPEN (R178). -/
def readoutOpenWork (_bs : List Byte) (s : State) : Reply :=
  accept (s.setSvc { s.svc with readout := some ⟨s.flm.generation, 0⟩ })
    (bytes16 s.flm.generation ++ [numByte s.flm.list.length])

/-- READOUT_NEXT (R148, R178). -/
def readoutNextWork (_bs : List Byte) (s : State) : Reply :=
  match s.svc.readout with
  | none => refuse s .sequence
  | some ro =>
    let closed := s.setSvc { s.svc with readout := none }
    if ro.generation ≠ s.flm.generation then refuse closed .readoutBroken
    else match s.flm.list[ro.cursor]? with
      | none => refuse closed .ended
      | some e =>
        accept (s.setSvc { s.svc with readout := some { ro with cursor := ro.cursor + 1 } })
          (numByte ro.cursor :: e.bytes)

/-! ## Live data -/

/-- LIVE_SUBSCRIBE (R179). -/
def liveSubscribeWork (bs : List Byte) (s : State) : Reply :=
  match indexArgs 96 bs with
  | none => refuse s .badArgument
  | some is =>
    if is.length ≤ 12 ∧ is.Nodup ∧ (is.all fun i => s.slots[i].bound) then
      accept (s.setSvc { s.svc with subscription := is, liveQueue := [] }) []
    else refuse s .badArgument

/-- A live sample of an answer, 11 bytes (Table 77). -/
def LiveSample.bytes (x : LiveSample) : List Byte :=
  numByte x.slot.val :: bytes32 x.value ++ [numByte x.status.code] ++ bytes32 x.time ++ [flagByte x.gap]

/-- LIVE_FETCH (R180). -/
def liveFetchWork (_bs : List Byte) (s : State) : Reply :=
  let q := s.svc.liveQueue
  let shown := q.take 4
  accept (s.setSvc { s.svc with liveQueue := q.drop 4 })
    (numByte shown.length :: shown.flatMap LiveSample.bytes ++ [numByte (q.drop 4).length])

/-! ## Substitution -/

/-- SUBSTITUTE (R181). -/
def substituteWork (bs : List Byte) (s : State) : Reply :=
  match indexArg 96 bs 0, wordArg bs 1 with
  | some i, some v =>
    let member := s.svc.substituted.contains i
    if !s.slots[i].bound || (!member && decide (8 ≤ s.svc.substituted.length)) then
      refuse s .badArgument
    else
      let set := if member then s.svc.substituted else s.svc.substituted ++ [i]
      accept (sgtSubstitute i v (s.setSvc { s.svc with substituted := set })) []
  | _, _ => refuse s .badArgument

/-- RELEASE_SUBSTITUTE (R181). -/
def releaseWork (bs : List Byte) (s : State) : Reply :=
  match indexArg 96 bs 0 with
  | none => refuse s .badArgument
  | some i =>
    if s.svc.substituted.contains i then
      accept (sgtRelease i (s.setSvc { s.svc with substituted := s.svc.substituted.erase i })) []
    else refuse s .noSuchEntry

/-! ## Output test -/

/-- The code of the target STOP. -/
def stopTarget : Byte := 6#8

/-- Whether a payload asks for the command OUTPUT_TEST: any target but STOP. -/
def suitsTest (bs : List Byte) : Bool := bs[0]? != some stopTarget

/-- Whether a payload asks for the command OUTPUT_TEST_STOP. -/
def suitsStop (bs : List Byte) : Bool := bs[0]? == some stopTarget

/-- OUTPUT_TEST with a lamp or chime target: a start, or a replacement (R182). -/
def outputTestWork (bs : List Byte) (s : State) : Reply :=
  match (bs[0]?).bind fun b => TestTarget.ofCode b.toNat, (bs[1]?).map BitVec.toNat with
  | some t, some d =>
    if 1 ≤ d ∧ d ≤ 30 then
      accept (opuTest (some t) (s.setSvc { s.svc with
        state := .test
        outputTest := some (t, s.now + BitVec.ofNat 32 (d * 1000)) })) []
    else refuse s .badArgument
  | _, _ => refuse s .badArgument

/-- The end of a running output test (R182). -/
def endTest (s : State) : State :=
  opuTest none (s.setSvc { s.svc with state := .on, outputTest := none })

/-- OUTPUT_TEST with target STOP (R182). The duration is one of the request's fixed fields, and what it is is
ignored (R193, Table 78). -/
def outputStopWork (bs : List Byte) (s : State) : Reply :=
  if bs.length < 2 then refuse s .badArgument
  else if s.svc.state = .test then accept (endTest s) []
  else refuse s .already

/-- The test timer expires (R182). -/
def testTimerExpiry (s : State) : State :=
  if s.svc.state = .test && timerDue (s.svc.outputTest.map Prod.snd) s.now then endTest s else s

/-! ## Two-step requests -/

/-- A pending confirmation created, with its window (R183). -/
def State.prepare (s : State) (k : ConfirmKind) : State :=
  s.setSvc { s.svc with confirmation := some (k, s.now + 5000) }

/-- A confirmation: it consumes a pending confirmation of its kind, and otherwise is answered SEQUENCE; a
confirmation of the other kind is dropped (R183). -/
def confirmWork (k : ConfirmKind) (work : State → Reply) (_bs : List Byte) (s : State) : Reply :=
  if s.svc.confirmation.map Prod.fst = some k then work s.dropConfirmation
  else refuse s.dropConfirmation .sequence

/-- The counts of the Fault List as answered (R149). -/
def faultSummary (s : State) : List Byte :=
  [numByte s.flm.activeCount, numByte s.flm.storedCount, flagByte s.flm.overflow]
    ++ bytes16 s.flm.generation

/-- CLEAR_PREPARE (R184). -/
def clearPrepareWork (_bs : List Byte) (s : State) : Reply := accept (s.prepare .clear) (faultSummary s)

/-- CLEAR_CONFIRM with its confirmation (R184). -/
def clearWork (s : State) : Reply := accept (flmClear s) []

/-- The window timer expires (R183). -/
def windowTimerExpiry (s : State) : State :=
  if timerDue (s.svc.confirmation.map Prod.snd) s.now then s.dropConfirmation else s

/-! ## Calibration -/

/-- CALIB_LOAD (R185). -/
def calibLoadWork (bs : List Byte) (s : State) : Reply :=
  let base := s.svc.staging.getD s.cal
  match (bs[0]?).bind fun b => CalibSection.ofCode b.toNat, bs[1]? with
  | some sec, some i =>
    match base.withItem sec i.toNat (bs.drop 2) with
    | some c => accept (s.setSvc { s.svc with staging := some c }) []
    | none => refuse s .badArgument
  | _, _ => refuse s .badArgument

/-- CALIB_READ in every service state (R185): sources ACTIVE 0 and STAGING 1. -/
def calibReadWork (bs : List Byte) (s : State) : Reply :=
  match bs[0]?, (bs[1]?).bind fun b => CalibSection.ofCode b.toNat, bs[2]? with
  | some src, some sec, some i =>
    if !sec.hasIndex i.toNat || decide (1 < src.toNat) then refuse s .badArgument
    else if src = 0#8 then accept s (s.cal.itemBytes sec i.toNat)
    else match s.svc.staging with
      | none => refuse s .noSuchEntry
      | some c => accept s (c.itemBytes sec i.toNat)
  | _, _, _ => refuse s .badArgument

/-- Whether a CALIB_WRITE is queued or running (R186). -/
def Rst.calibrationBusy (r : Rst) : Bool :=
  r.queue.contains .calibWrite ||
    (match r.controller with
    | .running j => j.job == .calibWrite
    | .idle | .erasing _ => false)

/-- CALIB_COMMIT_PREPARE (R186). -/
def commitPrepareWork (_bs : List Byte) (s : State) : Reply :=
  match s.svc.staging with
  | none => refuse s .sequence
  | some c =>
    if s.rst.calibrationBusy then refuse s .storeBusy
    else match c.firstFault with
      | some (sec, i) => ⟨s, .configInvalid, [numByte sec.code, numByte i]⟩
      | none => accept (s.prepare .calibCommit) []

/-- SVC's own records at the commit (R187): a running test ends as at STOP. -/
def svcCommit (s : State) : State :=
  let s := if s.svc.state = .test then endTest s else s
  { s with
    calLoaded := true
    svc := { s.svc with substituted := [], subscription := [], liveQueue := [], staging := none } }

/-- The other blocks take the committed calibration (Table 62; log entry 24): WRE ends the old rules, the table
is re-bound, OPU takes its copies, the switches their first sample, and the table event follows; then the
sources deliver without order among them. -/
def blocksCommit (c : Calibration) (s : State) : State :=
  let s := wreEvent (fun e => e.commit s c) s
  let s := firstSample (opuCommit (sgtBind { s with cal := c }))
  deliverAll (switchUpdates ++ [sniCommit, ccuCommit, drsCommit]) (tableEvent s)

/-- The commit of a calibration (R187). The CALIB_WRITE request has no order against what the blocks do. -/
def commit (c : Calibration) (s : State) : State :=
  deliverAll [rstRequest .calibWrite, blocksCommit c] (svcCommit s)

/-- CALIB_COMMIT_CONFIRM with its confirmation (R187). -/
def commitWork (s : State) : Reply :=
  match s.svc.staging with
  | none => refuse s .sequence
  | some c => accept (commit c s) []

/-! ## The odometer -/

/-- ODOMETER_SET (R52, R188): the stationary test, then the setting. -/
def odometerWork (bs : List Byte) (s : State) : Reply :=
  if !s.stationary then refuse s .vehicleMoving
  else if (s.cal.roleChannel .odometer).isNone then refuse s .notPermitted
  else match wordArg bs 0 with
    | none => refuse s .badArgument
    | some v => odometerSetAt v s

/-! ## Commands -/

/-- A service request on port S that is no confirmation. -/
def serviceRequest (k : RequestKind) (work : List Byte → State → Reply) (s : State) : State :=
  carryOut k .service (serviceWork work) s

/-- SERVICE_ENTER (R175). -/
def execServiceEnter (s : State) : Host.Outcome State Fault Refusal :=
  act s (serviceRequest .serviceEnter serviceEnterWork)

/-- SERVICE_EXIT (R176). -/
def execServiceExit (s : State) : Host.Outcome State Fault Refusal :=
  act s (serviceRequest .serviceExit (inService serviceExitWork))

/-- SERVICE_TIMER_EXPIRY (R176). -/
def execServiceTimerExpiry (s : State) : Host.Outcome State Fault Refusal := act s serviceTimerExpiry

/-- READOUT_OPEN (R178). -/
def execReadoutOpen (s : State) : Host.Outcome State Fault Refusal :=
  act s (serviceRequest .readoutOpen (inService readoutOpenWork))

/-- READOUT_NEXT (R178). -/
def execReadoutNext (s : State) : Host.Outcome State Fault Refusal :=
  act s (serviceRequest .readoutNext (inService readoutNextWork))

/-- LIVE_SUBSCRIBE (R179). -/
def execLiveSubscribe (s : State) : Host.Outcome State Fault Refusal :=
  act s (serviceRequest .liveSubscribe (inService liveSubscribeWork))

/-- LIVE_FETCH (R180). -/
def execLiveFetch (s : State) : Host.Outcome State Fault Refusal :=
  act s (serviceRequest .liveFetch (inService liveFetchWork))

/-- SUBSTITUTE (R181). -/
def execSubstitute (s : State) : Host.Outcome State Fault Refusal :=
  act s (serviceRequest .substitute (inService substituteWork))

/-- RELEASE_SUBSTITUTE (R181). -/
def execReleaseSubstitute (s : State) : Host.Outcome State Fault Refusal :=
  act s (serviceRequest .releaseSubstitute (inService releaseWork))

/-- OUTPUT_TEST (R182). -/
def execOutputTest (s : State) : Host.Outcome State Fault Refusal :=
  act s (carryOutForm .outputTest .service suitsTest (serviceWork (inService outputTestWork)))

/-- OUTPUT_TEST_STOP (R182). -/
def execOutputTestStop (s : State) : Host.Outcome State Fault Refusal :=
  act s (carryOutForm .outputTest .service suitsStop (serviceWork (inService outputStopWork)))

/-- TEST_TIMER_EXPIRY (R182). -/
def execTestTimerExpiry (s : State) : Host.Outcome State Fault Refusal := act s testTimerExpiry

/-- CLEAR_PREPARE (R184). -/
def execClearPrepare (s : State) : Host.Outcome State Fault Refusal :=
  act s (serviceRequest .clearPrepare (inService clearPrepareWork))

/-- CLEAR_CONFIRM (R184). -/
def execClearConfirm (s : State) : Host.Outcome State Fault Refusal :=
  act s (carryOut .clearConfirm .service (inService (confirmWork .clear clearWork)))

/-- WINDOW_TIMER_EXPIRY (R183). -/
def execWindowTimerExpiry (s : State) : Host.Outcome State Fault Refusal := act s windowTimerExpiry

/-- CALIB_LOAD (R185). -/
def execCalibLoad (s : State) : Host.Outcome State Fault Refusal :=
  act s (serviceRequest .calibLoad (inService calibLoadWork))

/-- CALIB_READ (R185). -/
def execCalibRead (s : State) : Host.Outcome State Fault Refusal :=
  act s (serviceRequest .calibRead calibReadWork)

/-- CALIB_COMMIT_PREPARE (R186). -/
def execCalibCommitPrepare (s : State) : Host.Outcome State Fault Refusal :=
  act s (serviceRequest .calibCommitPrepare (inService commitPrepareWork))

/-- CALIB_COMMIT_CONFIRM (R187). -/
def execCalibCommitConfirm (s : State) : Host.Outcome State Fault Refusal :=
  act s (carryOut .calibCommitConfirm .service (inService (confirmWork .calibCommit commitWork)))

/-- ODOMETER_SET (R188). -/
def execOdometerSet (s : State) : Host.Outcome State Fault Refusal :=
  act s (serviceRequest .odometerSet (inService odometerWork))

end Sys2Proof.Machine
end

