-- ==== Sys2Proof/Machine/Ports.lean ====
section
/-! DEFINITION. The Port Unit (chapter 11): the fall and the rise of a chip select, the taking of a
request, and the requests that PTU and the read of the fault summary answer. -/

namespace Sys2Proof.Machine

/-! ## The fall (R190, R200) -/

/-- The port state as the fall finds it. -/
def PortState.kind : PortState → FallState
  | .idle => .idle
  | .working _ => .working
  | .ready _ => .ready

/-- The NOTICE flag of a frame fixed now (R197). -/
def PortRecord.frameNotice (r : PortRecord) : Bool :=
  match r.state with
  | .ready _ => r.noticeInAnswer
  | .idle | .working _ => r.attention

/-- The frame that a fall fixes (R190). -/
def PortRecord.frame (r : PortRecord) : List Byte :=
  match r.state with
  | .idle => noAnswerFrame r.frameNotice
  | .working _ => busyFrame r.frameNotice
  | .ready a => answerFrame 1#8 a.tag a.result r.dropMark r.frameNotice a.payload

/-- The transaction that a fall begins: the frame fixed, and whether it is an answer with DROP set. -/
def PortRecord.fallen (r : PortRecord) : Transaction :=
  .judged r.state.kind r.frame (r.state.kind == .ready && r.dropMark)

/-- A transaction begins at a port. -/
def beginTransaction (p : Port) (t : Transaction) (s : State) : State :=
  s.setPort p { s.port p with transaction := some t }

/-- A fall of chip select: in SLEEP it wakes the part and is not received (R200); otherwise the frame is fixed
(R190). A fall with a transaction in progress cannot arise. -/
def chipSelectFalls (p : Port) (s : State) : State :=
  if (s.port p).transaction.isSome then s
  else if s.pwc.power = .sleep then beginTransaction p .notReceived (wakeAfterrun s)
  else beginTransaction p (s.port p).fallen s

/-! ## The rise (R191–R193) -/

/-- The answer that a check of Table 66 makes at once; none where the request goes to its owner. -/
def portCheck (p : Port) (s : State) (r : Request) : Option Result :=
  match RequestKind.ofCode r.code.toNat with
  | none => some .unknownRequest
  | some k =>
    if !k.permitted p then some .notPermitted
    else if s.pwc.power = .start then some .starting
    else none

/-- On port S, a request handed to an owner other than SVC drops a pending confirmation (R193). -/
def handedToOwner (p : Port) (r : Request) (s : State) : State :=
  match p, RequestKind.ofCode r.code.toNat with
  | .service, some k => if k.ofService then s else s.dropConfirmation
  | _, _ => s

/-- A request or bad frame is taken (R193). Each answer made here sets ANSWER, a STARTING to READ_NOTICES too
(log entry 43). -/
def takeFrame (p : Port) (k : Clocked) (s : State) : State :=
  match k with
  | .noRequest => s
  | .bad tag => s.placeAnswer p ⟨tag, .frameError, []⟩ true
  | .request r =>
    match portCheck p s r with
    | some result => s.placeAnswer p ⟨r.tag, result, []⟩ true
    | none => handedToOwner p r (s.setPort p { s.port p with state := .working r })

/-- A request or bad frame is dropped: the drop mark is SET (R192). -/
def dropFrame (p : Port) (k : Clocked) (s : State) : State :=
  match k with
  | .noRequest => s
  | .bad _ | .request _ => s.setPort p { s.port p with dropMark := true }

/-- An answer wholly clocked out leaves the slot: the ANSWER flag is cleared, and the drop mark if the answer
carried DROP (R191, R192). -/
def PortRecord.collected (r : PortRecord) (drop : Bool) : PortRecord :=
  { r with
    state := .idle
    flags := r.flags &&& ~~~flagAnswer
    dropMark := r.dropMark && !drop }

/-- The end of a judged transaction (Table 65). -/
def endJudged (p : Port) (atFall : FallState) (frame : List Byte) (drop : Bool) (bytesIn : List Byte)
    (s : State) : State :=
  let k := judgeFrame bytesIn
  match atFall with
  | .idle => takeFrame p k s
  | .working => dropFrame p k s
  | .ready =>
    if frame.length ≤ bytesIn.length then takeFrame p k (s.setPort p ((s.port p).collected drop))
    else dropFrame p k s

/-- The bytes that the data output clocks out in a transaction of a number of bytes: the frame fixed, then fill
bytes of 00h; in the waking transaction of SLEEP only fill bytes (R190, R200, R209). -/
def Transaction.clockedOut (t : Transaction) (bytes : Nat) : List Byte :=
  match t with
  | .judged _ frame _ => frame.take bytes ++ List.replicate (bytes - frame.length) 0#8
  | .notReceived => List.replicate bytes 0#8

/-- The record of a port whose transaction has ended after a number of bytes each way. -/
def PortRecord.risen (r : PortRecord) (t : Transaction) (bytes : Nat) : PortRecord :=
  { r with transaction := none, clockedOut := t.clockedOut bytes }

/-- The service timer starts anew at every transaction on port S (R176). -/
def serviceActivity (p : Port) (s : State) : State :=
  if p = .service ∧ s.svc.state ≠ .off then
    s.setSvc { s.svc with serviceTimer := startTimer s.now 60000 }
  else s

/-- A rise of chip select ends the transaction of the port; as many bytes were clocked out as in. The
transaction is handed to PWC and, on port S, to SVC (R191, R200). -/
def chipSelectRises (p : Port) (bytesIn : List Byte) (s : State) : State :=
  match (s.port p).transaction with
  | none => s
  | some t =>
    let s := serviceActivity p (pwcActivity (s.setPort p ((s.port p).risen t bytesIn.length)))
    match t with
    | .judged atFall frame drop => endJudged p atFall frame drop bytesIn s
    | .notReceived => s

/-! ## Requests of the Port Unit, and READ_FAULT_SUMMARY -/

/-- READ_STATUS (R199, Table 78): calibration state LOADED 0, DEFAULT 1; store states NORMAL 0, READ_ONLY 1
(R208). -/
def readStatusWork (_bs : List Byte) (s : State) : Reply :=
  accept s
    ([numByte s.pwc.power.code, numByte s.svc.state.code] ++ bytes32 s.now ++ bytes16 s.pwc.ignitionCycles
      ++ [flagByte (!s.calLoaded), flagByte s.rst.readOnly.calibration, flagByte s.rst.readOnly.counters,
        flagByte s.rst.readOnly.faults, numByte s.rst.queue.length])

/-- READ_NOTICES (R198): flags and mask are answered, the flags become empty, and ANSWER is not set. -/
def readNotices (p : Port) (s : State) : State :=
  match s.inHand p .readNotices with
  | none => s
  | some r =>
    let x := s.port p
    (s.setPort p { x with flags := 0#8 }).placeAnswer p ⟨r.tag, .ok, [x.flags, x.mask]⟩ false

/-- SET_NOTICE_MASK (R198). -/
def setMaskWork (p : Port) (bs : List Byte) (s : State) : Reply :=
  match bs[0]? with
  | none => refuse s .badArgument
  | some m => accept (s.setPort p { s.port p with mask := m }) [m]

/-- READ_FAULT_SUMMARY at FLM (R149). -/
def readFaultSummaryWork (_bs : List Byte) (s : State) : Reply := accept s (faultSummary s)

/-! ## Commands -/

/-- CHIP_SELECT_FALL (R190). -/
def execChipSelectFall (p : Port) (s : State) : Host.Outcome State Fault Refusal :=
  act s (chipSelectFalls p)

/-- CHIP_SELECT_RISE (R191). -/
def execChipSelectRise (p : Port) (bytesIn : List Byte) (s : State) :
    Host.Outcome State Fault Refusal := act s (chipSelectRises p bytesIn)

/-- READ_STATUS (R199). -/
def execReadStatus (p : Port) (s : State) : Host.Outcome State Fault Refusal :=
  act s (carryOut .readStatus p readStatusWork)

/-- READ_NOTICES (R198). -/
def execReadNotices (p : Port) (s : State) : Host.Outcome State Fault Refusal := act s (readNotices p)

/-- SET_NOTICE_MASK (R198). -/
def execSetNoticeMask (p : Port) (s : State) : Host.Outcome State Fault Refusal :=
  act s (carryOut .setNoticeMask p (setMaskWork p))

/-- READ_FAULT_SUMMARY (R149). -/
def execReadFaultSummary (p : Port) (s : State) : Host.Outcome State Fault Refusal :=
  act s (carryOut .readFaultSummary p readFaultSummaryWork)

end Sys2Proof.Machine
end

