-- ==== Sys2Proof/Machine/Dispatch.lean ====
section
/-! DEFINITION. The dispatch: the meaning of every command, one arm per constructor. -/

namespace Sys2Proof.Machine

/-- What a command makes of everything but the queue. -/
def exec (i : Instr) (s : State) : Host.Outcome State Fault Refusal :=
  match i with
  | .powerOn levels => Sys2Proof.Machine.execPowerOn levels s
  | .pinReset levels => Sys2Proof.Machine.execPinReset levels s
  | .ignitionChange => Sys2Proof.Machine.execIgnitionChange s
  | .quietTimerExpiry => Sys2Proof.Machine.execQuietTimerExpiry s
  | .chipSelectFall p => Sys2Proof.Machine.execChipSelectFall p s
  | .chipSelectRise p bytesIn => Sys2Proof.Machine.execChipSelectRise p bytesIn s
  | .readStatus p => Sys2Proof.Machine.execReadStatus p s
  | .readNotices p => Sys2Proof.Machine.execReadNotices p s
  | .setNoticeMask p => Sys2Proof.Machine.execSetNoticeMask p s
  | .readSignals p => Sys2Proof.Machine.execReadSignals p s
  | .readWarnings p => Sys2Proof.Machine.execReadWarnings p s
  | .readDoors p => Sys2Proof.Machine.execReadDoors p s
  | .readFaultSummary p => Sys2Proof.Machine.execReadFaultSummary p s
  | .ackWarningRule => Sys2Proof.Machine.execAckWarningRule s
  | .ackWarningAllOfClass => Sys2Proof.Machine.execAckWarningAllOfClass s
  | .netFrames => Sys2Proof.Machine.execNetFrames s
  | .softGateOn p => Sys2Proof.Machine.execSoftGateOn p s
  | .softGateOff p => Sys2Proof.Machine.execSoftGateOff p s
  | .setCount p => Sys2Proof.Machine.execSetCount p s
  | .setUpper p => Sys2Proof.Machine.execSetUpper p s
  | .readChannels p => Sys2Proof.Machine.execReadChannels p s
  | .serviceEnter => Sys2Proof.Machine.execServiceEnter s
  | .serviceExit => Sys2Proof.Machine.execServiceExit s
  | .serviceTimerExpiry => Sys2Proof.Machine.execServiceTimerExpiry s
  | .readoutOpen => Sys2Proof.Machine.execReadoutOpen s
  | .readoutNext => Sys2Proof.Machine.execReadoutNext s
  | .liveSubscribe => Sys2Proof.Machine.execLiveSubscribe s
  | .liveFetch => Sys2Proof.Machine.execLiveFetch s
  | .substitute => Sys2Proof.Machine.execSubstitute s
  | .releaseSubstitute => Sys2Proof.Machine.execReleaseSubstitute s
  | .outputTest => Sys2Proof.Machine.execOutputTest s
  | .outputTestStop => Sys2Proof.Machine.execOutputTestStop s
  | .testTimerExpiry => Sys2Proof.Machine.execTestTimerExpiry s
  | .clearPrepare => Sys2Proof.Machine.execClearPrepare s
  | .clearConfirm => Sys2Proof.Machine.execClearConfirm s
  | .windowTimerExpiry => Sys2Proof.Machine.execWindowTimerExpiry s
  | .calibLoad => Sys2Proof.Machine.execCalibLoad s
  | .calibRead => Sys2Proof.Machine.execCalibRead s
  | .calibCommitPrepare => Sys2Proof.Machine.execCalibCommitPrepare s
  | .calibCommitConfirm => Sys2Proof.Machine.execCalibCommitConfirm s
  | .odometerSet => Sys2Proof.Machine.execOdometerSet s
  | .switchDebouncedChange n => Sys2Proof.Machine.execSwitchDebouncedChange n s
  | .refreshTimerExpiry slot => Sys2Proof.Machine.execRefreshTimerExpiry slot s
  | .senderSample n raw => Sys2Proof.Machine.execSenderSample n raw s
  | .pulseEdge n => Sys2Proof.Machine.execPulseEdge n s
  | .millisecondTick switches ign => Sys2Proof.Machine.execMillisecondTick switches ign s
  | .rateWindowExpiry c => Sys2Proof.Machine.execRateWindowExpiry c s
  | .holdOffExpiry c => Sys2Proof.Machine.execHoldOffExpiry c s
  | .raiseTimerExpiry r => Sys2Proof.Machine.execRaiseTimerExpiry r s
  | .clearTimerExpiry r => Sys2Proof.Machine.execClearTimerExpiry r s
  | .reAnnounceTimerExpiry r => Sys2Proof.Machine.execReAnnounceTimerExpiry r s
  | .flashTimerExpiry lamp => Sys2Proof.Machine.execFlashTimerExpiry lamp s
  | .cadenceTimerExpiry => Sys2Proof.Machine.execCadenceTimerExpiry s
  | .fallbackTimerExpiry => Sys2Proof.Machine.execFallbackTimerExpiry s
  | .openLimitExpiry d => Sys2Proof.Machine.execOpenLimitExpiry d s
  | .settleTimerExpiry d => Sys2Proof.Machine.execSettleTimerExpiry d s
  | .closeLimitExpiry d => Sys2Proof.Machine.execCloseLimitExpiry d s
  | .flashJobTaken => Sys2Proof.Machine.execFlashJobTaken s
  | .flashOperationEnd pass => Sys2Proof.Machine.execFlashOperationEnd pass s
  | .backgroundEraseStart => Sys2Proof.Machine.execBackgroundEraseStart s
  | .powerLoss => Sys2Proof.Machine.execPowerLoss s
  | .resetRelease => Sys2Proof.Machine.execResetRelease s

end Sys2Proof.Machine
end

