-- ==== Sys2Proof/Machine/Step.lean ====
section
/-! DEFINITION. One step: the command at the front of the queue (log entries 2, 5). -/

namespace Sys2Proof.Machine

/-- The state with the queue given. -/
def State.withQueue (s : State) (q : List Instr) : State := { s with pending := q }

/-- One step: the command at the front of the queue is run on the state with the rest of the queue; with an
empty queue the block idles (log entry 5). -/
def step (s : State) : Host.Outcome State Fault Refusal :=
  match s.pending with
  | [] => .next s
  | c :: rest => exec c (s.withQueue rest)

/-- The state with the command that a word spells put at the front of the queue; unchanged where the word
spells none. -/
def State.withFetchWord (s : State) (nbits w : Nat) : State :=
  match decodeTableWord nbits w with
  | none => s
  | some c => s.withQueue (c :: s.pending)

end Sys2Proof.Machine
end

