-- ==== Sys2Proof/Safety.lean ====
section
/-! DEFINITION. What it means that a command or a run of the part does not stop. -/

namespace Sys2Proof

/-- A command completes from a state: it answers a next state. -/
def Completes (i : Instr) (s : Machine.State) : Prop := ∃ t, Machine.exec i s = .next t

/-- Every command completes from a state. -/
def NeverStops (s : Machine.State) : Prop := ∀ i, Completes i s

end Sys2Proof
end

