-- ==== Sys2Proof/Certificates/Slice0/Obligations.lean ====
section
/-! DEFINITION. The statements for the provers. `Sys2Proof.Claims` holds the words they share: what stays as
it was, and what an answered port looks like. A statement about a command says that it answers a next state
and what that state holds; `∃ t, exec i s = .next t ∧ …` names that state. -/

namespace Sys2Proof.Claims

open Sys2Proof.Machine

/-! ## What stays -/

/-- Calibration, pins, supply and the queue of commands are as before. -/
def SameBase (s t : State) : Prop :=
  t.cal = s.cal ∧ t.calLoaded = s.calLoaded ∧ t.pins = s.pins ∧ t.supply = s.supply ∧ t.pending = s.pending

/-- The Record Store is as before, the flash array included, but for its job queue. -/
def SameStore (s t : State) : Prop := t.rst = { s.rst with queue := t.rst.queue }

/-- The Power Controller is as before, but for the store idle condition. -/
def SamePower (s t : State) : Prop := t.pwc = { s.pwc with storeIdle := t.pwc.storeIdle }

/-- A port record is as before, but for its notice flags. -/
def SameButFlags (x y : PortRecord) : Prop := y = { x with flags := y.flags }

/-- Every port is as before, but for its notice flags. -/
def SamePorts (s t : State) : Prop := ∀ p, SameButFlags (s.port p) (t.port p)

/-- Whatever a change of slots cannot reach is as before: base, store, power, inputs, channels, doors. -/
def SignalFrame (s t : State) : Prop :=
  SameBase s t ∧ SameStore s t ∧ SamePower s t ∧ t.switches = s.switches ∧ t.senders = s.senders
    ∧ t.ccu = s.ccu ∧ t.drs = s.drs

/-- Whatever an event at the channels cannot reach is as before. -/
def ChannelFrame (s t : State) : Prop :=
  SameBase s t ∧ SameStore s t ∧ SamePower s t ∧ t.switches = s.switches ∧ t.senders = s.senders
    ∧ t.drs = s.drs

/-- Whatever an event at a door cannot reach is as before; in AFTERRUN door activity starts the quiet time
anew. -/
def DoorFrame (s t : State) : Prop :=
  SameBase s t ∧ SameStore s t ∧ t.switches = s.switches ∧ t.senders = s.senders ∧ t.ccu = s.ccu
    ∧ t.pwc = { s.pwc with
        storeIdle := t.pwc.storeIdle
        quiet := if s.pwc.power = .afterrun then false else s.pwc.quiet
        quietTimer := if s.pwc.power = .afterrun then startTimer s.now 10000 else s.pwc.quietTimer }

/-- A notice flag stands on all three ports. -/
def NoticeOnAll (f : Notices) (t : State) : Prop := ∀ p, (t.port p).flags &&& f = f

/-! ## Requests -/

/-- The part is supplied and a port carries out a request of a kind. -/
def InHand (s : State) (p : Port) (k : RequestKind) (r : Request) : Prop :=
  s.supply = true ∧ (s.port p).state = .working r ∧ r.code.toNat = k.code

/-- The port holds an answer with the tag of its request and the ANSWER flag; the other ports, its mask, its
drop mark and its transaction are as before. -/
def Answered (s t : State) (p : Port) (r : Request) (result : Result) (payload : List Byte) : Prop :=
  t.port p = { s.port p with state := .ready ⟨r.tag, result, payload⟩, flags := (t.port p).flags }
    ∧ (t.port p).flags &&& flagAnswer = flagAnswer
    ∧ ∀ q, q ≠ p → SameButFlags (s.port q) (t.port q)

/-- The state with nothing changed but the answer that a request gets: READY, and ANSWER set. -/
def answering (s : State) (p : Port) (r : Request) (result : Result) (payload : List Byte) : State :=
  s.setPort p { s.port p with
    state := .ready ⟨r.tag, result, payload⟩, flags := (s.port p).flags ||| flagAnswer }

/-- A pending confirmation is dropped by a service request that is none (R183). -/
def unconfirmed (s : State) : State := s.setSvc { s.svc with confirmation := none }

/-! ## Invariants -/

/-- The flash array is canonical and has only the 1,024 slots of R153. -/
def FlashCanonical (s : State) : Prop := Flash.wf s.rst.flash = true ∧ ∀ e ∈ s.rst.flash, e.1 < 1024

/-- The Flash Job Queue holds at most 8 jobs, no two equal (R160, R161). -/
def QueueBounded (s : State) : Prop := s.rst.queue.length ≤ 8 ∧ s.rst.queue.Nodup

/-- The Fault List holds at most 32 entries and never two with the same code (R135). -/
def FaultsBounded (s : State) : Prop :=
  s.flm.list.length ≤ 32 ∧ (s.flm.list.map FaultEntry.code).Nodup

/-- The Active Warning List holds at most 16 entries and one per rule, and a rule has an entry exactly while
it is ACTIVE, CLEARING or LATCHED (R85). -/
def ListAgrees (w : Wre) : Prop :=
  w.list.length ≤ 16 ∧ (w.list.map WarningEntry.rule).Nodup
    ∧ ∀ r : Fin 48, (∃ x ∈ w.list, x.rule = r) ↔
        (w.rules[r].phase = .active ∨ w.rules[r].phase = .clearing ∨ w.rules[r].phase = .latched)

/-- A rule is SUPPRESSED only while the list is full: every place that opens is refilled (R87, R88). -/
def PlacesRefilled (w : Wre) : Prop := (∃ r : Fin 48, w.rules[r].phase = .suppressed) → w.list.length = 16

/-- The Output Unit's power copy is the power state, and each output is what the copies give (R100). -/
def OutputsFollow (s : State) : Prop :=
  s.supply = true → s.opu.power = s.pwc.power ∧ s.opu.outputs = s.opu.drives

/-- The Output Unit knows the doors that are present and, outside START, the state and ramp of each (R100,
R126, R127). -/
def DoorCopiesFollow (s : State) : Prop :=
  s.supply = true →
    (∀ d : Fin 4, s.opu.present[d] = s.cal.doors[d].present)
    ∧ (s.pwc.power ≠ .start → ∀ d : Fin 4, s.cal.doors[d].present = true →
        s.opu.doorStates[d] = some s.drs.doors[d].state ∧ s.opu.ramps[d] = s.drs.doors[d].rampOut)

/-- The fields of a calibration that are held as numbers lie in the ranges of Tables 18, 23, 28, 41 and R146. -/
def InRange (c : Calibration) : Prop :=
  c.general.agingLimit ≠ 0
    ∧ (∀ i : Fin 8, 1 ≤ c.channels[i].divisor ∧ c.channels[i].divisor ≤ 1000)
    ∧ (∀ i : Fin 32, c.filters[i].startBit ≤ 63 ∧ 1 ≤ c.filters[i].bitLength ∧ c.filters[i].bitLength ≤ 32
        ∧ 1 ≤ c.filters[i].divisor ∧ c.filters[i].divisor ≤ 1000
        ∧ (c.filters[i].refreshTimeout = 0
          ∨ (50 ≤ c.filters[i].refreshTimeout ∧ c.filters[i].refreshTimeout ≤ 65000)))
    ∧ (∀ i : Fin 48, c.rules[i].raiseDelay ≤ 60000 ∧ c.rules[i].clearDelay ≤ 60000
        ∧ c.rules[i].reAnnounce ≤ 60
        ∧ ∀ code, c.rules[i].faultCode = some code → 1 ≤ code.toNat ∧ code.toNat ≤ 0xDFFF)
    ∧ (∀ i : Fin 4, 500 ≤ c.doors[i].openLimit ∧ c.doors[i].openLimit ≤ 20000
        ∧ 500 ≤ c.doors[i].closeLimit ∧ c.doors[i].closeLimit ≤ 20000
        ∧ 1 ≤ c.doors[i].reversalLimit ∧ c.doors[i].reversalLimit ≤ 7
        ∧ 200 ≤ c.doors[i].settleTime ∧ c.doors[i].settleTime ≤ 5000)

/-- The active and the staging calibration are in range. -/
def CalibrationsInRange (s : State) : Prop :=
  InRange s.cal ∧ ∀ c, s.svc.staging = some c → InRange c

end Sys2Proof.Claims

open Sys2Proof Sys2Proof.Machine Sys2Proof.Claims

/-! ## The step -/

/-- A step runs the command at the front of the queue on the state with the queue's rest; with an empty queue
the block idles (the model's choice, log entry 5). -/
def Obligations.StepRunsFrontCommand : Prop :=
  (∀ (c : Instr) (rest : List Instr) (s : State), s.pending = c :: rest →
      step s = exec c (s.withQueue rest))
    ∧ ∀ s : State, s.pending = [] → step s = .next s

/-- Every command completes from every state and leaves the queue of waiting commands as it is; without supply
nothing but POWER_ON has an effect (the model's choice, log entry 10). -/
def Obligations.EveryCommandCompletesAndKeepsTheQueue : Prop :=
  ∀ (i : Instr) (s : State),
    (∃ t, exec i s = .next t ∧ t.pending = s.pending)
    ∧ (s.supply = false → (∀ levels, i ≠ .powerOn levels) → exec i s = .next s)

/-- What State.reset holds by the manual's columns of values after power-on and pin reset. That every slot is
UNUSED and NOT_AVAILABLE there, before the calibration load, is the model's choice (log entries 12, 13, 29). -/
def Obligations.ResetLeavesTheValuesOfTheTables : Prop :=
  let s := State.reset
  s.pwc.power = .start ∧ s.pwc.uptime = 0 ∧ s.pwc.quiet = false ∧ s.pwc.quietTimer = none
    ∧ s.pwc.storeIdle = true
    ∧ s.svc = ⟨.off, none, none, [], [], [], none, none, none⟩
    ∧ s.opu.outputs = ⟨false, false, false, false, false, true, false⟩
    ∧ s.flm.list = [] ∧ s.flm.generation = 0 ∧ s.flm.overflow = false
    ∧ s.rst.queue = [] ∧ s.rst.controller = .idle
    ∧ s.wre.list = [] ∧ s.drs.latch = false
    ∧ (∀ i : Fin 96, s.slots[i].kind = .unused ∧ s.slots[i].liveStatus = .notAvailable
        ∧ s.slots[i].substitution = none ∧ s.slots[i].refreshTimer = none)
    ∧ (∀ p, (s.port p).state = .idle ∧ (s.port p).dropMark = false ∧ (s.port p).flags = 0)
    ∧ (s.port .cluster).mask = flagAnswer ||| flagWarnings ||| flagDoors
    ∧ (s.port .body).mask = flagAnswer ||| flagDoors ||| flagPower
    ∧ (s.port .service).mask = 0

/-! ## Invariants of every step -/

/-- The flash array keeps its canonical form through every step. -/
def Obligations.FlashArrayStaysCanonical : Prop :=
  ∀ s t : State, FlashCanonical s → step s = .next t → FlashCanonical t

/-- The Flash Job Queue stays within 8 distinct jobs through every step. -/
def Obligations.JobQueueStaysBounded : Prop :=
  ∀ s t : State, QueueBounded s → step s = .next t → QueueBounded t

/-- The Fault List keeps at most 32 entries with distinct codes through every step. -/
def Obligations.FaultListStaysBounded : Prop :=
  ∀ s t : State, FaultsBounded s → step s = .next t → FaultsBounded t

/-- The Active Warning List and the rule states agree through every step, and a rule stays SUPPRESSED only
while the list is full. -/
def Obligations.WarningListStaysInAgreement : Prop :=
  ∀ s t : State, ListAgrees s.wre → step s = .next t →
    ListAgrees t.wre ∧ (PlacesRefilled s.wre → PlacesRefilled t.wre)

/-- The outputs follow the Output Unit's copies through every step. -/
def Obligations.OutputsFollowTheCopies : Prop :=
  ∀ s t : State, OutputsFollow s → step s = .next t → OutputsFollow t

/-- The Output Unit's door copies follow the doors through every step. -/
def Obligations.DoorCopiesFollowTheDoors : Prop :=
  ∀ s t : State, DoorCopiesFollow s → step s = .next t → DoorCopiesFollow t

/-- The active and the staging calibration stay in range through every step. -/
def Obligations.CalibrationsStayInRange : Prop :=
  ∀ s t : State, CalibrationsInRange s → step s = .next t → CalibrationsInRange t

/-- The invariants hold in the state right after reset. -/
def Obligations.InvariantsHoldAtReset : Prop :=
  FlashCanonical State.reset ∧ QueueBounded State.reset ∧ FaultsBounded State.reset
    ∧ ListAgrees State.reset.wre ∧ PlacesRefilled State.reset.wre ∧ OutputsFollow State.reset
    ∧ DoorCopiesFollow State.reset ∧ CalibrationsInRange State.reset

/-- Under the invariants, DRIVE_INHIBIT is released only in RUN with every present door CLOSED_LOCKED and no
ramp out, by the doors' own records. -/
def Obligations.DriveIsReleasedOnlyWithDoorsLocked : Prop :=
  ∀ s : State, OutputsFollow s → DoorCopiesFollow s → s.supply = true →
    s.opu.outputs.driveInhibit = false →
    s.pwc.power = .run ∧ ∀ d : Fin 4, s.cal.doors[d].present = true →
      s.drs.doors[d].state = .closedLocked ∧ s.drs.doors[d].rampOut = false

/-! ## Encodings -/

/-- Fields, each of a width in bytes and a number, laid end to end with the least significant byte first (R208). -/
def Sys2Proof.Claims.laid (fields : List (Nat × Nat)) : List Byte :=
  fields.flatMap fun f => (List.range f.1).map fun j => numByte (f.2 / 256 ^ j)

/-- An optional index as the number of its byte: absent is FFh (R208). -/
def Sys2Proof.Claims.indexNumber {n : Nat} (o : Option (Fin n)) : Nat := o.elim 255 fun i => i.val

/-- A flag as the number of its byte (R208). -/
def Sys2Proof.Claims.flag (b : Bool) : Nat := if b then 1 else 0

/-- The calibration image that a CALIB_WRITE lays out, 2,872 bytes, gives the same calibration back. It is the items
end to end in section order and index order, and the fields of an item stand as Table 79 gives them, an enumeration
as its position in its list of values; of an absent qualifier the slot alone, FFh, is given. -/
def Obligations.CalibrationImageRoundTrip : Prop :=
  (∀ c : Calibration, InRange c → c.image.length = 2872 ∧ Calibration.ofImage c.image = some c)
    ∧ ∀ c : Calibration,
      (c.image = allSections.flatMap fun sec => (List.range sec.count).flatMap fun i => c.itemBytes sec i)
      ∧ allSections.map (fun sec => (sec.code, sec.count))
        = [(0, 1), (1, 96), (2, 32), (3, 8), (4, 8), (5, 32), (6, 48), (7, 4)]
      ∧ (let g := c.general
        c.itemBytes .general 0 = laid
          [(1, indexNumber g.speedSlot), (1, indexNumber g.brakeSlot), (1, indexNumber g.freezeSlots[0]),
            (1, indexNumber g.freezeSlots[1]), (1, indexNumber g.freezeSlots[2]), (1, indexNumber g.freezeSlots[3]),
            (1, indexNumber g.ackInput), (1, indexNumber g.stopInputs[0]), (1, indexNumber g.stopInputs[1]),
            (1, indexNumber g.stopInputs[2]), (1, indexNumber g.stopInputs[3]), (4, g.openLow.toNat),
            (4, g.openHigh.toNat), (4, g.stationary.toNat), (1, g.agingLimit.toNat)])
      ∧ (∀ k : Fin 96, c.itemBytes .slots k.val = laid
          [(1, [SourceKind.unused, .switch, .sender, .channel, .network, .door, .stopReq].idxOf c.slots[k].kind),
            (1, indexNumber c.slots[k].index)])
      ∧ (∀ k : Fin 32, c.itemBytes .switches k.val = laid
          [(1, [Polarity.activeHigh, .activeLow].idxOf c.switches[k].polarity), (1, c.switches[k].debounce.ms)])
      ∧ (∀ k : Fin 8,
        let x := c.senders[k]
        c.itemBytes .senders k.val = laid
          ([(1, x.filterLevel.val), (2, x.openThreshold.elim 0xFFFF BitVec.toNat),
            (2, x.shortThreshold.elim 0xFFFF BitVec.toNat), (1, x.pointCount.val)]
          ++ x.points.toList.flatMap fun p => [(2, p.raw.toNat), (4, p.value.toNat)]))
      ∧ (∀ k : Fin 8,
        let x := c.channels[k]
        c.itemBytes .channels k.val = laid
          [(1, [ChannelMode.off, .total, .rate, .width, .timer, .follow].idxOf x.mode), (1, x.pulseInput.val),
            (1, [EdgeChoice.rising, .falling, .both].idxOf x.edge), (1, indexNumber x.hardwareGate),
            (1, [GatePolarity.active, .inactive].idxOf x.gatePolarity), (1, flag x.defaultSoftGate),
            (1, flag x.clearOnOpen), (4, x.upperSetPoint.toNat), (2, x.rateWindow.ms), (2, x.multiplier.toNat),
            (2, x.divisor), (1, [Role.noRole, .odometer, .hours].idxOf x.role), (1, flag x.bodyControl)])
      ∧ (∀ k : Fin 32,
        let x := c.filters[k]
        c.itemBytes .filters k.val = laid
          [(1, flag x.enabled), (4, x.identifier.toNat), (4, x.mask.toNat), (1, flag x.extended), (1, x.startBit),
            (1, x.bitLength), (1, [ByteOrder.little, .big].idxOf x.byteOrder), (1, flag x.signed),
            (2, x.multiplier.toNat), (2, x.divisor), (4, x.offset.toNat), (1, indexNumber x.targetSlot),
            (2, x.refreshTimeout)])
      ∧ (∀ k : Fin 48,
        let x := c.rules[k]
        let front : List (Nat × Nat) :=
          [(1, flag x.enabled), (1, x.signalSlot.val),
            (1, [Comparison.greater, .less, .equal, .notEqual, .notValid].idxOf x.comparison),
            (4, x.threshold.toNat), (2, x.hysteresis.toNat), (1, indexNumber (x.qualifier.map Qualifier.slot))]
        let back : List (Nat × Nat) :=
          [(2, x.raiseDelay), (2, x.clearDelay), (1, [WarningClass.stop, .caution, .advise].idxOf x.cls),
            (1, flag x.latching), (2, x.faultCode.elim 0 BitVec.toNat), (1, x.reAnnounce)]
        ∃ middle : List Byte, middle.length = 5
          ∧ c.itemBytes .rules k.val = laid front ++ middle ++ laid back
          ∧ ∀ q, x.qualifier = some q → middle = laid
            [(1, [QualifierComparison.greater, .less, .equal, .notEqual].idxOf q.comparison),
              (4, q.threshold.toNat)])
      ∧ ∀ k : Fin 4,
        let x := c.doors[k]
        c.itemBytes .doors k.val = laid
          [(1, flag x.present), (1, x.closedInput.val), (1, indexNumber x.openInput), (1, indexNumber x.edgeInput),
            (1, indexNumber x.releaseInput), (1, indexNumber x.lockedInput), (1, indexNumber x.rampInput),
            (2, x.openLimit), (2, x.closeLimit), (1, x.reversalLimit), (2, x.settleTime)]

/-- The journal records give back what they were made of: a COUNTER record its sequence and values, an ENTRY
record its entry. The fields of a COUNTER record stand as R210 gives them, those of a fault entry as Table 77 does,
its source by the codes below that table and the freeze members 0 when absent. -/
def Obligations.JournalRecordsRoundTrip : Prop :=
  (∀ (n : BitVec 32) (v : CounterValues),
    counterOf (padded (counterContent n v)) = (n, v)
      ∧ counterContent n v = laid ([(1, 1), (4, n.toNat), (4, v.odometer.toNat), (4, v.hours.toNat)]
        ++ v.cycles.toList.map (fun x => (4, x.toNat)) ++ [(2, v.ignition.toNat)]))
    ∧ (∀ e : FaultEntry,
      faultEntryAt (padded (entryContent e)) 1 = some e ∧ entryContent e = 2#8 :: e.bytes ∧ e.bytes.length = 39
      ∧ e.bytes = laid
        ([(2, e.code.toNat),
          (1, match e.source with
            | .rule n => n.val
            | .door d => 0x40 + d.val
            | .sender n => 0x50 + n.val
            | .store => 0x60
            | .calibration => 0x70),
          (1, if e.active then 0 else 1), (1, e.occurrences.toNat), (1, e.aging.toNat),
          (4, e.firstOdometer.toNat), (4, e.lastOdometer.toNat), (2, e.firstIgnition.toNat),
          (2, e.lastIgnition.toNat), (1, flag e.freeze.isSome)]
        ++ match e.freeze with
          | none => List.replicate 20 (1, 0)
          | some members => members.toList.flatMap fun m =>
            [(4, m.value.toNat),
              (1, [Status.notAvailable, .valid, .stale, .outOfRange, .substituted].idxOf m.status)]))
    ∧ ∀ (bs : List Byte) (i : Nat),
      let byte (k : Nat) : Nat := (bs.getD (i + k) 0).toNat
      (field16 bs i).toNat = byte 0 + 256 * byte 1
        ∧ (field32 bs i).toNat = byte 0 + 256 * byte 1 + 65536 * byte 2 + 16777216 * byte 3

/-- The check is CRC-8 with polynomial 07h, initial value 00h, most significant bit first, and stands over
all the bytes before it in every answer frame, every flash slot programmed and every request taken. -/
def Obligations.CheckIsCrc8OverAllBytesBefore : Prop :=
  let shift : Byte → Byte := fun x => if x.msb then (x <<< 1) ^^^ 0x07#8 else x <<< 1
  crc8 [] = 0#8
    ∧ (∀ (bs : List Byte) (b : Byte),
        crc8 (bs ++ [b])
          = shift (shift (shift (shift (shift (shift (shift (shift (crc8 bs ^^^ b)))))))))
    ∧ (∀ kind tag result drop notice payload, ∃ body : List Byte,
        body.length = 5 + payload.length
          ∧ answerFrame kind tag result drop notice payload = body ++ [crc8 body])
    ∧ (∀ bs : List Byte, (slotOf bs).content.length = 60 ∧ (slotOf bs).check = crc8 (slotOf bs).content)
    ∧ ∀ (bs : List Byte) (r : Request), judgeFrame bs = .request r →
        ∃ body rest : List Byte, bs = body ++ crc8 body :: rest
          ∧ body = [r.code, r.tag, numByte r.payload.length] ++ r.payload

/-! ## Ports (chapter 11) -/

/-- The rights of Table 67 by the request codes of Table 76; no row for a code that names no request. -/
def Sys2Proof.Claims.rightsOf (code : Nat) : Option (List Port) :=
  if code = 0x14 then some [.cluster]
  else if code = 0x20 then some [.body]
  else if code = 0x21 ∨ code = 0x22 then some [.body, .service]
  else if (1 ≤ code ∧ code ≤ 3) ∨ (0x10 ≤ code ∧ code ≤ 0x13) then some [.cluster, .body, .service]
  else if 0x30 ≤ code ∧ code ≤ 0x3F then some [.service]
  else none

/-- A transaction whose request or bad frame is taken: it fell on an IDLE port, or on a READY one and has clocked
the answer out whole (Table 65); that as many bytes go out as come in is log entry 36. -/
def Sys2Proof.Claims.Taking (s : State) (p : Port) (atFall : FallState) (frame : List Byte) (drop : Bool)
    (bytes : Nat) : Prop :=
  (s.port p).transaction = some (.judged atFall frame drop)
    ∧ (atFall = .idle ∨ (atFall = .ready ∧ frame.length ≤ bytes))

/-- At the rise of a transaction that fell on an IDLE port, or that clocked the answer of a READY one out whole, a
good request is answered UNKNOWN_REQUEST or NOT_PERMITTED by Table 67 alone, whatever calibration, service state
and power state; a permitted one is answered STARTING in START and otherwise goes to its owner. That a rise in
SLEEP is judged too is the model's choice (log entry 28). -/
def Obligations.PortRightsAreThoseOfTable67 : Prop :=
  ∀ (s : State) (p : Port) (atFall : FallState) (frame : List Byte) (drop : Bool) (bytesIn : List Byte)
    (r : Request),
    s.supply = true → Taking s p atFall frame drop bytesIn.length → judgeFrame bytesIn = .request r →
    ∃ t, exec (.chipSelectRise p bytesIn) s = .next t ∧
      (t.port p).state =
        (match rightsOf r.code.toNat with
        | none => .ready ⟨r.tag, .unknownRequest, []⟩
        | some ports =>
          if p ∉ ports then .ready ⟨r.tag, .notPermitted, []⟩
          else if s.pwc.power = .start then .ready ⟨r.tag, .starting, []⟩
          else .working r)

/-- What a rise leaves: the service timer starts anew on port S (R176), the quiet time in AFTERRUN (R206), and of
the rest the port alone changes, but for a pending confirmation as given. -/
def Sys2Proof.Claims.RiseFrame (s t : State) (p : Port) (confirmation : Option (ConfirmKind × Time)) : Prop :=
  t = { s with ptu := t.ptu, svc := t.svc, pwc := t.pwc }
    ∧ (∀ q, q ≠ p → t.port q = s.port q)
    ∧ t.svc = { s.svc with
        serviceTimer :=
          if p = .service ∧ s.svc.state ≠ .off then startTimer s.now 60000 else s.svc.serviceTimer
        confirmation := confirmation }
    ∧ t.pwc = (if s.pwc.power = .afterrun then
        { s.pwc with quiet := false, quietTimer := startTimer s.now 10000 } else s.pwc)

/-- A frame of a judged transaction as it goes out in a number of bytes: the frame, then fill bytes of 00h (R190,
R209). -/
def Sys2Proof.Claims.sent (frame : List Byte) (bytes : Nat) : List Byte :=
  frame.take bytes ++ List.replicate (bytes - frame.length) 0#8

/-- The record of a port whose transaction of a number of bytes has ended with its answer, if any, collected. -/
def Sys2Proof.Claims.cleared (x : PortRecord) (atFall : FallState) (frame : List Byte) (drop : Bool) (bytes : Nat) :
    PortRecord :=
  { x with
    transaction := none
    clockedOut := sent frame bytes
    flags := if atFall = .ready then x.flags &&& ~~~flagAnswer else x.flags
    dropMark := if atFall = .ready then x.dropMark && !drop else x.dropMark }

/-- CHIP_SELECT_RISE takes a request: a good frame of a request that the port may send, clocked in with any
fill bytes after it in a transaction that fell on an IDLE port, or that clocked the answer of a READY one out
whole, outside START, leaves the port WORKING on that request, with the answer collected. The service timer starts
anew on port S, the quiet time in AFTERRUN; nothing else changes but a pending confirmation on port S, which a
request of another owner drops. That a rise in SLEEP is judged too is the model's choice (log entry 28). -/
def Obligations.GoodRequestIsTaken : Prop :=
  ∀ (s : State) (p : Port) (atFall : FallState) (frame : List Byte) (drop : Bool) (r : Request)
    (fill : List Byte) (ports : List Port),
    let bytesIn := withCheck ([r.code, r.tag, numByte r.payload.length] ++ r.payload) ++ fill
    s.supply = true → Taking s p atFall frame drop bytesIn.length →
    r.payload.length ≤ 60 → rightsOf r.code.toNat = some ports → p ∈ ports → s.pwc.power ≠ .start →
    ∃ t, exec (.chipSelectRise p bytesIn) s = .next t
      ∧ t.port p = { cleared (s.port p) atFall frame drop bytesIn.length with state := .working r }
      ∧ RiseFrame s t p (if p = .service ∧ r.code.toNat < 0x30 then none else s.svc.confirmation)

/-- The other rises of Table 65. Without a request clocked in: an answer wholly clocked out is collected, and
otherwise the port stays as it was. With a request or bad frame while WORKING, or after an answer cut short:
the frame is dropped and the drop mark SET. With a bad frame that is taken: the answer is FRAME_ERROR with its
tag. In each the frame fixed at the fall has gone out, and fill bytes of 00h after it. The transaction that
woke the part from SLEEP is not judged, and only fill bytes have gone out. That the bytes clocked in say how many
went out, and that a rise in SLEEP is judged too, are log entries 36 and 28. -/
def Obligations.RiseCollectsOrDrops : Prop :=
  ∀ (s : State) (p : Port) (bytesIn : List Byte), s.supply = true →
    let x := s.port p
    let n := bytesIn.length
    (∀ (atFall : FallState) (frame : List Byte) (drop : Bool),
      x.transaction = some (.judged atFall frame drop) →
      (judgeFrame bytesIn = .noRequest →
        ∃ t, exec (.chipSelectRise p bytesIn) s = .next t ∧ RiseFrame s t p s.svc.confirmation
          ∧ t.port p =
            (if atFall = .ready ∧ frame.length ≤ n then
              { cleared x atFall frame drop n with state := .idle }
            else { x with transaction := none, clockedOut := sent frame n }))
      ∧ (judgeFrame bytesIn ≠ .noRequest → atFall = .working ∨ (atFall = .ready ∧ n < frame.length) →
        ∃ t, exec (.chipSelectRise p bytesIn) s = .next t ∧ RiseFrame s t p s.svc.confirmation
          ∧ t.port p = { x with transaction := none, clockedOut := sent frame n, dropMark := true })
      ∧ (∀ tag, judgeFrame bytesIn = .bad tag → Taking s p atFall frame drop n →
        ∃ t, exec (.chipSelectRise p bytesIn) s = .next t ∧ RiseFrame s t p s.svc.confirmation
          ∧ t.port p = { cleared x atFall frame drop n with
              state := .ready ⟨tag, .frameError, []⟩
              flags := (cleared x atFall frame drop n).flags ||| flagAnswer }))
    ∧ (x.transaction = some .notReceived →
      ∃ t, exec (.chipSelectRise p bytesIn) s = .next t ∧ RiseFrame s t p s.svc.confirmation
        ∧ t.port p = { x with transaction := none, clockedOut := List.replicate n 0#8 })

/-- CHIP_SELECT_FALL outside SLEEP fixes the frame of the transaction from the port state: NO_ANSWER when
IDLE, BUSY when WORKING, and when READY the answer with the drop mark and the NOTICE flag; nothing else
changes. -/
def Obligations.FallFixesTheFrame : Prop :=
  ∀ (s : State) (p : Port), s.supply = true → (s.port p).transaction = none → s.pwc.power ≠ .sleep →
    let x := s.port p
    let line := x.flags &&& x.mask != 0#8
    exec (.chipSelectFall p) s = .next (s.setPort p { x with
      transaction := some (match x.state with
        | .idle => .judged .idle (withCheck [0, 0, 0, if line then 2 else 0, 0]) false
        | .working _ => .judged .working (withCheck [2, 0, 0, if line then 2 else 0, 0]) false
        | .ready a =>
          .judged .ready
            (withCheck ([1, a.tag, numByte a.result.code,
              (if x.dropMark then 1 else 0)
                + (if x.flags &&& ~~~flagAnswer &&& x.mask != 0#8 then 2 else 0),
              numByte a.payload.length] ++ a.payload))
            x.dropMark) })

/-- CHIP_SELECT_FALL in SLEEP wakes the part to AFTERRUN: POWER notice on all ports, quiet time started, the
switches take their first sample, and the transaction is not received. That quiet is NO after the wake is the
model's choice (log entry 28). -/
def Obligations.FallInSleepWakesToAfterrun : Prop :=
  ∀ (s : State) (p : Port), s.supply = true → (s.port p).transaction = none → s.pwc.power = .sleep →
    ∃ t, exec (.chipSelectFall p) s = .next t ∧
      t.pwc = { s.pwc with
        power := .afterrun, quiet := false, quietTimer := startTimer s.now 10000
        storeIdle := t.pwc.storeIdle }
      ∧ (t.port p).transaction = some .notReceived
      ∧ (∀ q, (t.port q).state = (s.port q).state ∧ (t.port q).flags &&& flagPower = flagPower)
      ∧ (∀ n : Fin 32, t.switches[n]
          = ⟨s.pins.switches[n] == (s.cal.switches[n].polarity == .activeHigh), 0⟩)
      ∧ t.opu.power = .afterrun
      ∧ SameBase s t ∧ SameStore s t ∧ t.senders = s.senders
      ∧ t.ccu.odometer = s.ccu.odometer ∧ t.ccu.hours = s.ccu.hours

/-- The attention line is asserted while notice flags and notice mask have a flag in common; the NOTICE flag
of a frame reports the same, with ANSWER counted as clear in an answer frame and as it stands in the others. -/
def Obligations.AttentionLineAndNoticeFlag : Prop :=
  ∀ x : PortRecord,
    (x.attention = true ↔ ∃ i : Fin 8, x.flags[i] = true ∧ x.mask[i] = true)
    ∧ (x.frameNotice = true ↔ ∃ i : Fin 8, x.flags[i] = true ∧ x.mask[i] = true
        ∧ ((∃ a, x.state = .ready a) → i ≠ 0))

/-- READ_STATUS answers the fields of R199 as they stand; READ_NOTICES answers flags and mask, empties the
flags and does not set ANSWER; SET_NOTICE_MASK sets the mask, and without one answers BAD_ARGUMENT. Nothing else
changes. -/
def Obligations.PortUnitAnswersItsRequests : Prop :=
  ∀ (s : State) (p : Port) (r : Request),
    (InHand s p .readStatus r →
      exec (.readStatus p) s = .next (answering s p r .ok
        ([numByte s.pwc.power.code, numByte s.svc.state.code] ++ bytes32 s.pwc.uptime
          ++ bytes16 s.pwc.ignitionCycles
          ++ [if s.calLoaded then 0#8 else 1#8, if s.rst.readOnly.calibration then 1#8 else 0#8,
            if s.rst.readOnly.counters then 1#8 else 0#8, if s.rst.readOnly.faults then 1#8 else 0#8,
            numByte s.rst.queue.length])))
    ∧ (InHand s p .readNotices r →
      exec (.readNotices p) s = .next (s.setPort p { s.port p with
        flags := 0, state := .ready ⟨r.tag, .ok, [(s.port p).flags, (s.port p).mask]⟩ }))
    ∧ (∀ (m : Notices) (rest : List Byte), InHand s p .setNoticeMask r → r.payload = m :: rest →
      exec (.setNoticeMask p) s = .next (s.setPort p { s.port p with
        mask := m, flags := (s.port p).flags ||| flagAnswer, state := .ready ⟨r.tag, .ok, [m]⟩ }))
    ∧ (InHand s p .setNoticeMask r → r.payload = [] →
      exec (.setNoticeMask p) s = .next (answering s p r .badArgument []))

/-! ## Reads (chapters 1, 3, 5, 7, 8) -/

/-- READ_SIGNALS with 1 to 12 slot numbers answers a count and the record of each, eight at the most: visible
value, visible status and age of a bound slot; with none, more than 12 or a number above 95 it answers
BAD_ARGUMENT. Nothing else changes. -/
def Obligations.ReadSignalsAnswersTheRecords : Prop :=
  ∀ (s : State) (p : Port) (r : Request), InHand s p .readSignals r →
    (r.payload = [] ∨ 12 < r.payload.length ∨ (∃ b ∈ r.payload, 95 < b.toNat) →
      exec (.readSignals p) s = .next (answering s p r .badArgument []))
    ∧ ∀ is : List (Fin 96), is ≠ [] → is.length ≤ 12 → r.payload = is.map (fun i => numByte i.val) →
    exec (.readSignals p) s = .next (answering s p r .ok
      (numByte (min is.length 8) :: (is.take 8).flatMap fun i =>
        if s.slots[i].kind = .unused then [0, 0, 0, 0, 0, 0xFF, 0xFF]
        else bytes32 (s.slots[i].substitution.getD s.slots[i].liveValue)
          ++ [if s.slots[i].substitution.isSome then 4#8
            else match s.slots[i].liveStatus with
              | .notAvailable => 0#8 | .valid => 1#8 | .stale => 2#8 | .outOfRange => 3#8]
          ++ leBytes 2 (min (s.pwc.uptime - s.slots[i].updateTime).toNat 65535)))

/-- READ_WARNINGS answers the list length, the count of entries returned and up to 4 entries from the start
position; a start position above 15, or none, is answered BAD_ARGUMENT. Nothing else changes. -/
def Obligations.ReadWarningsAnswersTheList : Prop :=
  ∀ (s : State) (p : Port) (r : Request), InHand s p .readWarnings r →
    ((∀ b rest, r.payload = b :: rest → 15 < b.toNat) →
      exec (.readWarnings p) s = .next (answering s p r .badArgument []))
    ∧ ∀ (start : Fin 16) (rest : List Byte), r.payload = numByte start.val :: rest →
    let shown := (s.wre.list.zipIdx.drop start.val).take 4
    exec (.readWarnings p) s = .next (answering s p r .ok
      ([numByte s.wre.list.length, numByte shown.length] ++ shown.flatMap fun x =>
        [numByte x.2, numByte x.1.rule.val, numByte s.cal.rules[x.1.rule].cls.rank,
          (match s.wre.rules[x.1.rule].phase with | .clearing => 1#8 | .latched => 2#8 | _ => 0#8),
          (if x.1.acknowledged then 1#8 else 0#8)]
          ++ bytes32 (s.wre.rules[x.1.rule].confirmedTime.getD 0)
          ++ bytes32 (s.wre.rules[x.1.rule].confirmedOdometer.getD 0)))

/-- READ_DOORS answers the four door records and the latch; READ_FAULT_SUMMARY answers the counts of ACTIVE
and STORED entries, the overflow mark and the generation; each whatever payload bytes come with it, and
nothing else changes. -/
def Obligations.ReadDoorsAndFaultSummaryAnswer : Prop :=
  ∀ (s : State) (p : Port) (r : Request),
    (InHand s p .readDoors r →
      exec (.readDoors p) s = .next (answering s p r .ok
        ((List.finRange 4).flatMap (fun d : Fin 4 =>
          [if s.cal.doors[d].present then 1#8 else 0#8, numByte s.drs.doors[d].state.number,
            (match s.drs.doors[d].reason with | none => 0xFF#8 | some why => numByte why.number),
            numByte s.drs.doors[d].reversals]
            ++ bytes32 s.drs.doors[d].cycles ++ bytes32 s.drs.doors[d].lastOpen
            ++ [if s.drs.doors[d].rampOut then 1#8 else 0#8])
          ++ [if s.drs.latch then 1#8 else 0#8])))
    ∧ (InHand s p .readFaultSummary r →
      exec (.readFaultSummary p) s = .next (answering s p r .ok
        ([numByte (s.flm.list.countP fun e => e.active), numByte (s.flm.list.countP fun e => !e.active),
          if s.flm.overflow then 1#8 else 0#8] ++ bytes16 s.flm.generation)))

/-- READ_CHANNELS answers one record per named channel, one or two, in the order named; none, more than two or
a number above 7 is answered BAD_ARGUMENT. Nothing else changes. -/
def Obligations.ReadChannelsAnswersTheChannels : Prop :=
  ∀ (s : State) (p : Port) (r : Request), InHand s p .readChannels r →
    (r.payload = [] ∨ 2 < r.payload.length ∨ (∃ b ∈ r.payload, 7 < b.toNat) →
      exec (.readChannels p) s = .next (answering s p r .badArgument []))
    ∧ ∀ cs : List (Fin 8), cs ≠ [] → cs.length ≤ 2 → r.payload = cs.map (fun c => numByte c.val) →
    exec (.readChannels p) s = .next (answering s p r .ok (cs.flatMap fun c =>
      let x := s.ccu.channels[c]
      let role := s.cal.channels[c].role
      [numByte s.cal.channels[c].mode.code, numByte role.code,
        numByte ((if x.softGate then 1 else 0) + (if x.gateOpen then 2 else 0)
          + (if x.pendingSetPoint.isSome then 4 else 0) + 16 * x.phase.code)]
        ++ bytes32 (match role with
          | .odometer => s.ccu.odometer.count | .hours => s.ccu.hours.count | .noRole => x.count)
        ++ bytes32 x.hold ++ bytes32 x.result ++ bytes32 x.setPoint ++ bytes32 (x.pendingSetPoint.getD 0)
        ++ [numByte (match role with
          | .odometer => s.ccu.odometer.sinceSave | .hours => s.ccu.hours.sinceSave | .noRole => 0)]))

/-! ## Signals, inputs and network (chapters 1, 2, 4) -/

/-- REFRESH_TIMER_EXPIRY turns a VALID slot STALE, value and update time kept, with the SIGNAL notice on all
ports, and leaves any other slot as it was; the timer is then stopped. Where the slot is the speed slot and
OPEN_ENABLE tracks it, this is a loss: its state is held and the fallback timer starts for 2,000 ms. -/
def Obligations.RefreshExpiryMakesAValidSlotStale : Prop :=
  ∀ (s : State) (i : Fin 96), s.supply = true → timerDue s.slots[i].refreshTimer s.pwc.uptime = true →
    ∃ t, exec (.refreshTimerExpiry i) s = .next t ∧
      t.slots = s.slots.set i { s.slots[i] with
        refreshTimer := none
        liveStatus := if s.slots[i].liveStatus = .valid then .stale else s.slots[i].liveStatus }
      ∧ (s.slots[i].liveStatus = .valid → s.pwc.power ≠ .start → NoticeOnAll flagSignal t)
      ∧ (s.slots[i].liveStatus = .valid → s.pwc.power ≠ .start → s.cal.general.speedSlot = some i →
          s.opu.power = .run ∨ s.opu.power = .afterrun → s.opu.regime = .tracking →
          t.opu.regime = .holding ∧ t.opu.fallback = startTimer s.pwc.uptime 2000
            ∧ t.opu.openEnable = s.opu.openEnable)
      ∧ (s.slots[i].liveStatus ≠ .valid → t = { s with slots := t.slots })
      ∧ SignalFrame s t ∧ SamePorts s t

/-- A whole frame of a NET_FRAMES payload (Table 78): the identifier word, a data length of 0 to 8, and the data; with
the extended flag, bit 31, clear the identifier is at most 7FFh (R65). -/
def Sys2Proof.Claims.WholeFrame (bs : List Byte) : Prop :=
  ∃ (word : BitVec 32) (data : List Byte), bs = bytes32 word ++ numByte data.length :: data ∧ data.length ≤ 8
    ∧ (word.msb = true ∨ word.setWidth 29 ≤ 0x7FF#29)

/-- Bytes that do not begin with a whole frame: cut short, a data length above 8, or an identifier above 7FFh with
the extended flag clear (R65). -/
def Sys2Proof.Claims.NoFrame (bs : List Byte) : Prop :=
  bs.length < 5
    ∨ ∃ (word : BitVec 32) (n : Byte) (rest : List Byte), bs = bytes32 word ++ n :: rest
        ∧ (8 < n.toNat ∨ rest.length < n.toNat ∨ (word.msb = false ∧ 0x7FF#29 < word.setWidth 29))

/-- NET_FRAMES in RUN and AFTERRUN: every slot that the request updates ends with the status, and a VALID
value, of the last update made for it (in frame order: log entry 33) and the request's update time, and the refresh
timer of a NETWORK slot with a timeout starts anew, whatever the status; no other slot's live contents change; the
answer counts the frames that matched some entry. A payload with a frame count of 0, above 4 or missing, or with a
frame that is cut short, too long or of too large an identifier, wherever it stands, is answered BAD_ARGUMENT and
changes nothing else. -/
def Obligations.NetFramesUpdateTheirSlots : Prop :=
  ∀ (s : State) (r : Request), InHand s .body .netFrames r → s.pwc.power = .run ∨ s.pwc.power = .afterrun →
    (∀ fs : List NetFrame, netFramesOf r.payload = some fs →
      ∃ t, exec .netFrames s = .next t ∧
        Answered s t .body r .ok
          [numByte (fs.countP fun f => (List.finRange 32).any fun e : Fin 32 => s.cal.filters[e].takes f)]
        ∧ (∀ pre u post, netUpdates s.cal fs = pre ++ u :: post → (∀ v ∈ post, v.slot ≠ u.slot) →
            let x := s.slots[u.slot]
            t.slots[u.slot].liveStatus = u.status ∧ (u.status = .valid → t.slots[u.slot].liveValue = u.value)
              ∧ t.slots[u.slot].updateTime = s.pwc.uptime
              ∧ t.slots[u.slot].refreshTimer =
                (if x.kind = .network ∧ x.refreshTimeout ≠ 0 then startTimer s.pwc.uptime x.refreshTimeout
                else x.refreshTimer))
        ∧ (∀ j : Fin 96, (∀ u ∈ netUpdates s.cal fs, u.slot ≠ j) →
            { t.slots[j] with substitution := none } = { s.slots[j] with substitution := none })
        ∧ SignalFrame s t)
    ∧ (r.payload = []
        ∨ (∃ n rest, r.payload = n :: rest ∧ (n = 0 ∨ 4 < n.toNat ∨ ∃ (whole : List (List Byte)) (tail : List Byte),
            whole.length < n.toNat ∧ (∀ f ∈ whole, WholeFrame f) ∧ rest = whole.flatten ++ tail ∧ NoFrame tail)) →
      exec .netFrames s = .next (answering s .body r .badArgument []))

/-- A field that fits is read bit by bit from its positions in the entry's byte order, and one that does not
fit makes no update; all ones is NOT_AVAILABLE and all ones but the last OUT_OF_RANGE, for a field of two bits
or more; any other field is scaled with the full product, the quotient toward zero, the offset added, and the
result saturated. An entry takes a frame that is enabled for it: equal extended flag, and equal identifier bits
wherever its mask has a bit; it then gives its target slot what the field converts to. A payload gives the frames that
its count declares, bits 29 and 30 of an identifier word and bytes after the last frame ignored, and their updates
come frame by frame, within a frame entry by entry. That this order of R70 holds between the updates of different
slots too is the model's inference (log entry 33). -/
def Obligations.NetworkFieldIsReadAndScaled : Prop :=
  (∀ (e : FilterItem) (f : NetFrame),
    (e.takes f = true ↔ e.enabled = true ∧ e.extended = f.extended
      ∧ ∀ i : Fin 29, e.mask[i] = true → f.identifier[i] = e.identifier[i])
    ∧ (∀ raw slot, e.rawField f.data = some raw → e.targetSlot = some slot →
      e.update f = some ⟨slot, (e.convert raw).1, (e.convert raw).2⟩)
    ∧ (e.targetSlot = none → e.update f = none))
  ∧ (∀ (frames : List (BitVec 32 × List Byte)) (rest : List Byte), 1 ≤ frames.length → frames.length ≤ 4 →
    (∀ w ∈ frames, w.2.length ≤ 8 ∧ (w.1.msb = true ∨ w.1.setWidth 29 ≤ 0x7FF#29)) →
    netFramesOf (numByte frames.length ::
        (frames.flatMap fun w => bytes32 w.1 ++ numByte w.2.length :: w.2) ++ rest)
      = some (frames.map fun w => ⟨w.1.setWidth 29, w.1.msb, w.2⟩))
  ∧ (∀ (c : Calibration) (fs : List NetFrame),
    netUpdates c fs = fs.flatMap fun f => (List.finRange 32).filterMap fun e : Fin 32 =>
      if c.filters[e].takes f then c.filters[e].update f else none)
  ∧ ∀ (e : FilterItem) (data : List Byte), 1 ≤ e.bitLength →
    (8 * data.length < e.startBit + e.bitLength → e.rawField data = none
      ∧ ∀ f : NetFrame, f.data = data → e.update f = none)
    ∧ (e.startBit + e.bitLength ≤ 8 * data.length →
        ∃ n, e.rawField data = some n ∧ n < 2 ^ e.bitLength ∧
          (∀ k < e.bitLength, n.testBit k =
            (match e.byteOrder with
            | .little => (data.getD ((e.startBit + k) / 8) 0).getLsbD ((e.startBit + k) % 8)
            | .big =>
              let position := e.startBit + e.bitLength - 1 - k
              (data.getD (position / 8) 0).getLsbD (7 - position % 8)))
          ∧ (e.convert n).1 =
              (if 2 ≤ e.bitLength ∧ n = 2 ^ e.bitLength - 1 then .notAvailable
              else if 2 ≤ e.bitLength ∧ n = 2 ^ e.bitLength - 2 then .outOfRange else .valid)
          ∧ ((e.convert n).1 = .valid →
              let x : Int := if e.signed = true ∧ n.testBit (e.bitLength - 1) = true
                then (n : Int) - 2 ^ e.bitLength else n
              (e.convert n).2.toInt =
                max (-2147483648) (min 2147483647
                  (Int.tdiv (x * e.multiplier.toInt) e.divisor + e.offset.toInt))))

/-- The record that a re-derivation leaves of a door (R115). -/
def Sys2Proof.Claims.rederivedDoor (it : DoorItem) (x : DoorRecord) (active : Fin 32 → Bool) (now : Time) :
    DoorRecord :=
  let made (o : Option (Fin 32)) : Prop := ∃ k, o = some k ∧ active k = true
  let isClosed : Prop := active it.closedInput = true
  let isOpen : Prop := made it.openInput
  let becomes (y : DoorRecord) (st : DoorState) (why : Option DoorReason) : DoorRecord :=
    { y with state := st, reason := why, openLimit := none, settle := none, closeLimit := none }
  let started : DoorRecord := { x with reversals := 0, openStart := some (x.openStart.getD now) }
  if made it.releaseInput then becomes started .released none
  else if isClosed ∧ ¬isOpen then
    becomes { x with reversals := 0, openStart := none }
      (if it.lockedInput = none ∨ made it.lockedInput then .closedLocked else .closed) none
  else if isOpen ∧ ¬isClosed then becomes started .doorOpen none
  else if ¬isOpen ∧ ¬isClosed then
    { becomes started .opening none with
      openLimit := startTimer now it.openLimit
      settle := if it.openInput = none then startTimer now it.settleTime else none }
  else becomes started .fault (some .switchConflict)

/-- The record that a debounced change of input `n` leaves of a present door that names it, by R115 to R125, with
the inputs as they stand after the change. -/
def Sys2Proof.Claims.doorAfter (it : DoorItem) (x : DoorRecord) (n : Fin 32) (active : Fin 32 → Bool) (now : Time) :
    DoorRecord :=
  let made (o : Option (Fin 32)) : Prop := ∃ k, o = some k ∧ active k = true
  let on : Prop := active n = true
  let isClosed : Prop := active it.closedInput = true
  let isOpen : Prop := made it.openInput
  let becomes (y : DoorRecord) (st : DoorState) (why : Option DoorReason) : DoorRecord :=
    { y with state := st, reason := why, openLimit := none, settle := none, closeLimit := none }
  let opening (y : DoorRecord) : DoorRecord :=
    { becomes y .opening none with
      openLimit := startTimer now it.openLimit
      settle := if it.openInput = none then startTimer now it.settleTime else none }
  let shut : DoorState := if it.lockedInput = none ∨ made it.lockedInput then .closedLocked else .closed
  let rederived : DoorRecord := rederivedDoor it x active now
  let closedNow : DoorRecord :=
    { becomes x shut none with
      reason := x.reason, openStart := none, reversals := 0
      cycles := if x.cycles = BitVec.allOnes 32 then x.cycles else x.cycles + 1
      lastOpen := now - x.openStart.getD now }
  let reversed (y : DoorRecord) : DoorRecord :=
    let y := { y with reversals := y.reversals + 1 }
    if it.reversalLimit < y.reversals then becomes y .fault (some .edgeRepeated)
    else { y with state := .reversing }
  if it.releaseInput = some n ∧ on then becomes x .released none
  else if x.state = .released then (if it.releaseInput = some n then rederived else x)
  else if x.state = .fault then (if n = it.closedInput ∨ it.openInput = some n then rederived else x)
  else if isClosed ∧ isOpen then becomes x .fault (some .switchConflict)
  else if x.state = .closed ∨ x.state = .closedLocked then
    if n = it.closedInput then
      if on then x
      else
        let y := { x with openStart := some now, reversals := 0 }
        if isOpen then becomes y .doorOpen none else opening y
    else if it.lockedInput = some n then { x with state := if on then .closedLocked else .closed }
    else x
  else if n = it.closedInput ∧ on then closedNow
  else if it.openInput = some n ∧ on then (if x.state = .doorOpen then x else becomes x .doorOpen none)
  else if x.state = .doorOpen ∧ it.openInput = some n then
    let y := { becomes x .closing x.reason with closeLimit := startTimer now it.closeLimit }
    if made it.edgeInput then reversed y else y
  else if x.state = .closing ∧ it.edgeInput = some n ∧ on then reversed x
  else x

/-- A rule returned to IDLE by a transition of Table 30: timers stopped, confirmed time and odometer absent. -/
def Sys2Proof.Claims.returned (x : RuleState) : RuleState :=
  { x with
    phase := .idle, raiseTimer := none, clearTimer := none, reAnnounceTimer := none
    confirmedTime := none, confirmedOdometer := none }

/-- List order between two rules (R85): class, then confirmed time with the oldest first, then number. -/
def Sys2Proof.Claims.Before (s : State) (a b : Fin 48) : Prop :=
  let rank (r : Fin 48) : Nat := s.cal.rules[r].cls.rank
  let age (r : Fin 48) : Nat := (s.pwc.uptime - s.wre.rules[r].confirmedTime.getD 0).toNat
  rank a < rank b ∨ (rank a = rank b ∧ (age b < age a ∨ (age a = age b ∧ a < b)))

/-- The entry of a rule is acknowledged (R89): a LATCHED rule goes to IDLE, any other keeps its state with an
acknowledged entry, and starts its re-announce interval if it is ACTIVE and has one (R94). -/
def Sys2Proof.Claims.Acknowledged (s t : State) (r : Fin 48) : Prop :=
  let x := s.wre.rules[r]
  let it := s.cal.rules[r]
  (x.phase = .latched → t.wre.rules[r] = returned x ∧ ∀ y ∈ t.wre.list, y.rule ≠ r)
    ∧ (x.phase ≠ .latched → ⟨r, true⟩ ∈ t.wre.list ∧ t.wre.rules[r] = { x with
      reAnnounceTimer := if x.phase = .active ∧ it.reAnnounce ≠ 0 ∧ it.cls ≠ .advise then
        startTimer s.pwc.uptime (it.reAnnounce * 60000) else x.reAnnounceTimer })

/-- Apart from the rules given, the rules and their entries stay as they are, but that each open place is refilled by
the SUPPRESSED rule that list order puts first, unacknowledged (R88). -/
def Sys2Proof.Claims.OthersRefill (s t : State) (given : Fin 48 → Prop) : Prop :=
  (∀ k, ¬given k → s.wre.rules[k].phase ≠ .suppressed → t.wre.rules[k] = s.wre.rules[k])
    ∧ (∀ k, ¬given k → s.wre.rules[k].phase = .suppressed → t.wre.rules[k] = s.wre.rules[k]
      ∨ (t.wre.rules[k] = { s.wre.rules[k] with phase := .active, reAnnounceTimer := none }
        ∧ ⟨k, false⟩ ∈ t.wre.list))
    ∧ (∀ a b, ¬given a → ¬given b → s.wre.rules[a].phase = .suppressed → s.wre.rules[b].phase = .suppressed →
      Before s a b → t.wre.rules[b].phase = .active → t.wre.rules[a].phase = .active)
    ∧ ((∃ k, ¬given k ∧ t.wre.rules[k].phase = .suppressed) → t.wre.list.length = 16)
    ∧ (∀ y ∈ s.wre.list, ¬given y.rule → y ∈ t.wre.list)
    ∧ ∀ y ∈ t.wre.list, ¬given y.rule →
      y ∈ s.wre.list ∨ (s.wre.rules[y.rule].phase = .suppressed ∧ y.acknowledged = false)

/-- The Output Unit has been handed the summary of the list as it stands (Table 31). -/
def Sys2Proof.Claims.SummaryHanded (t : State) : Prop :=
  let has (cls : WarningClass) (unack : Bool) : Prop :=
    ∃ y ∈ t.wre.list, t.cal.rules[y.rule].cls = cls ∧ (unack = true → y.acknowledged = false)
  (t.opu.summary.stopPresent = true ↔ has .stop false) ∧ (t.opu.summary.stopUnack = true ↔ has .stop true)
    ∧ (t.opu.summary.cautionPresent = true ↔ has .caution false)
    ∧ (t.opu.summary.cautionUnack = true ↔ has .caution true)

/-- The slots bound to a channel take a VALID value now. -/
def Sys2Proof.Claims.ChannelSlotsTake (s t : State) (c : Fin 8) (v : Value) : Prop :=
  ∀ i : Fin 96, s.slots[i].kind = .channel → s.slots[i].index = some (c.castLE (by omega)) →
    t.slots[i].liveStatus = .valid ∧ t.slots[i].liveValue = v ∧ t.slots[i].updateTime = t.pwc.uptime

/-- A channel after its hardware gate input has changed, with the effective gate that results (R40 to R42): an
opening clears a counting channel with clear-on-open and publishes the 0 unless the hold-off timer runs, starts a RATE
window and arms a WIDTH channel; a closing writes the hold and takes a pending set-point. A channel in mode OFF and a
role channel stay as they are. -/
def Sys2Proof.Claims.gateChanged (it : ChannelItem) (x : Channel) (isOpen : Bool) (now : Time) : Channel :=
  if it.mode = .off ∨ it.role ≠ .noRole ∨ isOpen = x.gateOpen then x
  else if isOpen = false then
    { x with
      gateOpen := false, hold := x.count, setPoint := x.pendingSetPoint.getD x.setPoint
      pendingSetPoint := none, window := none, phase := .idle }
  else if it.mode = .rate then
    { x with gateOpen := true, count := 0, window := startTimer now it.rateWindow.ms }
  else if it.mode = .width then { x with gateOpen := true, count := 0, phase := .waiting }
  else if it.clearOnOpen = false then { x with gateOpen := true }
  else if x.holdOff = none then
    { x with gateOpen := true, count := 0, lastDelivery := some 0, holdOff := startTimer now 10 }
  else { x with gateOpen := true, count := 0 }

/-- No rule in use refers to the slots named while rules are evaluated, and service mode is off there: what the
slots take makes no report at Fault Memory. -/
def Sys2Proof.Claims.Unwatched (s : State) (named : Fin 96 → Prop) : Prop :=
  s.pwc.power = .run → s.svc.state = .off ∧ ∀ i, named i → ∀ r : Fin 48, s.cal.rules[r].enabled = true →
    s.cal.rules[r].signalSlot ≠ i ∧ ∀ q, s.cal.rules[r].qualifier = some q → q.slot ≠ i

/-- SWITCH_DEBOUNCED_CHANGE once the disagreement count is full: the debounced state turns over and the count
is 0; in START, RUN and AFTERRUN the bound slots take VALID 1 or 0. In RUN and AFTERRUN every present door that
names the input takes the change by R115 to R125 with its ramp (R127), and every other door stays; every channel whose
hardware gate is the input re-evaluates its effective gate, and every other stays; an activation of the acknowledge
input acknowledges the first unacknowledged entry (R91), where no rule looks at a slot that the change reaches; and the
stop-request latch is set by an activation of a stop-request input in RUN with no door OPEN, and cleared by a door that
becomes OPEN (R128, R129): where every OPEN door leaves OPEN in the same change, the activation may come before or after
it. In SLEEP a wake input wakes the part to AFTERRUN and any other input changes nothing else. That this command takes
the change of a count that is full, that quiet is NO after the wake, that a door in FAULT SWITCH_CONFLICT which
re-derives to it once more takes reversal count 0 and an open start, where R115 says that it stays as it is, and that
the last delivery recorded is the count before saturation, are the model's (log entries 6, 28, 38, 46). -/
def Obligations.DebouncedChangeTurnsTheSwitch : Prop :=
  ∀ (s : State) (n : Fin 32), s.supply = true →
    s.switches[n].disagreement = s.cal.switches[n].debounce.ms →
    let wake := ∃ d : Fin 4, s.cal.doors[d].present = true ∧ s.cal.doors[d].closedInput = n
    let on := !s.switches[n].active
    let named (d : Fin 4) : Prop :=
      s.cal.doors[d].present = true ∧ (s.cal.doors[d].closedInput = n
        ∨ some n ∈ [s.cal.doors[d].openInput, s.cal.doors[d].edgeInput, s.cal.doors[d].releaseInput,
            s.cal.doors[d].lockedInput, s.cal.doors[d].rampInput])
    let asks : Prop := on = true ∧ some n ∈ s.cal.general.stopInputs.toList ∧ s.pwc.power = .run
    let wasOpen (d : Fin 4) : Prop := s.cal.doors[d].present = true ∧ s.drs.doors[d].state = .doorOpen
    let reached (i : Fin 96) : Prop := (s.slots[i].kind = .switch ∧ s.slots[i].index = some n)
      ∨ s.slots[i].kind = .channel ∨ s.slots[i].kind = .door ∨ s.slots[i].kind = .stopReq
    ∃ t, exec (.switchDebouncedChange n) s = .next t
      ∧ (s.pwc.power ≠ .sleep →
          t.switches = s.switches.set n ⟨on, 0⟩
          ∧ (∀ i : Fin 96, s.slots[i].kind = .switch → s.slots[i].index = some n →
              t.slots[i].liveStatus = .valid
                ∧ t.slots[i].liveValue = (if s.switches[n].active then 0 else 1)
                ∧ t.slots[i].updateTime = s.pwc.uptime)
          ∧ t.pwc.power = s.pwc.power)
      ∧ (s.pwc.power = .run ∨ s.pwc.power = .afterrun →
          (∀ d : Fin 4, ¬named d → t.drs.doors[d] = s.drs.doors[d])
          ∧ (∀ d : Fin 4, named d →
              let x := if s.cal.doors[d].rampInput = some n then { s.drs.doors[d] with rampOut := on }
                else s.drs.doors[d]
              t.drs.doors[d] = doorAfter s.cal.doors[d] x n (fun k => t.switches[k].active) s.pwc.uptime
                ∧ (t.drs.doors[d] ≠ s.drs.doors[d] → NoticeOnAll flagDoors t)
                ∧ (s.cal.doors[d].rampInput = some n → t.opu.ramps[d] = on))
          ∧ (∀ c : Fin 8,
              let it := s.cal.channels[c]
              let x := s.ccu.channels[c]
              (it.hardwareGate ≠ some n → t.ccu.channels[c] = x)
              ∧ (it.hardwareGate = some n →
                let isOpen := x.softGate && (on == (it.gatePolarity == .active))
                t.ccu.channels[c] = gateChanged it x isOpen s.pwc.uptime
                ∧ (it.mode.counts = true → it.role = .noRole → x.gateOpen = false → isOpen = true →
                    it.clearOnOpen = true → x.holdOff = none → ChannelSlotsTake s t c 0)))
          ∧ t.ccu.odometer = s.ccu.odometer ∧ t.ccu.hours = s.ccu.hours
          ∧ (Unwatched s reached → ListAgrees s.wre → PlacesRefilled s.wre →
              let acknowledges := on = true ∧ s.cal.general.ackInput = some n
              (∀ y, acknowledges → (s.wre.list.find? fun x => !x.acknowledged) = some y →
                Acknowledged s t y.rule ∧ OthersRefill s t (fun k => k = y.rule) ∧ NoticeOnAll flagWarnings t)
              ∧ (¬acknowledges ∨ (∀ y ∈ s.wre.list, y.acknowledged = true) → t.wre = s.wre))
          ∧ (let opens : Prop := ∃ d, named d ∧ t.drs.doors[d].state = .doorOpen ∧ ¬wasOpen d
            (opens → t.drs.latch = false)
            ∧ (¬opens → ¬asks → t.drs.latch = s.drs.latch)
            ∧ (¬opens → asks → (∀ d, ¬wasOpen d) → t.drs.latch = true)
            ∧ (¬opens → asks → (∃ d, wasOpen d ∧ t.drs.doors[d].state = .doorOpen) → t.drs.latch = s.drs.latch)
            ∧ (¬opens → s.drs.latch = true → t.drs.latch = true))
          ∧ (t.drs.latch ≠ s.drs.latch → t.opu.latch = t.drs.latch ∧ NoticeOnAll flagDoors t
              ∧ ∀ i : Fin 96, s.slots[i].kind = .stopReq → s.slots[i].index = none →
                  t.slots[i].liveStatus = .valid ∧ t.slots[i].liveValue = (if t.drs.latch then 1 else 0)))
      ∧ (s.pwc.power = .sleep → wake → t.pwc.power = .afterrun ∧ NoticeOnAll flagPower t
          ∧ t.pwc.quietTimer = startTimer s.pwc.uptime 10000)
      ∧ (s.pwc.power = .sleep → ¬wake →
          t = { s with switches := s.switches.set n ⟨on, 0⟩ })
      ∧ SameBase s t ∧ SameStore s t ∧ t.senders = s.senders

/-- A filtered value out of range by the thresholds that are present (R29). -/
def Sys2Proof.Claims.Outside (it : SenderItem) (f : BitVec 12) : Prop :=
  (∃ h, it.openThreshold = some h ∧ h ≤ f) ∨ ∃ h, it.shortThreshold = some h ∧ f ≤ h

/-- A value on a sender curve (R31): the first point's below the first raw value, the last point's above the last,
and the segment's between, with the quotient rounded toward zero. -/
def Sys2Proof.Claims.OnCurve (points : List CurvePoint) (f : BitVec 12) (v : Value) : Prop :=
  (∀ p, points.head? = some p → f ≤ p.raw → v = p.value)
    ∧ (∀ p, points.getLast? = some p → p.raw ≤ f → v = p.value)
    ∧ ∀ before p q after, points = before ++ p :: q :: after → p.raw ≤ f → f ≤ q.raw →
        v.toInt = p.value.toInt
          + Int.tdiv (((f.toNat : Int) - p.raw.toNat) * (q.value.toInt - p.value.toInt))
              ((q.raw.toNat : Int) - p.raw.toNat)

/-- The Fault List has a place for a code: an entry of the code, fewer than 32 entries, or a STORED one that gives
way (R138, R139, R141). -/
def Sys2Proof.Claims.HasPlace (l : List FaultEntry) (code : BitVec 16) : Prop :=
  (∃ e ∈ l, e.code = code) ∨ l.length < 32 ∨ ∃ e ∈ l, e.active = false

/-- SENDER_SAMPLE of an input in use outside SLEEP filters the raw value, judges it against the thresholds
with 500 ms of pending time, and publishes to the bound slots when the publication is new: OUT_OF_RANGE, or VALID
with the curve's value. A change to OUT_OF_RANGE reports the occurrence of E100h + n to Fault Memory, a change to
IN_RANGE its end. -/
def Obligations.SenderSampleFiltersAndDiagnoses : Prop :=
  ∀ (s : State) (n : Fin 8) (raw : BitVec 12), s.supply = true → s.pwc.power ≠ .sleep →
    s.cal.senderInUse n = true →
    let it := s.cal.senders[n]
    let x := s.senders[n]
    let code := BitVec.ofNat 16 (0xE100 + n.val)
    let bound (i : Fin 96) : Prop :=
      s.slots[i].kind = .sender ∧ s.slots[i].index = some (n.castLE (by omega))
    ∃ t f, exec (.senderSample n raw) s = .next t ∧
      t.senders[n].filtered = some f
      ∧ (x.filtered = none → f = raw)
      ∧ (∀ g, x.filtered = some g →
          (f.toNat : Int) = g.toNat + Int.tdiv ((raw.toNat : Int) - g.toNat) (2 ^ it.filterLevel.val))
      ∧ ((x.outOfRange = true ↔ Outside it f) →
            t.senders[n].outOfRange = x.outOfRange ∧ t.senders[n].pendingTime = none)
      ∧ (¬(x.outOfRange = true ↔ Outside it f) →
            (x.pendingTime = none →
              t.senders[n].outOfRange = x.outOfRange ∧ t.senders[n].pendingTime = some s.pwc.uptime)
            ∧ ∀ since, x.pendingTime = some since →
              if (s.pwc.uptime - since).toNat < 500 then
                t.senders[n].outOfRange = x.outOfRange ∧ t.senders[n].pendingTime = some since
              else t.senders[n].outOfRange = !x.outOfRange ∧ t.senders[n].pendingTime = none)
      ∧ (t.senders[n].outOfRange = true → t.senders[n].lastPublication = some .outOfRange)
      ∧ (t.senders[n].outOfRange = false → 2 ≤ it.pointsInUse.length →
          it.pointsInUse.Pairwise (fun p q => p.raw < q.raw) →
          ∃ v, t.senders[n].lastPublication = some (.valid v) ∧ OnCurve it.pointsInUse f v)
      ∧ (t.senders[n].lastPublication ≠ x.lastPublication → ∀ i : Fin 96, bound i →
            match t.senders[n].lastPublication with
            | some (.valid v) => t.slots[i].liveStatus = .valid ∧ t.slots[i].liveValue = v
            | _ => t.slots[i].liveStatus = .outOfRange ∧ t.slots[i].liveValue = s.slots[i].liveValue)
      ∧ (t.senders[n].lastPublication = x.lastPublication → t.slots = s.slots)
      ∧ (s.flm.replayDone = true → Unwatched s bound →
          (x.outOfRange = false → t.senders[n].outOfRange = true → HasPlace s.flm.list code →
            ∃ e ∈ t.flm.list, e.code = code ∧ e.source = .sender n ∧ e.active = true)
          ∧ (x.outOfRange = true → t.senders[n].outOfRange = false →
            ∀ e ∈ t.flm.list, e.code = code → e.active = false)
          ∧ (t.senders[n].outOfRange = x.outOfRange → t.flm = s.flm))
      ∧ (∀ m : Fin 8, m ≠ n → t.senders[m] = s.senders[m])
      ∧ SameBase s t ∧ SameStore s t ∧ SamePower s t ∧ t.switches = s.switches ∧ t.ccu = s.ccu
      ∧ t.drs = s.drs ∧ SamePorts s t

/-! ## Channels (chapter 3) -/

/-- The channels with the record of one replaced. -/
def Sys2Proof.Claims.withChannel (s : State) (c : Fin 8) (x : Channel) : Ccu :=
  { s.ccu with channels := s.ccu.channels.set c x }

/-- A counting channel without a role after an increment (R45, R53): at a completion the count is 0 and a pending
set-point in force, otherwise the count is one more; the change is published once unless the hold-off timer runs (log
entry 45), with the unsaturated count as the last delivery (log entry 46). -/
def Sys2Proof.Claims.counted (x : Channel) (now : Time) : Channel :=
  let y : Channel :=
    if x.setPoint ≠ 0 ∧ x.setPoint.toNat ≤ x.count.toNat + 1 then
      { x with count := 0, setPoint := x.pendingSetPoint.getD x.setPoint, pendingSetPoint := none }
    else { x with count := x.count + 1 }
  if x.holdOff = none then { y with lastDelivery := some y.count, holdOff := startTimer now 10 } else y

/-- Whether a channel makes an increment in an event that reaches some channels first: a FOLLOW channel with an
OPEN gate makes one when the channel numbered one lower makes one that is a completion (R45, R46). -/
def Sys2Proof.Claims.Increments (s : State) (first : Fin 8 → Prop) : (k : Nat) → k < 8 → Prop
  | 0, h => first ⟨0, h⟩
  | k + 1, h =>
    if s.cal.channels[k + 1].mode = .follow then
      s.ccu.channels[k + 1].gateOpen = true ∧ s.cal.channels[k].role = .noRole
        ∧ s.ccu.channels[k].setPoint ≠ 0 ∧ s.ccu.channels[k].setPoint.toNat ≤ s.ccu.channels[k].count.toNat + 1
        ∧ Increments s first k (by omega)
    else first ⟨k + 1, h⟩

/-- What an event leaves of the counting channels that it can reach (R43 to R46) and of the role counts (R50,
R51), when the channels `first` are the ones that it makes count. -/
def Sys2Proof.Claims.CountsAfter (s t : State) (first : Fin 8 → Prop) : Prop :=
  let role (before after : RoleCount) (which : Role) (every : Nat) : Prop :=
    ∀ c : Fin 8, (∀ d : Fin 8, s.cal.channels[d].role = which ↔ d = c) →
      (Increments s first c.val c.isLt → before.count ≠ BitVec.allOnes 32 →
        after.count = before.count + 1
          ∧ (if before.sinceSave + 1 < every then after.sinceSave = before.sinceSave + 1
            else after.sinceSave = 0 ∧ Job.counterSave ∈ t.rst.queue))
      ∧ (¬Increments s first c.val c.isLt ∨ before.count = BitVec.allOnes 32 → after = before)
  (∀ c : Fin 8, s.cal.channels[c].mode.counts = true → s.cal.channels[c].role = .noRole →
    (Increments s first c.val c.isLt → t.ccu.channels[c] = counted s.ccu.channels[c] t.pwc.uptime)
    ∧ (¬Increments s first c.val c.isLt → t.ccu.channels[c] = s.ccu.channels[c]))
  ∧ role s.ccu.odometer t.ccu.odometer .odometer 10
  ∧ role s.ccu.hours t.ccu.hours .hours 60

/-- PULSE_EDGE in RUN and AFTERRUN counts once at every TOTAL channel whose gate is OPEN and whose edge field takes
the transition, and from there along the FOLLOW channels and at the role counts; once at every RATE channel with a
window; at a WIDTH channel it starts the measurement into the active level and ends it out of that level, with
result, hold and closing. Every other channel stays as it is, a WIDTH channel in phase IDLE too, whatever its gate:
IDLE is the phase that a CLOSED gate leaves. In START and SLEEP only the pin's level changes. That the command turns
the level over, that an increment that completes publishes the 0 alone, and that the last delivery recorded is the
count before saturation, are the model's choices (log entries 8, 45, 46). -/
def Obligations.PulseEdgeCountsAtItsChannels : Prop :=
  ∀ (s : State) (n : Fin 8), s.supply = true →
    let high := !s.pins.pulses[n]
    let pins := { s.pins with pulses := s.pins.pulses ^^^ BitVec.twoPow 8 n.val }
    let takes (c : Fin 8) : Prop :=
      s.cal.channels[c].pulseInput = n
        ∧ (s.cal.channels[c].edge = .both ∨ (s.cal.channels[c].edge = .rising ∧ high = true)
          ∨ (s.cal.channels[c].edge = .falling ∧ high = false))
    (s.pwc.power = .run ∨ s.pwc.power = .afterrun →
      ∃ t, exec (.pulseEdge n) s = .next t ∧ t.pins = pins
        ∧ CountsAfter s t (fun c =>
            s.cal.channels[c].mode = .total ∧ s.ccu.channels[c].gateOpen = true ∧ takes c)
        ∧ (∀ c : Fin 8, s.cal.channels[c].mode = .rate →
            t.ccu.channels[c] =
              (if s.ccu.channels[c].window ≠ none ∧ takes c then
                { s.ccu.channels[c] with count := s.ccu.channels[c].count + 1 }
              else s.ccu.channels[c]))
        ∧ (∀ c : Fin 8, s.cal.channels[c].mode = .width → s.cal.channels[c].role = .noRole →
            s.cal.channels[c].edge ≠ .both → s.ccu.channels[c].gateOpen = true →
            let x := s.ccu.channels[c]
            (x.phase = .waiting → takes c → t.ccu.channels[c] = { x with phase := .measuring })
            ∧ (x.phase = .measuring → s.cal.channels[c].pulseInput = n → ¬takes c →
                let result := if 0x7FFFFFFF#32 < x.count then 0x7FFFFFFF#32 else x.count
                t.ccu.channels[c] = { x with
                    result := result, phase := .idle, softGate := false, gateOpen := false, hold := x.count
                    setPoint := x.pendingSetPoint.getD x.setPoint, pendingSetPoint := none, window := none }
                  ∧ ChannelSlotsTake s t c result)
            ∧ ((x.phase = .waiting ∧ ¬takes c) ∨ (x.phase = .measuring ∧ takes c) → t.ccu.channels[c] = x))
        ∧ (∀ c : Fin 8, s.cal.channels[c].mode = .width →
            s.ccu.channels[c].phase = .idle ∨ s.cal.channels[c].pulseInput ≠ n →
            t.ccu.channels[c] = s.ccu.channels[c])
        ∧ (∀ c : Fin 8, s.cal.channels[c].mode = .off ∨ s.cal.channels[c].mode = .timer →
            t.ccu.channels[c] = s.ccu.channels[c])
        ∧ t.cal = s.cal ∧ t.supply = true ∧ SameStore s t ∧ SamePower s t ∧ t.switches = s.switches
        ∧ t.senders = s.senders ∧ t.drs = s.drs)
    ∧ (s.pwc.power = .start ∨ s.pwc.power = .sleep → exec (.pulseEdge n) s = .next { s with pins := pins })

/-- MILLISECOND_TICK outside reset: the uptime is one more, IGN and every sampled switch take a sample, and in
RUN and AFTERRUN every TIMER channel with an OPEN gate counts once, with the FOLLOW channels and role counts that
follow, and every WIDTH channel that measures counts with saturation. A count that the samples before it filled is
taken first: the tick is that of the state after the change (the model's choice, log entry 6; shown for one change,
since several have no order among them). That only the levels are taken while RST_N holds the part is log entry
9, that an increment that completes publishes the 0 alone is log entry 45, and that the last delivery recorded is the
count before saturation is log entry 46. -/
def Obligations.MillisecondTickSamplesAndCounts : Prop :=
  ∀ (s : State) (levels : BitVec 32) (ign : Bool), s.supply = true →
    let pins := { s.pins with switches := levels, ign := ign }
    let sample (active : Bool) (count : Nat) (seen : Bool) : Nat := if seen = active then 0 else count + 1
    let wake (n : Fin 32) : Prop :=
      ∃ d : Fin 4, s.cal.doors[d].present = true ∧ s.cal.doors[d].closedInput = n
    let full (n : Fin 32) : Prop := s.switches[n].disagreement = s.cal.switches[n].debounce.ms
    let timed (c : Fin 8) : Prop := s.cal.channels[c].mode = .timer ∧ s.ccu.channels[c].gateOpen = true
    (s.pwc.held = true → exec (.millisecondTick levels ign) s = .next { s with pins := pins })
    ∧ (s.pwc.held = false → (∀ n : Fin 32, ¬full n) → s.pwc.ignitionDisagreement ≠ 50 →
      ∃ t, exec (.millisecondTick levels ign) s = .next t ∧ t.pins = pins
        ∧ t.pwc = { s.pwc with
            uptime := s.pwc.uptime + 1
            ignitionDisagreement := sample s.pwc.ignition s.pwc.ignitionDisagreement ign
            storeIdle := t.pwc.storeIdle }
        ∧ (∀ n : Fin 32, t.switches[n].active = s.switches[n].active)
        ∧ (∀ n : Fin 32, s.pwc.power ≠ .sleep ∨ wake n →
            t.switches[n].disagreement = sample s.switches[n].active s.switches[n].disagreement
              (levels[n] == (s.cal.switches[n].polarity == .activeHigh)))
        ∧ (∀ n : Fin 32, s.pwc.power = .sleep → ¬wake n → t.switches[n] = s.switches[n])
        ∧ (s.pwc.power = .run ∨ s.pwc.power = .afterrun →
            CountsAfter s t timed
            ∧ (∀ c : Fin 8, s.cal.channels[c].mode = .width →
              t.ccu.channels[c] =
                (if s.ccu.channels[c].phase = .measuring then
                  { s.ccu.channels[c] with
                    count := if s.ccu.channels[c].count = BitVec.allOnes 32 then BitVec.allOnes 32
                      else s.ccu.channels[c].count + 1 }
                else s.ccu.channels[c]))
            ∧ (∀ c : Fin 8, s.cal.channels[c].mode = .off ∨ s.cal.channels[c].mode = .rate →
              t.ccu.channels[c] = s.ccu.channels[c]))
        ∧ (s.pwc.power = .start ∨ s.pwc.power = .sleep → t.ccu = s.ccu)
        ∧ t.cal = s.cal ∧ t.supply = true ∧ SameStore s t ∧ t.senders = s.senders ∧ t.drs = s.drs)
    ∧ (∀ (n : Fin 32) (u : State), s.pwc.held = false → (∀ m : Fin 32, full m ↔ m = n) →
      s.pwc.ignitionDisagreement ≠ 50 → exec (.switchDebouncedChange n) s = .next u →
      exec (.millisecondTick levels ign) s = exec (.millisecondTick levels ign) u)
    ∧ (∀ u : State, s.pwc.held = false → (∀ m : Fin 32, ¬full m) → s.pwc.ignitionDisagreement = 50 →
      exec .ignitionChange s = .next u →
      exec (.millisecondTick levels ign) s = exec (.millisecondTick levels ign) u)

/-- RATE_WINDOW_EXPIRY publishes the scaled count, clears it and opens the next window; HOLD_OFF_EXPIRY
delivers a count that differs from the last delivery and starts the timer again, and otherwise lets it stop. That the
last delivery recorded and compared is the count before saturation is the model's choice (log entry 46). -/
def Obligations.ChannelTimersExpire : Prop :=
  ∀ (s : State) (c : Fin 8), s.supply = true →
    let it := s.cal.channels[c]
    let x := s.ccu.channels[c]
    let count := match it.role with
      | .odometer => s.ccu.odometer.count | .hours => s.ccu.hours.count | .noRole => x.count
    (timerDue x.window s.pwc.uptime = true →
      ∃ t v, exec (.rateWindowExpiry c) s = .next t ∧
        v.toInt = max (-2147483648) (min 2147483647
          (Int.tdiv ((x.count.toNat : Int) * it.multiplier.toInt) it.divisor))
        ∧ t.ccu = withChannel s c { x with
            result := v, count := 0
            window := startTimer s.pwc.uptime
              (match it.rateWindow with | .ms10 => 10 | .ms100 => 100 | .ms1000 => 1000) }
        ∧ ChannelSlotsTake s t c v ∧ ChannelFrame s t ∧ SamePorts s t)
    ∧ (timerDue x.holdOff s.pwc.uptime = true → x.lastDelivery = some count →
      exec (.holdOffExpiry c) s = .next (s.setChannel c { x with holdOff := none }))
    ∧ (timerDue x.holdOff s.pwc.uptime = true → x.lastDelivery ≠ some count →
      ∃ t, exec (.holdOffExpiry c) s = .next t ∧
        t.ccu = withChannel s c { x with
          lastDelivery := some count, holdOff := startTimer s.pwc.uptime 10 }
        ∧ ChannelSlotsTake s t c (if 0x7FFFFFFF#32 < count then 0x7FFFFFFF#32 else count)
        ∧ ChannelFrame s t ∧ SamePorts s t)

/-- A CHANNEL_CONTROL in hand in RUN or AFTERRUN that names a channel, an action and a value (R55). -/
def Sys2Proof.Claims.Asks (s : State) (p : Port) (r : Request) (c : Fin 8) (action : Byte) (v : Count) : Prop :=
  (s.pwc.power = .run ∨ s.pwc.power = .afterrun) ∧ InHand s p .channelControl r
    ∧ ∃ rest, r.payload = numByte c.val :: action :: (bytes32 v ++ rest)

/-- The port may control the channel: port B by body control, port S in service (Table 20). -/
def Sys2Proof.Claims.MayControl (s : State) (p : Port) (c : Fin 8) : Prop :=
  (p = .body ∧ s.cal.channels[c].bodyControl = true) ∨ (p = .service ∧ s.svc.state ≠ .off)

/-- A CHANNEL_CONTROL on a channel that its port may control, in a mode and without a role. -/
def Sys2Proof.Claims.Controls (s : State) (p : Port) (r : Request) (c : Fin 8) (action : Byte) (v : Count) : Prop :=
  Asks s p r c action v ∧ MayControl s p c ∧ s.cal.channels[c].mode ≠ .off ∧ s.cal.channels[c].role = .noRole

/-- SOFT_GATE_ON and SOFT_GATE_OFF turn the soft gate and re-evaluate the effective gate with its opening or
closing; the answer is the channel's record, and no other channel changes. A soft gate that stands so already is
answered ALREADY with the record and no change. On a role channel, whose soft gate is held ON, SOFT_GATE_ON is so
answered and SOFT_GATE_OFF NOT_PERMITTED. Whatever the action, a payload shorter than the six bytes of Table
78, a channel above 7 or a fifth action is answered BAD_ARGUMENT, a port that may not control the channel and a
channel in mode OFF NOT_PERMITTED. The model's own are: that a request in hand in START and SLEEP waits there, that
any of the four commands carries out a payload of a fifth action or of no form (log entry 18), and that a payload cut
short of the value that a gate action ignores is BAD_ARGUMENT (log entry 19). -/
def Obligations.SoftGateTurnsTheGate : Prop :=
  ∀ (s : State) (p : Port) (r : Request) (c : Fin 8) (v : Count),
    let it := s.cal.channels[c]
    let x := s.ccu.channels[c]
    let permits : Prop := ∀ n, it.hardwareGate = some n →
      (s.switches[n].active = true ↔ it.gatePolarity = .active)
    let commands : List (Byte × Instr) :=
      [(0, .softGateOn p), (1, .softGateOff p), (2, .setCount p), (3, .setUpper p)]
    (Controls s p r c 0 v → x.softGate = false →
      ∃ t, exec (.softGateOn p) s = .next t ∧ Answered s t p r .ok (channelRecord t c)
        ∧ t.ccu.channels[c].softGate = true
        ∧ (t.ccu.channels[c].gateOpen = true ↔ permits)
        ∧ (x.gateOpen = false → permits → it.mode = .rate →
            t.ccu.channels[c].count = 0
              ∧ t.ccu.channels[c].window = startTimer s.pwc.uptime
                  (match it.rateWindow with | .ms10 => 10 | .ms100 => 100 | .ms1000 => 1000))
        ∧ (x.gateOpen = false → permits → it.mode = .width →
            t.ccu.channels[c].count = 0 ∧ t.ccu.channels[c].phase = .waiting)
        ∧ (x.gateOpen = false → permits → it.mode.counts = true →
            t.ccu.channels[c].count = if it.clearOnOpen then 0 else x.count)
        ∧ (∀ d : Fin 8, d ≠ c → t.ccu.channels[d] = s.ccu.channels[d])
        ∧ t.ccu.odometer = s.ccu.odometer ∧ t.ccu.hours = s.ccu.hours ∧ ChannelFrame s t)
    ∧ (Controls s p r c 1 v → x.softGate = true →
      ∃ t, exec (.softGateOff p) s = .next t ∧ Answered s t p r .ok (channelRecord t c)
        ∧ t.ccu = withChannel s c
            (if x.gateOpen then
              { x with
                softGate := false, gateOpen := false, hold := x.count
                setPoint := x.pendingSetPoint.getD x.setPoint, pendingSetPoint := none
                window := none, phase := .idle }
            else { x with softGate := false })
        ∧ t.slots = s.slots ∧ ChannelFrame s t)
    ∧ (Controls s p r c 0 v → x.softGate = true →
      exec (.softGateOn p) s = .next (answering s p r .already (channelRecord s c)))
    ∧ (Controls s p r c 1 v → x.softGate = false →
      exec (.softGateOff p) s = .next (answering s p r .already (channelRecord s c)))
    ∧ (MayControl s p c → it.mode ≠ .off → it.role ≠ .noRole →
      (Asks s p r c 0 v → x.softGate = true →
        exec (.softGateOn p) s = .next (answering s p r .already (channelRecord s c)))
      ∧ (Asks s p r c 1 v → exec (.softGateOff p) s = .next (answering s p r .notPermitted [])))
    ∧ ∀ (a : Byte) (i : Instr), (a, i) ∈ commands →
      (Asks s p r c a v → ¬MayControl s p c ∨ it.mode = .off →
        exec i s = .next (answering s p r .notPermitted []))
      ∧ (s.pwc.power = .run ∨ s.pwc.power = .afterrun → InHand s p .channelControl r →
          (∃ short, r.payload = numByte c.val :: a :: short ∧ short.length < 4)
            ∨ (∃ b d rest, r.payload = b :: d :: rest ∧ ((7 < b.toNat ∧ d = a) ∨ 3 < d.toNat))
            ∨ r.payload.length < 2 →
        exec i s = .next (answering s p r .badArgument []))
      ∧ (s.pwc.power = .start ∨ s.pwc.power = .sleep → s.supply = true → exec i s = .next s)

/-- SET_COUNT gives a counting channel its count and publishes it, unless the hold-off timer runs; a RATE or WIDTH
channel answers BAD_ARGUMENT. SET_UPPER takes effect at once with the gate CLOSED and stands as pending with it
OPEN. On a role channel both are NOT_PERMITTED. That the last delivery recorded is the count before saturation is the
model's choice (log entry 46). -/
def Obligations.CountAndSetPointAreSet : Prop :=
  ∀ (s : State) (p : Port) (r : Request) (c : Fin 8) (v : Count),
    let x := s.ccu.channels[c]
    (Controls s p r c 2 v → s.cal.channels[c].mode.counts = true →
      ∃ t, exec (.setCount p) s = .next t ∧ Answered s t p r .ok (channelRecord t c)
        ∧ t.ccu = withChannel s c
            (if x.holdOff = none then
              { x with count := v, lastDelivery := some v, holdOff := startTimer s.pwc.uptime 10 }
            else { x with count := v })
        ∧ (x.holdOff = none → ChannelSlotsTake s t c (if 0x7FFFFFFF#32 < v then 0x7FFFFFFF#32 else v))
        ∧ (x.holdOff ≠ none → t.slots = s.slots)
        ∧ ChannelFrame s t)
    ∧ (Controls s p r c 2 v → s.cal.channels[c].mode = .rate ∨ s.cal.channels[c].mode = .width →
      exec (.setCount p) s = .next (answering s p r .badArgument []))
    ∧ (Controls s p r c 3 v →
      ∃ t, exec (.setUpper p) s = .next t ∧ Answered s t p r .ok (channelRecord t c)
        ∧ t.ccu = withChannel s c
            (if x.gateOpen then { x with pendingSetPoint := some v }
            else { x with setPoint := v, pendingSetPoint := none })
        ∧ t.slots = s.slots ∧ ChannelFrame s t)
    ∧ (MayControl s p c → s.cal.channels[c].role ≠ .noRole →
      (Asks s p r c 2 v → exec (.setCount p) s = .next (answering s p r .notPermitted []))
      ∧ (Asks s p r c 3 v → exec (.setUpper p) s = .next (answering s p r .notPermitted [])))

/-! ## Warnings (chapter 5) -/

/-- A comparison result of GREATER, LESS, EQUAL or NOT_EQUAL on a usable value, from the held result (R75); threshold
and hysteresis are added in full. -/
def Sys2Proof.Claims.Compares (it : RuleItem) (held : Bool) (v : Value) : Prop :=
  match it.comparison with
  | .greater =>
    if held then ¬(v.toInt ≤ it.threshold.toInt - it.hysteresis.toNat) else it.threshold.toInt < v.toInt
  | .less =>
    if held then ¬(it.threshold.toInt + it.hysteresis.toNat ≤ v.toInt) else v.toInt < it.threshold.toInt
  | .equal => v = it.threshold
  | .notEqual => v ≠ it.threshold
  | .notValid => False

/-- NOT_VALID is TRUE exactly while the visible status is NOT_AVAILABLE, STALE or OUT_OF_RANGE, whatever
threshold, hysteresis and held result; every other comparison is computed from the value while the slot is VALID or
SUBSTITUTED, with hysteresis for GREATER and LESS, and frozen otherwise; a qualifier holds exactly while its slot is
VALID or SUBSTITUTED and its visible value passes the comparison; the condition is TRUE exactly when the comparison
result is TRUE and the qualifier, if present, holds. An evaluation in RUN, after the table event of its entry (R96),
then moves the rule as Table 30 gives and leaves every slot and input as it was; elsewhere, and of a DISABLED rule,
it does nothing. What a refill or a full list adds is stated with the expiries below. -/
def Obligations.NotValidAndQualifier : Prop :=
  (∀ (it : RuleItem) (held : Bool) (x : Slot), it.comparison = .notValid →
      (comparisonResult it held x = true ↔
        x.visibleStatus = .notAvailable ∨ x.visibleStatus = .stale ∨ x.visibleStatus = .outOfRange))
    ∧ (∀ (it : RuleItem) (held : Bool) (x : Slot), it.comparison ≠ .notValid →
        (x.visibleStatus = .valid ∨ x.visibleStatus = .substituted →
          (comparisonResult it held x = true ↔ Compares it held x.visibleValue))
        ∧ (x.visibleStatus = .notAvailable ∨ x.visibleStatus = .stale ∨ x.visibleStatus = .outOfRange →
          comparisonResult it held x = held))
    ∧ (∀ (q : Qualifier) (x : Slot),
        q.holds x = true ↔
          (x.visibleStatus = .valid ∨ x.visibleStatus = .substituted) ∧
            (match q.comparison with
            | .greater => q.threshold.toInt < x.visibleValue.toInt
            | .less => x.visibleValue.toInt < q.threshold.toInt
            | .equal => x.visibleValue = q.threshold
            | .notEqual => x.visibleValue ≠ q.threshold))
    ∧ (∀ (it : RuleItem) (slots : Vector Slot 96),
        it.qualified slots = true ↔ ∀ q, it.qualifier = some q → q.holds slots[q.slot] = true)
    ∧ (∀ (s : State) (r : Fin 48),
        s.pwc.power ≠ .run ∨ s.wre.tableTaken = false ∨ s.wre.rules[r].phase = .disabled →
        wreEvaluate r s = s)
    ∧ ∀ (s : State) (r : Fin 48), s.pwc.power = .run → s.wre.tableTaken = true →
        s.wre.rules[r].phase ≠ .disabled → ListAgrees s.wre →
        let it := s.cal.rules[r]
        let x := { s.wre.rules[r] with
          comparison := comparisonResult it s.wre.rules[r].comparison s.slots[it.signalSlot] }
        let t := wreEvaluate r s
        let stands (y : RuleState) : Prop := t.wre = { s.wre with rules := s.wre.rules.set r y }
        let acknowledged : Prop := ⟨r, true⟩ ∈ s.wre.list
        (x.comparison = true ∧ it.qualified s.slots = true →
          (x.phase = .idle → it.raiseDelay ≠ 0 →
            stands { x with phase := .raising, raiseTimer := startTimer s.pwc.uptime it.raiseDelay })
          ∧ (x.phase = .idle → it.raiseDelay = 0 → s.wre.list.length < 16 →
            t.wre.rules[r].phase = .active ∧ ⟨r, false⟩ ∈ t.wre.list
              ∧ t.wre.rules[r].confirmedTime = some s.pwc.uptime
              ∧ t.wre.rules[r].confirmedOdometer = some s.odometer ∧ NoticeOnAll flagWarnings t)
          ∧ (x.phase = .raising ∨ x.phase = .active ∨ x.phase = .suppressed → t = s.setWre t.wre ∧ stands x)
          ∧ (x.phase = .clearing → NoticeOnAll flagWarnings t ∧ stands { x with
              phase := .active, clearTimer := none
              reAnnounceTimer :=
                if acknowledged ∧ it.reAnnounce ≠ 0 ∧ it.cls ≠ .advise ∧ x.reAnnounceTimer = none then
                  startTimer s.pwc.uptime (it.reAnnounce * 60000)
                else x.reAnnounceTimer })
          ∧ (x.phase = .latched → NoticeOnAll flagWarnings t ∧ stands { x with
              phase := .active
              faultOpen := x.faultOpen || (it.faultCode.isSome && !it.substituted s.slots) }))
        ∧ (¬(x.comparison = true ∧ it.qualified s.slots = true) →
          (x.phase = .idle ∨ x.phase = .clearing ∨ x.phase = .latched → t = s.setWre t.wre ∧ stands x)
          ∧ (x.phase = .raising → stands (returned x))
          ∧ (x.phase = .active → it.clearDelay ≠ 0 → NoticeOnAll flagWarnings t ∧
            stands { x with phase := .clearing, clearTimer := startTimer s.pwc.uptime it.clearDelay })
          ∧ (x.phase = .active → it.clearDelay = 0 → it.latching = true → ¬acknowledged →
            NoticeOnAll flagWarnings t ∧ stands { x with
              phase := .latched, clearTimer := none, reAnnounceTimer := none, faultOpen := false })
          ∧ (x.phase = .active → it.clearDelay = 0 → it.latching = false ∨ acknowledged →
            t.wre.rules[r] = { returned x with faultOpen := false } ∧ (∀ y ∈ t.wre.list, y.rule ≠ r)
              ∧ NoticeOnAll flagWarnings t)
          ∧ (x.phase = .suppressed → stands { returned x with faultOpen := false }))
        ∧ t.slots = s.slots ∧ t.svc = s.svc ∧ SignalFrame s t ∧ SamePorts s t

/-- The Active Warning List stands in list order (R85). -/
def Sys2Proof.Claims.Ordered (s : State) : Prop := s.wre.list.Pairwise fun x y => Before s x.rule y.rule

/-- RAISE_TIMER_EXPIRY confirms a RAISING rule: confirmed time and odometer are recorded, and the fault opens with the
occurrence of its code at Fault Memory unless a slot of the rule is substituted. With a place in the list the rule is
ACTIVE with an unacknowledged entry, and the Output Unit is handed the summary. With a full list, whose last entry
list order makes the newest of the lowest class, that entry is displaced where its class is below the newcomer's, an
ACTIVE rule to SUPPRESSED and a CLEARING one to IDLE, with the end of its fault; otherwise the newcomer is SUPPRESSED
and the list stays. The list keeps its order. -/
def Obligations.RaiseExpiryConfirmsTheRule : Prop :=
  ∀ (s : State) (r : Fin 48), s.supply = true → ListAgrees s.wre → s.wre.rules[r].phase = .raising →
    timerDue s.wre.rules[r].raiseTimer s.pwc.uptime = true →
    ∃ t, exec (.raiseTimerExpiry r) s = .next t ∧
      t.wre.rules[r].raiseTimer = none
      ∧ t.wre.rules[r].confirmedTime = some s.pwc.uptime
      ∧ t.wre.rules[r].confirmedOdometer = some s.odometer
      ∧ (s.cal.rules[r].faultCode.isSome = true → s.cal.rules[r].substituted s.slots = false →
          t.wre.rules[r].faultOpen = true)
      ∧ (s.wre.list.length < 16 →
          t.wre.rules[r].phase = .active ∧ ⟨r, false⟩ ∈ t.wre.list
            ∧ t.wre.list.length = s.wre.list.length + 1 ∧ (∀ y ∈ s.wre.list, y ∈ t.wre.list)
            ∧ SummaryHanded t ∧ NoticeOnAll flagWarnings t ∧ ∀ q : Fin 48, q ≠ r → t.wre.rules[q] = s.wre.rules[q])
      ∧ (∀ last, s.wre.list.length = 16 → s.wre.list.getLast? = some last →
          let q := last.rule
          let x := s.wre.rules[q]
          (s.cal.rules[r].cls.rank < s.cal.rules[q].cls.rank →
            t.wre.rules[r].phase = .active ∧ ⟨r, false⟩ ∈ t.wre.list ∧ t.wre.list.length = 16
              ∧ (∀ y ∈ s.wre.list, y.rule ≠ q → y ∈ t.wre.list) ∧ (∀ y ∈ t.wre.list, y.rule ≠ q)
              ∧ (x.phase = .active →
                  t.wre.rules[q] = { x with phase := .suppressed, reAnnounceTimer := none })
              ∧ (x.phase = .clearing → t.wre.rules[q] = { returned x with faultOpen := false }
                  ∧ (s.flm.replayDone = true → x.faultOpen = true →
                      ∀ code, s.cal.rules[q].faultCode = some code → s.cal.rules[r].faultCode ≠ some code →
                        ∀ e ∈ t.flm.list, e.code = code → e.active = false))
              ∧ NoticeOnAll flagWarnings t
              ∧ ∀ k : Fin 48, k ≠ r → k ≠ q → t.wre.rules[k] = s.wre.rules[k])
          ∧ (s.cal.rules[q].cls.rank ≤ s.cal.rules[r].cls.rank →
            t.wre.rules[r].phase = .suppressed ∧ t.wre.list = s.wre.list
              ∧ ∀ k : Fin 48, k ≠ r → t.wre.rules[k] = s.wre.rules[k]))
      ∧ (s.flm.replayDone = true → InRange s.cal →
          ∀ code, s.cal.rules[r].faultCode = some code → s.cal.rules[r].substituted s.slots = false →
            HasPlace s.flm.list code →
            ∃ e ∈ t.flm.list, e.code = code ∧ e.source = .rule r ∧ e.active = true)
      ∧ (s.cal.rules[r].faultCode = none ∨ s.cal.rules[r].substituted s.slots = true →
          t.wre.rules[r].faultOpen = s.wre.rules[r].faultOpen
            ∧ (s.wre.list.length < 16 → t.flm = s.flm))
      ∧ (Ordered s → Ordered t)
      ∧ t.slots = s.slots ∧ t.svc = s.svc ∧ SignalFrame s t ∧ SamePorts s t

/-- CLEAR_TIMER_EXPIRY ends CLEARING: a latching rule with an unacknowledged entry is LATCHED and keeps its
entry, any other goes to IDLE and loses it; either way the end of an open fault reaches Fault Memory and the Output
Unit is handed the summary. The place is refilled with the SUPPRESSED rule that list order puts first, unacknowledged,
and no other rule changes. -/
def Obligations.ClearExpiryEndsClearing : Prop :=
  ∀ (s : State) (r : Fin 48), s.supply = true → ListAgrees s.wre → s.wre.rules[r].phase = .clearing →
    timerDue s.wre.rules[r].clearTimer s.pwc.uptime = true →
    let x := s.wre.rules[r]
    ∃ t, exec (.clearTimerExpiry r) s = .next t ∧
      (s.cal.rules[r].latching = true → (∀ y ∈ s.wre.list, y.rule = r → y.acknowledged = false) →
        t.wre = { s.wre with rules := s.wre.rules.set r { x with
          phase := .latched, clearTimer := none, reAnnounceTimer := none, faultOpen := false } })
      ∧ (s.cal.rules[r].latching = false ∨ (∃ y ∈ s.wre.list, y.rule = r ∧ y.acknowledged = true) →
        t.wre.rules[r] = { returned x with faultOpen := false } ∧ (∀ y ∈ t.wre.list, y.rule ≠ r)
        ∧ ((∀ q : Fin 48, s.wre.rules[q].phase ≠ .suppressed) →
            t.wre.list = s.wre.list.filter (fun y => y.rule ≠ r)
              ∧ ∀ k : Fin 48, k ≠ r → t.wre.rules[k] = s.wre.rules[k])
        ∧ ∀ b : Fin 48, s.wre.rules[b].phase = .suppressed →
            (∀ q : Fin 48, q ≠ b → s.wre.rules[q].phase = .suppressed → Before s b q) →
            t.wre.rules[b] = { s.wre.rules[b] with phase := .active, reAnnounceTimer := none }
              ∧ ⟨b, false⟩ ∈ t.wre.list ∧ t.wre.list.length = s.wre.list.length
              ∧ (∀ y ∈ s.wre.list, y.rule ≠ r → y ∈ t.wre.list)
              ∧ ∀ k : Fin 48, k ≠ r → k ≠ b → t.wre.rules[k] = s.wre.rules[k])
      ∧ (∀ code, s.cal.rules[r].faultCode = some code → x.faultOpen = true → s.flm.replayDone = true →
          ∀ e ∈ t.flm.list, e.code = code → e.active = false)
      ∧ (s.cal.rules[r].faultCode = none ∨ x.faultOpen = false → t.flm = s.flm)
      ∧ (Ordered s → Ordered t) ∧ SummaryHanded t
      ∧ NoticeOnAll flagWarnings t ∧ t.slots = s.slots ∧ t.svc = s.svc ∧ SignalFrame s t ∧ SamePorts s t

/-- RE_ANNOUNCE_TIMER_EXPIRY makes an acknowledged ACTIVE entry unacknowledged; for any other rule only the
timer stops. -/
def Obligations.ReAnnounceExpiryUnacknowledges : Prop :=
  ∀ (s : State) (r : Fin 48), s.supply = true →
    timerDue s.wre.rules[r].reAnnounceTimer s.pwc.uptime = true →
    ∃ t, exec (.reAnnounceTimerExpiry r) s = .next t ∧
      t.wre.rules = s.wre.rules.set r { s.wre.rules[r] with reAnnounceTimer := none }
      ∧ (s.wre.rules[r].phase = .active → (∃ x ∈ s.wre.list, x.rule = r ∧ x.acknowledged = true) →
          t.wre.list = s.wre.list.map (fun x => if x.rule = r then { x with acknowledged := false } else x)
            ∧ NoticeOnAll flagWarnings t ∧ t.flm = s.flm ∧ t.slots = s.slots ∧ t.svc = s.svc
            ∧ SignalFrame s t ∧ SamePorts s t)
      ∧ (s.wre.rules[r].phase ≠ .active → t = { s with wre := t.wre } ∧ t.wre.list = s.wre.list)

/-- ACK_WARNING of either form acknowledges the entries it names, removing those that are LATCHED, and answers
their count; a re-announce interval starts for an ACTIVE rule that has one. Every other entry and rule stays as it is,
but that the open places are refilled; the Output Unit is handed the summary of the list. A rule without an entry is
answered NO_SUCH_ENTRY, one whose entry is acknowledged ALREADY, and a form, rule number or class that is missing or
out of range BAD_ARGUMENT, each with nothing else changed. That either command carries out a request of no form is the
model's choice (log entry 18). -/
def Obligations.AcknowledgementActsOnTheNamedEntries : Prop :=
  ∀ (s : State) (req : Request), InHand s .cluster .ackWarning req → ListAgrees s.wre →
    (∀ (r : Fin 48) (rest : List Byte), req.payload = 0 :: numByte r.val :: rest → ⟨r, false⟩ ∈ s.wre.list →
      ∃ t, exec .ackWarningRule s = .next t ∧ Answered s t .cluster req .ok [1] ∧ Acknowledged s t r
        ∧ (PlacesRefilled s.wre → OthersRefill s t (fun k => k = r))
        ∧ SummaryHanded t
        ∧ NoticeOnAll flagWarnings t ∧ t.slots = s.slots ∧ t.svc = s.svc ∧ t.flm = s.flm ∧ SignalFrame s t)
    ∧ (∀ (cls : WarningClass) (rest : List Byte), req.payload = 1 :: numByte cls.rank :: rest →
      let named (r : Fin 48) : Prop := s.cal.rules[r].cls = cls ∧ ⟨r, false⟩ ∈ s.wre.list
      ∃ t, exec .ackWarningAllOfClass s = .next t
        ∧ Answered s t .cluster req .ok [numByte (s.wre.list.countP fun x =>
            !x.acknowledged && s.cal.rules[x.rule].cls == cls)]
        ∧ (∀ r, named r → Acknowledged s t r)
        ∧ (PlacesRefilled s.wre → OthersRefill s t named)
        ∧ ((∃ r, named r) → SummaryHanded t ∧ NoticeOnAll flagWarnings t)
        ∧ t.slots = s.slots ∧ t.svc = s.svc ∧ t.flm = s.flm ∧ SignalFrame s t)
    ∧ (let refused (i : Instr) (result : Result) : Prop :=
        exec i s = .next (answering s .cluster req result [])
      (∀ (r : Fin 48) (rest : List Byte), req.payload = 0 :: numByte r.val :: rest →
        ((∀ x ∈ s.wre.list, x.rule ≠ r) → refused .ackWarningRule .noSuchEntry)
        ∧ (⟨r, true⟩ ∈ s.wre.list → refused .ackWarningRule .already))
      ∧ (∀ rest, req.payload = 0 :: rest → (∀ b more, rest = b :: more → 47 < b.toNat) →
        refused .ackWarningRule .badArgument)
      ∧ (∀ rest, req.payload = 1 :: rest → (∀ b more, rest = b :: more → 2 < b.toNat) →
        refused .ackWarningAllOfClass .badArgument)
      ∧ ((∀ form rest, req.payload = form :: rest → 1 < form.toNat) →
        refused .ackWarningRule .badArgument ∧ refused .ackWarningAllOfClass .badArgument))

/-! ## Outputs (chapter 6) -/

/-- After every event at the Output Unit, with no output test: LAMP_DOOR is lit exactly in RUN and AFTERRUN
while a present door is not CLOSED_LOCKED or has its ramp out, and LAMP_STOPREQ exactly in RUN and AFTERRUN
while the latch copy is set; and, test or no test, DRIVE_INHIBIT is deasserted exactly while the power copy is
RUN, every present door CLOSED_LOCKED and no ramp of one out. -/
def Obligations.DoorLampAndDriveInhibitAreDecided : Prop :=
  ∀ (s : State) (event : Opu → Opu),
    let o := (s.opuEvent event).opu
    (o.testTarget = none →
      (o.outputs.lampDoor = true ↔ (o.power = .run ∨ o.power = .afterrun) ∧
        ∃ d : Fin 4, o.present[d] = true ∧ (o.doorStates[d] ≠ some .closedLocked ∨ o.ramps[d] = true))
      ∧ (o.outputs.lampStopReq = true ↔ (o.power = .run ∨ o.power = .afterrun) ∧ o.latch = true))
    ∧ (o.outputs.driveInhibit = false ↔ o.power = .run ∧
        (∀ d : Fin 4, o.present[d] = true → o.doorStates[d] = some .closedLocked)
        ∧ ∀ d : Fin 4, o.present[d] = true → o.ramps[d] = false)

/-- A flashing lamp under two items of the warning summary (R101): dark, lit, or flashing from a lit start; a lamp that
stays FLASHING keeps its phase and timer. -/
def Sys2Proof.Claims.lampUnder (x : LampState) (present unacknowledged : Bool) (now : Time) : LampState :=
  if present = false then ⟨.off, false, none⟩
  else if unacknowledged = false then ⟨.steady, true, none⟩
  else if x.mode = .flashing then x
  else ⟨.flashing, true, startTimer now 500⟩

/-- The present continuous claim of highest priority (Table 37). -/
def Sys2Proof.Claims.continuousClaim (o : Opu) : Option Claim :=
  if o.testTarget = some .chime then some .test
  else if o.summary.stopUnack then some .stopAlarm
  else if ∃ d : Fin 4, o.present[d] = true ∧ o.doorStates[d] = some .closing then some .doorClosing
  else none

/-- The chime after a change of continuous claims (R104): the highest claim present is granted from its first step,
unless it is granted already; with none present a continuous claim loses the chime. -/
def Sys2Proof.Claims.chimeUnder (o : Opu) (now : Time) : Chime :=
  match continuousClaim o with
  | some claim =>
    if o.chime.granted = some claim then o.chime
    else ⟨some claim, 0, startTimer now (if claim = .stopAlarm then 250 else 500)⟩
  | none =>
    if o.chime.granted = some .test ∨ o.chime.granted = some .stopAlarm ∨ o.chime.granted = some .doorClosing then
      ⟨none, 0, none⟩
    else o.chime

/-- A new summary or door state decides LAMP_STOP, LAMP_CAUTION and the granted claim in RUN and AFTERRUN. STOP_DING,
with a setting of the latch, is granted where no continuous claim is present and the granted claim is NONE or
CAUTION_NEW, and CAUTION_NEW where it is NONE; each is dropped otherwise. The chime sounds at the even steps of a
pattern. In START and SLEEP no lamp and no claim is decided.
FLASH_TIMER_EXPIRY toggles a FLASHING lamp and starts its 500 ms again; CADENCE_TIMER_EXPIRY goes to the
next step of the granted pattern or to its end; FALLBACK_TIMER_EXPIRY makes the regime FOLLOWING, with
OPEN_ENABLE by the parking-brake slot. A live change of a role slot in RUN and AFTERRUN decides OPEN_ENABLE: by the
thresholds with their band while the speed is VALID (TRACKING), held for 2,000 ms at a loss (HOLDING), by the
parking-brake slot after that and without a speed slot (FOLLOWING); in START and SLEEP it decides nothing. Only the
Output Unit changes. -/
def Obligations.OutputTimersExpire : Prop :=
  (∀ (s : State) (o : Opu) (t : State),
    let deciding : Prop := o.power = .run ∨ o.power = .afterrun
    (∃ sm, o = { s.opu with summary := sm } ∧ t = opuSummary sm s)
      ∨ (∃ (d : Fin 4) (st : DoorState), o = { s.opu with doorStates := s.opu.doorStates.set d (some st) }
        ∧ t = opuDoorState d st s) →
    t = { s with opu := t.opu }
    ∧ (deciding → t.opu = { o with
        lampStop := lampUnder o.lampStop o.summary.stopPresent o.summary.stopUnack s.pwc.uptime
        lampCaution := lampUnder o.lampCaution o.summary.cautionPresent o.summary.cautionUnack s.pwc.uptime
        chime := chimeUnder o s.pwc.uptime, outputs := t.opu.outputs }
      ∧ (o.testTarget = none → t.opu.outputs.lampStop = t.opu.lampStop.lit
        ∧ t.opu.outputs.lampCaution = t.opu.lampCaution.lit)
      ∧ (t.opu.outputs.chime = true ↔ t.opu.chime.granted ≠ none ∧ t.opu.chime.position % 2 = 0))
    ∧ (¬deciding → t.opu = { o with outputs := t.opu.outputs }))
  ∧ (∀ (s : State) (set ding : Bool),
    let o := s.opu
    let t := opuLatch set ding s
    let u := opuCautionNew s
    let free : Prop := (o.power = .run ∨ o.power = .afterrun) ∧ continuousClaim o = none
    t = { s with opu := t.opu }
    ∧ t.opu = { o with latch := set, chime := t.opu.chime, outputs := t.opu.outputs }
    ∧ (ding = true → free → o.chime.granted = none ∨ o.chime.granted = some .cautionNew →
      t.opu.chime = ⟨some .stopDing, 0, startTimer s.pwc.uptime 150⟩)
    ∧ (ding = false ∨ ¬free ∨ (o.chime.granted ≠ none ∧ o.chime.granted ≠ some .cautionNew) →
      t.opu.chime = o.chime)
    ∧ u = { s with opu := u.opu }
    ∧ u.opu = { o with chime := u.opu.chime, outputs := u.opu.outputs }
    ∧ (free → o.chime.granted = none → u.opu.chime = ⟨some .cautionNew, 0, startTimer s.pwc.uptime 100⟩)
    ∧ (¬free ∨ o.chime.granted ≠ none → u.opu.chime = o.chime))
  ∧ ∀ s : State, s.supply = true →
    (s.opu.lampStop.mode = .flashing → timerDue s.opu.lampStop.timer s.pwc.uptime = true →
      ∃ t, exec (.flashTimerExpiry .stop) s = .next t ∧ t = { s with opu := t.opu }
        ∧ t.opu = { s.opu with
            lampStop := ⟨.flashing, !s.opu.lampStop.lit, startTimer s.pwc.uptime 500⟩
            outputs := t.opu.outputs }
        ∧ (s.opu.power = .run → s.opu.testTarget = none → t.opu.outputs.lampStop = !s.opu.lampStop.lit))
    ∧ (s.opu.lampCaution.mode = .flashing → timerDue s.opu.lampCaution.timer s.pwc.uptime = true →
      ∃ t, exec (.flashTimerExpiry .caution) s = .next t ∧ t = { s with opu := t.opu }
        ∧ t.opu = { s.opu with
            lampCaution := ⟨.flashing, !s.opu.lampCaution.lit, startTimer s.pwc.uptime 500⟩
            outputs := t.opu.outputs }
        ∧ (s.opu.power = .run → s.opu.testTarget = none →
            t.opu.outputs.lampCaution = !s.opu.lampCaution.lit))
    ∧ (∀ claim, s.opu.chime.granted = some claim → timerDue s.opu.chime.cadence s.pwc.uptime = true →
      ∃ t, exec .cadenceTimerExpiry s = .next t ∧ t = { s with opu := t.opu }
        ∧ t.opu = { s.opu with chime := t.opu.chime, outputs := t.opu.outputs }
        ∧ t.opu.chime =
            (let next := s.opu.chime.position + 1
            match claim with
            | .stopAlarm => ⟨some .stopAlarm, next % 2, startTimer s.pwc.uptime 250⟩
            | .test => ⟨some .test, next % 2, startTimer s.pwc.uptime 500⟩
            | .doorClosing => ⟨some .doorClosing, next % 2, startTimer s.pwc.uptime 500⟩
            | .stopDing => ⟨none, 0, none⟩
            | .cautionNew =>
              if next < 5 then ⟨some .cautionNew, next, startTimer s.pwc.uptime 100⟩ else ⟨none, 0, none⟩)
        ∧ (s.opu.power = .run →
            (t.opu.outputs.chime = true ↔ t.opu.chime.granted ≠ none ∧ t.opu.chime.position % 2 = 0)))
    ∧ (timerDue s.opu.fallback s.pwc.uptime = true →
      ∃ t, exec .fallbackTimerExpiry s = .next t ∧ t = { s with opu := t.opu }
        ∧ t.opu.regime = .following ∧ t.opu.fallback = none
        ∧ (t.opu.openEnable = true ↔
            s.opu.brake.configured = true ∧ s.opu.brake.status = .valid ∧ s.opu.brake.value = 1)
        ∧ t.opu = { s.opu with
            regime := .following, fallback := none, openEnable := t.opu.openEnable
            outputs := t.opu.outputs })
    ∧ ∀ (i : Fin 96) (v : Value) (st : LiveStatus),
        s.cal.general.speedSlot = some i ∨ s.cal.general.brakeSlot = some i →
        let t := opuLiveChange i v st s
        let o := s.opu
        let speed := if s.cal.general.speedSlot = some i then ⟨true, v, st⟩ else o.speed
        let brake := if s.cal.general.brakeSlot = some i then ⟨true, v, st⟩ else o.brake
        let decides (regime : Regime) (fallback : Timer) (enable : Bool) : Prop :=
          t.opu = { o with
            speed := speed, brake := brake, regime := regime, fallback := fallback, openEnable := enable
            outputs := t.opu.outputs }
          ∧ t.opu.outputs.openEnable = enable
        let applied : Bool := brake.configured && brake.status == .valid && brake.value == 1
        t = { s with opu := t.opu }
        ∧ (o.power = .run ∨ o.power = .afterrun →
          (speed.configured = false → decides .following none applied)
          ∧ (speed.configured = true → speed.status = .valid →
            (speed.value.toInt ≤ o.openLow.toInt → decides .tracking none true)
            ∧ (o.openLow.toInt < speed.value.toInt → o.openHigh.toInt < speed.value.toInt →
              decides .tracking none false)
            ∧ (o.openLow.toInt < speed.value.toInt → speed.value.toInt ≤ o.openHigh.toInt →
              decides .tracking none o.openEnable))
          ∧ (speed.configured = true → speed.status ≠ .valid →
            (o.regime = .tracking → decides .holding (startTimer s.pwc.uptime 2000) o.openEnable)
            ∧ (o.regime = .holding → decides .holding o.fallback o.openEnable)
            ∧ (o.regime = .following → decides .following none applied)))
        ∧ (o.power = .start ∨ o.power = .sleep →
          t.opu = { o with speed := speed, brake := brake, outputs := t.opu.outputs }
            ∧ t.opu.outputs.openEnable = false)

/-! ## Doors (chapter 7) -/

/-- OPEN_LIMIT_EXPIRY is FAULT with OPEN_TIMEOUT, CLOSE_LIMIT_EXPIRY FAULT with CLOSE_TIMEOUT, each with the
occurrence of E200h + 8 × d + reason for a door without a fault before, and SETTLE_TIMER_EXPIRY OPEN, which clears
the stop-request latch; every timer of the door stops, the Output Unit takes the state, the slots bound to the door
take its number, the DOORS notice is set, and no other door changes. -/
def Obligations.DoorTimersExpire : Prop :=
  ∀ (s : State) (d : Fin 4), s.supply = true →
    let x := s.drs.doors[d]
    let bound (i : Fin 96) : Prop :=
      s.slots[i].kind = .door ∧ s.slots[i].index = some (d.castLE (by omega))
    let becomes (t : State) (y : DoorRecord) : Prop :=
      t.drs.doors = s.drs.doors.set d y ∧ t.opu.doorStates[d] = some y.state
        ∧ (∀ i : Fin 96, bound i →
            t.slots[i].liveStatus = .valid ∧ t.slots[i].liveValue = BitVec.ofNat 32 y.state.number)
        ∧ NoticeOnAll flagDoors t ∧ DoorFrame s t ∧ SamePorts s t
    let reported (t : State) (reason : Nat) : Prop :=
      let code := BitVec.ofNat 16 (0xE200 + 8 * d.val + reason)
      x.reason = none → s.flm.replayDone = true → Unwatched s bound → HasPlace s.flm.list code →
        ∃ e ∈ t.flm.list, e.code = code ∧ e.source = .door d ∧ e.active = true
    (timerDue x.openLimit s.pwc.uptime = true →
      ∃ t, exec (.openLimitExpiry d) s = .next t ∧ t.drs.latch = s.drs.latch ∧ reported t 1 ∧
        becomes t { x with
          state := .fault, reason := some .openTimeout, openLimit := none, settle := none
          closeLimit := none })
    ∧ (timerDue x.closeLimit s.pwc.uptime = true →
      ∃ t, exec (.closeLimitExpiry d) s = .next t ∧ t.drs.latch = s.drs.latch ∧ reported t 2 ∧
        becomes t { x with
          state := .fault, reason := some .closeTimeout, openLimit := none, settle := none
          closeLimit := none })
    ∧ (timerDue x.settle s.pwc.uptime = true →
      ∃ t, exec (.settleTimerExpiry d) s = .next t ∧ t.drs.latch = false ∧
        becomes t { x with
          state := .doorOpen, reason := none, openLimit := none, settle := none, closeLimit := none })

/-! ## Faults and the store (chapters 8, 9) -/

/-- The entry that the replay or a full list gives up (R141, R173): of those that may go, the largest aging, the
earliest among equals. -/
def Sys2Proof.Claims.GivesWay (l before after : List FaultEntry) (old : FaultEntry) (may : FaultEntry → Prop) : Prop :=
  l = before ++ old :: after ∧ may old ∧ (∀ e ∈ before, may e → e.aging < old.aging)
    ∧ ∀ e ∈ after, may e → e.aging ≤ old.aging

/-- A report after the replay: an occurrence of a listed code updates its entry in place; of a new code, with fewer
than 32 entries, it makes an entry after the last; of a new code with a full list, it replaces the STORED entry with
the largest aging, the earliest among equals, or, with every entry ACTIVE, sets the overflow mark alone; an entry of
E300h to E400h is STORED at once. An end makes an ACTIVE entry STORED, and changes nothing otherwise. The aging step
of an ignition-on ages every STORED entry, which leaves at the limit. Each change raises the generation by 1 and
sets the FAULTS notice. Before the replay a report is held, one member per code; after it the members are applied in
table order, each as occurrences of the number held, or as an end. The replay takes ENTRY and REMOVE records in turn,
gives up entries while more than 32 remain, and makes every entry STORED. -/
def Obligations.FaultReportsActOnTheList : Prop :=
  ∀ (s : State) (code : BitVec 16) (source : FaultSource), s.flm.replayDone = true → FaultsBounded s →
    let stays : Bool := !decide (0xE300 ≤ code.toNat ∧ code.toNat ≤ 0xE400)
    let listed : Prop := ∃ e ∈ s.flm.list, e.code = code
    let t := flmReport (.occurrence code source) s
    let changed (t : State) (f : Flm) (jobs : List Job) : Prop :=
      t.flm = { f with generation := s.flm.generation + 1 } ∧ NoticeOnAll flagFaults t
        ∧ (∀ j ∈ jobs, j ∈ t.rst.queue ∨ Job.faultRewrite ∈ t.rst.queue)
        ∧ t.rst = { s.rst with queue := t.rst.queue } ∧ SamePorts s t
    let fresh : FaultEntry :=
      { code := code, source := source, active := stays, occurrences := 1
        firstOdometer := s.odometer, lastOdometer := s.odometer
        firstIgnition := s.pwc.ignitionCycles, lastIgnition := s.pwc.ignitionCycles
        aging := 0, freeze := s.freezeFrame }
    (∀ (u : State) (r : Report), u.flm.replayDone = false →
      let code := match r with | .occurrence code _ => code | .ended code => code
      let added (m : HeldReport) : HeldReport := match r with
        | .occurrence _ source =>
          { m with source := some source, lastIsEnd := false
                   number := if m.number = 255 then 255 else m.number + 1 }
        | .ended _ => { m with lastIsEnd := true }
      flmReport r u = u.setFlm { u.flm with held :=
        if ∃ m ∈ u.flm.held, m.code = code then u.flm.held.map fun m => if m.code = code then added m else m
        else u.flm.held ++ [added ⟨code, none, 0, false⟩] })
    ∧ (∀ (u : State) (before : List HeldReport) (m : HeldReport), u.flm.held = before ++ [m] →
      let v := flmApplyHeld (u.setFlm { u.flm with held := before })
      let t := flmApplyHeld u
      let becomes (list : List FaultEntry) : Prop :=
        t.flm = { v.flm with list := list, generation := v.flm.generation + 1 } ∧ NoticeOnAll flagFaults t
          ∧ (Job.faultAppend m.code ∈ t.rst.queue ∨ Job.faultRewrite ∈ t.rst.queue)
      let remains : Bool := !m.lastIsEnd && !decide (0xE300 ≤ m.code.toNat ∧ m.code.toNat ≤ 0xE400)
      let known : Prop := ∃ e ∈ v.flm.list, e.code = m.code
      (∀ source, m.source = some source →
        let made : FaultEntry :=
          { code := m.code, source := source, active := remains, occurrences := m.number
            firstOdometer := v.odometer, lastOdometer := v.odometer
            firstIgnition := v.pwc.ignitionCycles, lastIgnition := v.pwc.ignitionCycles
            aging := 0, freeze := v.freezeFrame }
        (known → becomes (v.flm.list.map fun e =>
          if e.code = m.code then
            { e with
              active := remains, source := source, aging := 0
              occurrences := if e.occurrences.toNat + m.number.toNat ≤ 255 then e.occurrences + m.number else 255
              lastOdometer := v.odometer, lastIgnition := v.pwc.ignitionCycles }
          else e))
        ∧ (¬known → v.flm.list.length < 32 → becomes (v.flm.list ++ [made]))
        ∧ (∀ before after old, ¬known → v.flm.list.length = 32 → (v.flm.list.map FaultEntry.code).Nodup →
          GivesWay v.flm.list before after old (fun e => e.active = false) → becomes (before ++ after ++ [made])))
      ∧ (m.source = none → (∃ e ∈ v.flm.list, e.code = m.code ∧ e.active = true) →
        becomes (v.flm.list.map fun e => if e.code = m.code then { e with active := false } else e))
      ∧ (m.source = none → (∀ e ∈ v.flm.list, e.code = m.code → e.active = false) → t = v))
    ∧ (∀ u : State, flmApplyHeld (u.setFlm { u.flm with held := [] }) = u.setFlm { u.flm with held := [] })
    ∧ (∀ (l : List FaultEntry) (u : State), flmReplay l u = u.setFlm { u.flm with
        list := l.map fun e => { e with active := false }
        generation := 0, overflow := false, replayDone := true })
    ∧ (∀ (l : List FaultEntry) (e : FaultEntry),
      replayRecord l (padded (entryContent e)) =
        if ∃ x ∈ l, x.code = e.code then l.map fun x => if x.code = e.code then e else x else l ++ [e])
    ∧ (∀ (l : List FaultEntry) (gone : BitVec 16),
      replayRecord l (padded (3 :: bytes16 gone)) = l.filter fun x => x.code ≠ gone)
    ∧ (∀ (l : List FaultEntry) (kind : Byte) (rest : List Byte), kind ≠ 2 → kind ≠ 3 →
      replayRecord l (kind :: rest) = l)
    ∧ (∀ (n : Nat) (l before after : List FaultEntry) (old : FaultEntry), (l.map FaultEntry.code).Nodup →
      (l.length ≤ 32 → trimReplay n l = l)
      ∧ (32 < l.length → GivesWay l before after old (fun _ => True) →
        trimReplay (n + 1) l = trimReplay n (before ++ after)))
    ∧ (listed →
      changed t { s.flm with list := s.flm.list.map fun e =>
        if e.code = code then
          { e with
            active := stays, source := source, aging := 0
            occurrences := if e.occurrences = 255 then 255 else e.occurrences + 1
            lastOdometer := s.odometer, lastIgnition := s.pwc.ignitionCycles }
        else e } [.faultAppend code])
    ∧ (¬listed → s.flm.list.length < 32 →
      changed t { s.flm with list := s.flm.list ++ [fresh] } [.faultAppend code])
    ∧ (∀ before old after, ¬listed → s.flm.list.length = 32 →
      GivesWay s.flm.list before after old (fun e => e.active = false) →
      changed t { s.flm with list := before ++ after ++ [fresh] } [.faultAppend old.code, .faultAppend code])
    ∧ (¬listed → s.flm.list.length = 32 → (∀ e ∈ s.flm.list, e.active = true) →
      (s.flm.overflow = false → changed t { s.flm with overflow := true } [] ∧ t.rst.queue = s.rst.queue)
      ∧ (s.flm.overflow = true → t = s))
    ∧ ((∃ e ∈ s.flm.list, e.code = code ∧ e.active = true) →
      changed (flmReport (.ended code) s) { s.flm with list := s.flm.list.map fun e =>
        if e.code = code then { e with active := false } else e } [.faultAppend code])
    ∧ ((∀ e ∈ s.flm.list, e.code = code → e.active = false) → flmReport (.ended code) s = s)
    ∧ ((∃ e ∈ s.flm.list, e.active = false) →
      let aged (e : FaultEntry) : Option FaultEntry :=
        let aging := if e.aging = 255 then 255 else e.aging + 1
        if e.active then some e
        else if s.cal.general.agingLimit ≤ aging then none
        else some { e with aging := aging }
      changed (flmAging s) { s.flm with list := s.flm.list.filterMap aged } [.faultRewrite])
    ∧ ((∀ e ∈ s.flm.list, e.active = true) → flmAging s = s)

/-- A request that would be queued while the queue holds 8 distinct jobs first turns the queued FAULT_APPENDs
into one FAULT_REWRITE at the end: a FAULT_APPEND is absorbed by it, a COUNTER_SAVE or CALIB_WRITE queued
after it; and the queue stays within 8 distinct jobs. -/
def Obligations.FullQueueTurnsItsAppends : Prop :=
  ∀ (q : List Job), q.Nodup →
    (∀ j, (enqueue q j).length ≤ 8 ∧ (enqueue q j).Nodup)
    ∧ (q.length = 8 →
      let turned := (q.filter fun k => match k with | .faultAppend _ => false | _ => true)
        ++ (if Job.faultRewrite ∈ q then [] else [Job.faultRewrite])
      (∀ code, Job.faultAppend code ∉ q → Job.faultRewrite ∉ q →
        enqueue q (.faultAppend code) = turned)
      ∧ (Job.counterSave ∉ q → enqueue q .counterSave = turned ++ [.counterSave])
      ∧ (Job.calibWrite ∉ q → enqueue q .calibWrite = turned ++ [.calibWrite]))

/-- The first block in a state in cyclic order after a block of its area, which has `count` blocks from number `first`
(R154, R158). -/
def Sys2Proof.Claims.NextBlock (s : State) (first count after : Nat) (st : BlockState) (b : Fin 16) : Prop :=
  ∃ k < count, b.val = first + (after - first + 1 + k) % count ∧ s.rst.blocks[b].state = st
    ∧ ∀ m < k, ∀ c : Fin 16, c.val = first + (after - first + 1 + m) % count → s.rst.blocks[c].state ≠ st

/-- No block of an area is in a state. -/
def Sys2Proof.Claims.NoBlock (s : State) (first count : Nat) (st : BlockState) : Prop :=
  ∀ b : Fin 16, first ≤ b.val → b.val < first + count → s.rst.blocks[b].state ≠ st

/-- A rewrite begins at step 1 (R158): the next ERASED block is FILLING and its header under way with the next
block sequence, which is then used (log entry 21); without one the first STALE block is erased; without either the
area is READ_ONLY and the job dropped, with STORE notice and occurrence of E300h + area (R167). -/
def Sys2Proof.Claims.RewriteBegins (s t : State) (area : Area) (first count after : Nat) (queue : List Job)
    (job : Job) (data : JobData) : Prop :=
  let number := match area with | .calibration => 0 | .counters => 1 | .faults => 2
  let code := BitVec.ofNat 16 (0xE300 + number)
  (∀ b, NextBlock s first count after .erased b →
    ∃ j, t.rst.controller = .running j ∧ j.job = job ∧ j.data = data
      ∧ j.task = .header s.rst.nextBlockSeq
      ∧ j.op = .program b 0 (numByte number :: bytes32 s.rst.nextBlockSeq)
      ∧ t.rst.nextBlockSeq = (if s.rst.nextBlockSeq = BitVec.allOnes 32 then BitVec.allOnes 32
          else s.rst.nextBlockSeq + 1)
      ∧ t.rst.blocks = s.rst.blocks.set b { s.rst.blocks[b] with state := .filling } ∧ t.rst.queue = queue)
  ∧ (∀ b, NoBlock s first count .erased → NextBlock s first count after .stale b →
    ∃ j, t.rst.controller = .running j ∧ j.job = job ∧ j.data = data ∧ j.task = .staleErase ∧ j.op = .erase b
      ∧ t.rst.blocks = s.rst.blocks ∧ t.rst.queue = queue)
  ∧ (NoBlock s first count .erased → NoBlock s first count .stale →
    t.rst.controller = .idle ∧ NoticeOnAll flagStore t ∧ t.rst.blocks = s.rst.blocks
      ∧ t.rst.readOnly = (match area with
        | .calibration => { s.rst.readOnly with calibration := true }
        | .counters => { s.rst.readOnly with counters := true }
        | .faults => { s.rst.readOnly with faults := true })
      ∧ (s.flm.replayDone = true → HasPlace s.flm.list code →
          ∃ e ∈ t.flm.list, e.code = code ∧ e.source = .store ∧ e.active = false))

/-- FLASH_JOB_TAKEN, with the controller IDLE in RUN or AFTERRUN, takes the job that R162 chooses. A COUNTER_SAVE
or FAULT_APPEND with room in the OPEN block programs its record there, the COUNTER record with the next counter
sequence, which is then used (log entry 21); without room, and for a FAULT_REWRITE, a rewrite begins. A CALIB_WRITE
erases its block. A job of a READ_ONLY area is dropped. BACKGROUND_ERASE_START with an empty queue starts the erase
of the lowest STALE block. -/
def Obligations.JobsAndErasesStart : Prop :=
  ∀ s : State, s.supply = true → s.pwc.power = .run ∨ s.pwc.power = .afterrun →
    s.rst.controller = .idle →
    let counter := 1#8 :: bytes32 s.rst.nextCounterSeq ++ bytes32 s.ccu.odometer.count
      ++ bytes32 s.ccu.hours.count ++ bytes32 s.drs.doors[0].cycles ++ bytes32 s.drs.doors[1].cycles
      ++ bytes32 s.drs.doors[2].cycles ++ bytes32 s.drs.doors[3].cycles ++ bytes16 s.pwc.ignitionCycles
    let chosen (job : Job) (rest : List Job) : Prop :=
      ∃ before after, s.rst.queue = before ++ job :: after ∧ rest = before ++ after
        ∧ ((job = .counterSave ∧ s.pwc.power = .afterrun ∧ job ∉ before)
          ∨ ((s.pwc.power = .run ∨ Job.counterSave ∉ s.rst.queue) ∧ job ≠ .calibWrite
            ∧ ∀ j ∈ before, j = .calibWrite)
          ∨ (job = .calibWrite ∧ before = [] ∧ ∀ j ∈ after, j = .calibWrite))
    let closed (area : Area) : Bool := match area with
      | .calibration => s.rst.readOnly.calibration
      | .counters => s.rst.readOnly.counters
      | .faults => s.rst.readOnly.faults
    (∀ (rest : List Job) (b : Fin 16), chosen .counterSave rest → closed .counters = false →
      s.rst.openBlock .counters = some b → s.rst.blocks[b].writePoint ≤ 62 →
      ∃ t j, exec .flashJobTaken s = .next t
        ∧ t = { s with rst := { s.rst with
            queue := rest, controller := .running j
            nextCounterSeq := if s.rst.nextCounterSeq = BitVec.allOnes 32 then BitVec.allOnes 32
              else s.rst.nextCounterSeq + 1 } }
        ∧ j.job = .counterSave ∧ j.task = .append
        ∧ ∃ k : Fin 64, k.val = s.rst.blocks[b].writePoint ∧ j.op = .program b k counter)
    ∧ (∀ (code : BitVec 16) (rest : List Job) (b : Fin 16), chosen (.faultAppend code) rest →
      closed .faults = false → s.rst.openBlock .faults = some b → s.rst.blocks[b].writePoint ≤ 62 →
      ∃ t j k content, exec .flashJobTaken s = .next t
        ∧ t = { s with rst := { s.rst with queue := rest, controller := .running j } }
        ∧ j.job = .faultAppend code ∧ j.task = .append ∧ j.op = .program b k content
        ∧ k.val = s.rst.blocks[b].writePoint
        ∧ (FaultsBounded s → ∀ e ∈ s.flm.list, e.code = code → content = 2 :: e.bytes)
        ∧ ((∀ e ∈ s.flm.list, e.code ≠ code) → content = 3 :: bytes16 code))
    ∧ (∀ (job : Job) (rest : List Job) (area : Area) (first count : Nat) (data : JobData), chosen job rest →
      closed area = false →
      ((job = .faultRewrite ∨ ((∃ code, job = .faultAppend code)
            ∧ ∀ b, s.rst.openBlock .faults = some b → 62 < s.rst.blocks[b].writePoint))
          ∧ area = .faults ∧ first = 6 ∧ count = 10 ∧ data = .faults s.flm.list)
        ∨ ((job = .counterSave ∧ ∀ b, s.rst.openBlock .counters = some b → 62 < s.rst.blocks[b].writePoint)
          ∧ area = .counters ∧ first = 2 ∧ count = 4 ∧ data = .counter s.counterValues) →
      ∃ t, exec .flashJobTaken s = .next t
        ∧ (∀ b, s.rst.openBlock area = some b → RewriteBegins s t area first count b.val rest job data)
        ∧ (s.rst.openBlock area = none → RewriteBegins s t area first count first rest job data))
    ∧ (∀ rest : List Job, chosen .calibWrite rest → closed .calibration = false →
      ∃ t, exec .flashJobTaken s = .next t
        ∧ (∀ b : Fin 16, b = (if s.rst.blocks[0].state = .bad then 1 else 0) → s.rst.blocks[b].state ≠ .bad →
          ∃ j, t = { s with rst := { s.rst with
              queue := rest, controller := .running j, blocks := s.rst.blocks.set b ⟨.filling, 0, none⟩ } }
            ∧ j.job = .calibWrite ∧ j.data = .image s.cal ∧ j.task = .calibrationErase ∧ j.op = .erase b)
        ∧ (s.rst.blocks[0].state = .bad → s.rst.blocks[1].state = .bad →
          t.rst.controller = .idle ∧ t.rst.readOnly = { s.rst.readOnly with calibration := true }
            ∧ NoticeOnAll flagStore t
            ∧ (s.flm.replayDone = true → HasPlace s.flm.list 0xE300 →
              ∃ e ∈ t.flm.list, e.code = 0xE300 ∧ e.source = .store ∧ e.active = false)))
    ∧ (∀ (job : Job) (rest : List Job), chosen job rest → closed job.area = true →
      ∃ t, exec .flashJobTaken s = .next t ∧ t.rst = { s.rst with queue := rest } ∧ t.flm = s.flm)
    ∧ (∀ b : Fin 16, s.rst.queue = [] → s.rst.blocks[b].state = .stale →
      (∀ c : Fin 16, c < b → s.rst.blocks[c].state ≠ .stale) →
      exec .backgroundEraseStart s
        = .next { s with rst := { s.rst with controller := .erasing (.erase b) } })

/-- A block whose slots have been erased reads erased, every other slot as before, and no newest COUNTER record stands
in it (R158, R168). -/
def Sys2Proof.Claims.ErasedIn (s t : State) (b : Fin 16) : Prop :=
  (∀ n, t.rst.flash.read n = if n / 64 = b.val then none else s.rst.flash.read n)
    ∧ ((∃ k, s.rst.newestCounter = some (b, k)) → t.rst.newestCounter = none)
    ∧ ((∀ k, s.rst.newestCounter ≠ some (b, k)) → t.rst.newestCounter = s.rst.newestCounter)

/-- A calibration write begins on a block, or again on the other: B0 or, where that is BAD, B1 is FILLING under its
erase; with both BAD the area is READ_ONLY and the job dropped, with STORE notice and occurrence of E300h (R164,
R167). -/
def Sys2Proof.Claims.CalibrationBegins (s t : State) (queue : List Job) (data : JobData) : Prop :=
  (∀ b : Fin 16, b = (if s.rst.blocks[0].state = .bad then 1 else 0) → s.rst.blocks[b].state ≠ .bad →
    ∃ j, t.rst.controller = .running j ∧ j.job = .calibWrite ∧ j.data = data ∧ j.task = .calibrationErase
      ∧ j.op = .erase b ∧ t.rst.blocks = s.rst.blocks.set b ⟨.filling, 0, none⟩ ∧ t.rst.queue = queue)
  ∧ (s.rst.blocks[0].state = .bad → s.rst.blocks[1].state = .bad →
    t.rst.controller = .idle ∧ t.rst.readOnly = { s.rst.readOnly with calibration := true } ∧ NoticeOnAll flagStore t
      ∧ (s.flm.replayDone = true → HasPlace s.flm.list 0xE300 →
        ∃ e ∈ t.flm.list, e.code = 0xE300 ∧ e.source = .store ∧ e.active = false))

/-- FLASH_OPERATION_END. PASS of an append: the slot holds the content and its check, every other slot reads
as before, the write point moves on, a COUNTER record becomes the newest, and the controller is IDLE. PASS of an erase:
the block's slots are erased, every other slot reads as before, and no newest COUNTER record stands in the block; after
a background erase it is ERASED, and within a job it is FILLING and its header follows with the next block sequence.
PASS within a rewrite: after the header the image from slot 1, after its last record IMAGE_END, at whose PASS the block
is OPEN and the one before STALE; a COUNTER image is the newest record by copy-back with the job's own to follow, or
that one alone. FAIL of an operation: the block is BAD, its marker program follows, and no slot outside the block
changes; a FAIL of the marker program leaves the array as it is. After a marker program, PASS or FAIL, the job goes on:
a rewrite chooses its block after the failed one, or after the same block as before where a STALE block could not be
erased, with what the job holds or, after a failed FAULT_APPEND, with the list as it then stands; a calibration write
begins again on the block that is left. That a block keeps its sequence after a failed erase too is the model's choice
(log entry 42), and so is the moment at which a block sequence is used (log entry 21). -/
def Obligations.OperationEndLeavesTheArray : Prop :=
  ∀ s : State, s.supply = true →
    (∀ (j : RunningJob) (b : Fin 16) (k : Fin 64) (content : List Byte),
      s.rst.controller = .running j → j.task = .append → j.op = .program b k content →
      ∃ t, exec (.flashOperationEnd true) s = .next t ∧ t.rst.controller = .idle
        ∧ t.rst.flash.read (64 * b.val + k.val) = some (slotOf content)
        ∧ (∀ n, n ≠ 64 * b.val + k.val → t.rst.flash.read n = s.rst.flash.read n)
        ∧ t.rst.blocks = s.rst.blocks.set b
            { s.rst.blocks[b] with writePoint := s.rst.blocks[b].writePoint + 1 }
        ∧ (∀ v, j.data = .counter v → k.val = s.rst.blocks[b].writePoint → t.rst.newestCounter = some (b, k))
        ∧ ((∀ v, j.data ≠ .counter v) → t.rst.newestCounter = s.rst.newestCounter)
        ∧ SameBase s t ∧ t.ccu.odometer = s.ccu.odometer ∧ t.ccu.hours = s.ccu.hours)
    ∧ (∀ b : Fin 16, s.rst.controller = .erasing (.erase b) →
      ∃ t, exec (.flashOperationEnd true) s = .next t ∧ t.rst.controller = .idle ∧ ErasedIn s t b
        ∧ t.rst.blocks = s.rst.blocks.set b ⟨.erased, 0, none⟩ ∧ SameBase s t)
    ∧ (∀ (j : RunningJob) (b : Fin 16) (area : Area), s.rst.controller = .running j → j.op = .erase b →
      (j.task = .staleErase ∧ area = j.job.area) ∨ (j.task = .calibrationErase ∧ area = .calibration) →
      let number := match area with | .calibration => 0 | .counters => 1 | .faults => 2
      ∃ t j', exec (.flashOperationEnd true) s = .next t ∧ t.rst.controller = .running j' ∧ ErasedIn s t b
        ∧ t.rst.blocks = s.rst.blocks.set b ⟨.filling, 0, none⟩
        ∧ j'.job = j.job ∧ j'.data = j.data ∧ j'.task = .header s.rst.nextBlockSeq
        ∧ j'.op = .program b 0 (numByte number :: bytes32 s.rst.nextBlockSeq)
        ∧ t.rst.nextBlockSeq = (if s.rst.nextBlockSeq = BitVec.allOnes 32 then BitVec.allOnes 32
            else s.rst.nextBlockSeq + 1)
        ∧ t.rst.queue = s.rst.queue ∧ SameBase s t)
    ∧ (∀ j : RunningJob, s.rst.controller = .running j → j.task ≠ .marker →
      ∃ t j', exec (.flashOperationEnd false) s = .next t ∧ t.rst.controller = .running j'
        ∧ j'.task = .marker ∧ (∃ content, j'.op = .program j.op.block 63 content)
        ∧ j'.job = j.job ∧ j'.data = j.data
        ∧ j'.origin = (if j.task = .staleErase then j.origin else j.op.block)
        ∧ t.rst.blocks = s.rst.blocks.set j.op.block { s.rst.blocks[j.op.block] with state := .bad }
        ∧ (∀ n, n / 64 ≠ j.op.block.val → t.rst.flash.read n = s.rst.flash.read n)
        ∧ t = { s with rst := t.rst, draws := t.draws })
    ∧ (∀ (j : RunningJob) (b : Fin 16) (sequence : BitVec 32) (content : List Byte),
      s.rst.controller = .running j → j.task = .header sequence → j.op = .program b 0 content →
      ∃ t j', exec (.flashOperationEnd true) s = .next t ∧ t.rst.controller = .running j'
        ∧ t.rst.flash.read (64 * b.val) = some (slotOf content)
        ∧ t.rst.blocks = s.rst.blocks.set b ⟨.filling, 1, some sequence⟩
        ∧ j'.job = j.job ∧ j'.data = j.data
        ∧ (∀ e l, j.data = .faults (e :: l) →
            j'.task = .imageRecord 0 ∧ j'.op = .program b 1 (2 :: e.bytes))
        ∧ (j.data = .faults [] → j'.task = .imageEnd ∧ j'.op = .program b 1 [4])
        ∧ (∀ c, j.data = .image c →
            j'.task = .imageRecord 0 ∧ j'.op = .program b 1 (5 :: 0 :: c.image.take 57))
        ∧ (∀ v x, j.data = .counter v → s.rst.newestCounter = some x → x.1 ≠ b →
            (s.rst.flash.counter x.1 x.2).isSome = true →
            j'.task = .imageRecord 0 ∧ j'.op = .copyBack b 1 x.1 x.2 ∧ j'.ownFollows = true)
        ∧ (∀ v, j.data = .counter v →
            (∀ x, s.rst.newestCounter = some x → x.1 ≠ b ∧ s.rst.flash.counter x.1 x.2 = none) →
            j'.task = .imageRecord 0 ∧ j'.op = .program b 1 (counterContent s.rst.nextCounterSeq v)
              ∧ j'.ownFollows = false))
    ∧ (∀ (j : RunningJob) (b : Fin 16) (k : Nat) (slot : Fin 64) (content : List Byte),
      s.rst.controller = .running j → j.task = .imageRecord k → j.op = .program b slot content → k ≤ 50 →
      ∃ t j', exec (.flashOperationEnd true) s = .next t ∧ t.rst.controller = .running j'
        ∧ t.rst.flash.read (64 * b.val + slot.val) = some (slotOf content)
        ∧ t.rst.blocks = s.rst.blocks.set b
            { s.rst.blocks[b] with writePoint := s.rst.blocks[b].writePoint + 1 }
        ∧ j'.job = j.job ∧ j'.data = j.data
        ∧ (∀ l e, j.data = .faults l → l[k + 1]? = some e →
            j'.task = .imageRecord (k + 1) ∧ ∃ i, i.val = k + 2 ∧ j'.op = .program b i (2 :: e.bytes))
        ∧ (∀ l, j.data = .faults l → l.length = k + 1 →
            j'.task = .imageEnd ∧ ∃ i, i.val = k + 2 ∧ j'.op = .program b i [4])
        ∧ (∀ c, j.data = .image c → k < 50 →
            j'.task = .imageRecord (k + 1) ∧ ∃ i, i.val = k + 2
              ∧ j'.op = .program b i (5 :: numByte (k + 1) :: (c.image.drop (57 * (k + 1))).take 57))
        ∧ (∀ c, j.data = .image c → k = 50 → j'.task = .imageEnd ∧ j'.op = .program b 52 [4])
        ∧ (∀ v, j.data = .counter v → k = 0 →
            j'.task = .imageEnd ∧ j'.op = .program b 2 [4] ∧ t.rst.newestCounter = some (b, 1)))
    ∧ (∀ (j : RunningJob) (b slotBlock : Fin 16) (slot : Fin 64) (v : CounterValues),
      s.rst.controller = .running j → j.task = .imageRecord 0 → j.op = .copyBack b 1 slotBlock slot →
      j.data = .counter v →
      ∃ t j', exec (.flashOperationEnd true) s = .next t ∧ t.rst.controller = .running j'
        ∧ (∀ x, s.rst.flash.read (64 * slotBlock.val + slot.val) = some x →
            t.rst.flash.read (64 * b.val + 1) = some x)
        ∧ t.rst.newestCounter = some (b, 1) ∧ j'.task = .imageEnd ∧ j'.op = .program b 2 [4]
        ∧ j'.ownFollows = j.ownFollows ∧ j'.data = j.data)
    ∧ (∀ (j : RunningJob) (b : Fin 16) (slot : Fin 64) (content : List Byte),
      s.rst.controller = .running j → j.task = .imageEnd → j.op = .program b slot content →
      s.rst.blocks[b].state = .filling →
      ∃ t, exec (.flashOperationEnd true) s = .next t
        ∧ t.rst.blocks[b].state = .blockOpen ∧ t.rst.blocks[b].writePoint = s.rst.blocks[b].writePoint + 1
        ∧ (∀ c, s.rst.openBlock (areaOf b) = some c → t.rst.blocks[c].state = .stale)
        ∧ (∀ c : Fin 16, c ≠ b → s.rst.openBlock (areaOf b) ≠ some c → t.rst.blocks[c] = s.rst.blocks[c])
        ∧ (j.ownFollows = false → t.rst.controller = .idle)
        ∧ (∀ v, j.ownFollows = true → j.data = .counter v →
            ∃ j' i, t.rst.controller = .running j' ∧ j'.task = .append ∧ j'.ownFollows = false
              ∧ i.val = (s.rst.blocks[b].writePoint + 1) % 64
              ∧ j'.op = .program b i (counterContent s.rst.nextCounterSeq v)))
    ∧ (∀ b : Fin 16, s.rst.controller = .erasing (.erase b) →
      ∃ t content, exec (.flashOperationEnd false) s = .next t
        ∧ t.rst.controller = .erasing (.program b 63 content)
        ∧ t.rst.blocks = s.rst.blocks.set b { s.rst.blocks[b] with state := .bad }
        ∧ (∀ n, n / 64 ≠ b.val → t.rst.flash.read n = s.rst.flash.read n)
        ∧ t = { s with rst := t.rst, draws := t.draws })
    ∧ (∀ (b : Fin 16) (content : List Byte), s.rst.controller = .erasing (.program b 63 content) →
      ∃ t, exec (.flashOperationEnd false) s = .next t ∧ t.rst.controller = .idle
        ∧ t.rst.flash = s.rst.flash ∧ t.rst.blocks = s.rst.blocks)
    ∧ (∀ (j : RunningJob) (b : Fin 16) (content : List Byte) (pass : Bool), s.rst.controller = .running j →
      j.task = .marker → j.op = .program b 63 content →
      ∃ t, exec (.flashOperationEnd pass) s = .next t
        ∧ (pass = false → t.rst.flash = s.rst.flash)
        ∧ ∀ list, ((j.data = .faults list ∨ ∃ record, j.data = .appendRecord record ∧ list = s.flm.list)
              ∧ j.job.area = .faults) → 6 ≤ j.origin.val →
            RewriteBegins s t .faults 6 10 j.origin.val s.rst.queue j.job (.faults list))
    ∧ (∀ (j : RunningJob) (b : Fin 16) (content : List Byte) (pass : Bool), s.rst.controller = .running j →
      j.task = .marker → j.op = .program b 63 content →
      ∃ t, exec (.flashOperationEnd pass) s = .next t
        ∧ (∀ v, j.job = .counterSave → j.data = .counter v → 2 ≤ j.origin.val → j.origin.val ≤ 5 →
            RewriteBegins s t .counters 2 4 j.origin.val s.rst.queue .counterSave (.counter v))
        ∧ (∀ c, j.job = .calibWrite → j.data = .image c → CalibrationBegins s t s.rst.queue (.image c)))

/-! ## Service mode (chapter 10) -/

/-- SERVICE_ENTER in RUN with the vehicle stationary and the parking brake applied turns service mode ON with
60 s of service timer; otherwise it answers VEHICLE_MOVING, and ALREADY in service. SERVICE_EXIT,
SERVICE_TIMER_EXPIRY and a live change of the speed slot to a VALID speed above the stationary threshold or of the
parking-brake slot to a VALID value other than 1 end it: every record of SVC at its reset value, every substitution
of the set removed, an output test ended. With service mode OFF every service request but SERVICE_ENTER and
CALIB_READ answers NOT_IN_SERVICE. -/
def Obligations.ServiceModeIsEnteredAndLeft : Prop :=
  ∀ s : State, s.supply = true →
    let u := unconfirmed s
    let standing : Prop := s.pwc.power = .run
      ∧ (∃ i, s.cal.general.speedSlot = some i ∧ s.slots[i].liveStatus = .valid
        ∧ s.slots[i].liveValue.toInt ≤ s.cal.general.stationary.toInt)
      ∧ ∃ j, s.cal.general.brakeSlot = some j ∧ s.slots[j].liveStatus = .valid ∧ s.slots[j].liveValue = 1
    let left (t : State) : Prop :=
      t.svc = svcReset
      ∧ (∀ i : Fin 96, t.slots[i] =
          if i ∈ s.svc.substituted then { s.slots[i] with substitution := none } else s.slots[i])
      ∧ (s.svc.outputTest ≠ none → t.opu.testTarget = none) ∧ SignalFrame s t
    (∀ r : Request, InHand s .service .serviceEnter r →
      (s.svc.state = .off → standing →
        exec .serviceEnter s = .next (answering
          (u.setSvc { u.svc with state := .on, serviceTimer := startTimer s.pwc.uptime 60000 })
          .service r .ok []))
      ∧ (s.svc.state = .off → ¬standing →
        exec .serviceEnter s = .next (answering u .service r .vehicleMoving []))
      ∧ (s.svc.state ≠ .off → exec .serviceEnter s = .next (answering u .service r .already [])))
    ∧ (∀ r : Request, InHand s .service .serviceExit r → s.svc.state ≠ .off →
      ∃ t, exec .serviceExit s = .next t ∧ Answered s t .service r .ok [] ∧ left t)
    ∧ (s.svc.state ≠ .off → timerDue s.svc.serviceTimer s.pwc.uptime = true →
      ∃ t, exec .serviceTimerExpiry s = .next t ∧ SamePorts s t ∧ left t)
    ∧ (∀ (i : Fin 96) (v : Value), s.svc.state ≠ .off → s.pwc.power ≠ .start →
      s.slots[i].liveStatus ≠ .valid ∨ s.slots[i].liveValue ≠ v →
      (s.cal.general.speedSlot = some i ∧ s.cal.general.stationary.toInt < v.toInt)
        ∨ (s.cal.general.brakeSlot = some i ∧ v ≠ 1) →
      let t := sgtUpdate i .valid v s
      t.svc = svcReset ∧ (∀ j ∈ s.svc.substituted, t.slots[j].substitution = none)
        ∧ t.slots[i].liveStatus = .valid ∧ t.slots[i].liveValue = v
        ∧ (s.svc.outputTest ≠ none → t.opu.testTarget = none))
    ∧ (∀ (i : Fin 96) (st : LiveStatus) (v : Value), st ≠ .valid →
      (sgtUpdate i st v s).svc.state = s.svc.state)
    ∧ (s.svc.state = .off → ∀ (kind : RequestKind) (i : Instr) (r : Request), InHand s .service kind r →
      ((kind, i) ∈ [(.serviceExit, .serviceExit), (.readoutOpen, .readoutOpen), (.readoutNext, .readoutNext),
          (.liveSubscribe, .liveSubscribe), (.liveFetch, .liveFetch), (.substitute, .substitute),
          (.releaseSubstitute, .releaseSubstitute), (.clearPrepare, .clearPrepare), (.calibLoad, .calibLoad),
          (.calibCommitPrepare, .calibCommitPrepare), (.odometerSet, .odometerSet)]
        ∨ (kind = .outputTest ∧ i = if r.payload.head? = some 6 then .outputTestStop else .outputTest) →
        exec i s = .next (answering u .service r .notInService []))
      ∧ ((kind, i) ∈ [(RequestKind.clearConfirm, Instr.clearConfirm), (.calibCommitConfirm, .calibCommitConfirm)] →
        exec i s = .next (answering s .service r .notInService [])))

/-- READOUT_OPEN records the generation and answers it with the list length; READOUT_NEXT answers SEQUENCE with
no readout open, the entry at the cursor, which moves on, READOUT_BROKEN when the generation has changed and
ENDED after the last entry, both of which close the readout; LIVE_SUBSCRIBE replaces the subscription and
empties the queue, and answers BAD_ARGUMENT to more than 12 slots, a number above 95, one named twice or an UNUSED
slot; LIVE_FETCH answers and removes up to 4 samples. Nothing else changes but a pending
confirmation, which is dropped. A visible change of a subscribed slot appends a live sample with the slot's visible
contents, the uptime and no gap; to a queue of 32 it first removes the oldest, and marks the gap on the next; a queue
that was empty sets the LIVE notice on port S. An update that changes nothing visible, or of a slot outside the
subscription, appends nothing. -/
def Obligations.ReadoutAndLiveDataAnswer : Prop :=
  (∀ (s : State) (i : Fin 96) (st : LiveStatus) (v : Value), s.pwc.power ≠ .start →
    let x := s.slots[i]
    let t := sgtUpdate i st v s
    let value := if st = .valid then v else x.liveValue
    let status : Status := match st with
      | .notAvailable => .notAvailable | .valid => .valid | .stale => .stale | .outOfRange => .outOfRange
    let changes : Prop := x.substitution = none ∧ (x.liveStatus ≠ st ∨ x.liveValue ≠ value)
    let ends : Prop := s.svc.state ≠ .off ∧ st = .valid
      ∧ ((s.cal.general.speedSlot = some i ∧ s.cal.general.stationary.toInt < v.toInt)
        ∨ (s.cal.general.brakeSlot = some i ∧ v ≠ 1))
    let q := s.svc.liveQueue
    let sample : LiveSample := ⟨i, value, status, s.pwc.uptime, false⟩
    (i ∈ s.svc.subscription → changes → ¬ends →
      (q.length < 32 → t.svc = { s.svc with liveQueue := q ++ [sample] })
      ∧ (∀ a b rest, q = a :: b :: rest → q.length = 32 →
        t.svc = { s.svc with liveQueue := { b with gap := true } :: rest ++ [sample] })
      ∧ (q = [] → (t.port .service).flags &&& flagLive = flagLive)
      ∧ (q ≠ [] → (t.port .service).flags &&& flagLive = (s.port .service).flags &&& flagLive))
    ∧ (i ∉ s.svc.subscription ∨ ¬changes → ¬ends → t.svc = s.svc))
  ∧ ∀ (s : State) (r : Request), s.svc.state ≠ .off →
    let u := unconfirmed s
    (InHand s .service .readoutOpen r →
      exec .readoutOpen s = .next (answering
        (u.setSvc { u.svc with readout := some ⟨s.flm.generation, 0⟩ }) .service r .ok
        (bytes16 s.flm.generation ++ [numByte s.flm.list.length])))
    ∧ (InHand s .service .readoutNext r → s.svc.readout = none →
      exec .readoutNext s = .next (answering u .service r .sequence []))
    ∧ (∀ ro, InHand s .service .readoutNext r → s.svc.readout = some ro →
      (∀ e, ro.generation = s.flm.generation → s.flm.list[ro.cursor]? = some e →
        exec .readoutNext s = .next (answering
          (u.setSvc { u.svc with readout := some ⟨ro.generation, ro.cursor + 1⟩ }) .service r .ok
          (numByte ro.cursor :: e.bytes)))
      ∧ (ro.generation ≠ s.flm.generation →
        exec .readoutNext s = .next (answering (u.setSvc { u.svc with readout := none }) .service r
          .readoutBroken []))
      ∧ (ro.generation = s.flm.generation → s.flm.list.length ≤ ro.cursor →
        exec .readoutNext s = .next (answering (u.setSvc { u.svc with readout := none }) .service r
          .ended [])))
    ∧ (∀ is : List (Fin 96), InHand s .service .liveSubscribe r →
      r.payload = is.map (fun i => numByte i.val) → is.length ≤ 12 → is.Nodup →
      (∀ i ∈ is, s.slots[i].kind ≠ .unused) →
      exec .liveSubscribe s = .next (answering
        (u.setSvc { u.svc with subscription := is, liveQueue := [] }) .service r .ok []))
    ∧ (InHand s .service .liveSubscribe r →
      12 < r.payload.length ∨ ¬r.payload.Nodup ∨ (∃ b ∈ r.payload, 95 < b.toNat)
        ∨ (∃ i : Fin 96, numByte i.val ∈ r.payload ∧ s.slots[i].kind = .unused) →
      exec .liveSubscribe s = .next (answering u .service r .badArgument []))
    ∧ (InHand s .service .liveFetch r →
      exec .liveFetch s = .next (answering
        (u.setSvc { u.svc with liveQueue := s.svc.liveQueue.drop 4 }) .service r .ok
        (numByte (min 4 s.svc.liveQueue.length) :: (s.svc.liveQueue.take 4).flatMap (fun x =>
            numByte x.slot.val :: bytes32 x.value ++ [numByte x.status.code] ++ bytes32 x.time
              ++ [if x.gap then 1#8 else 0#8])
          ++ [numByte (s.svc.liveQueue.length - 4)])))

/-- The release of a slot at the Warning Engine in RUN (R97). Every enabled rule that refers to the slot goes to IDLE,
its comparison result FALSE, with the entry, the timers and the open fault gone, and is evaluated anew on the slots as
they then stand: RAISING while the condition is TRUE with a raise delay, confirmed at once without one, and otherwise
IDLE. Where none is confirmed at once, the other rules and entries stay but for the refill. -/
def Sys2Proof.Claims.ReleasedAt (s t : State) (i : Fin 96) : Prop :=
  let refers (r : Fin 48) : Prop := s.cal.rules[r].enabled = true ∧ s.wre.rules[r].phase ≠ .disabled
    ∧ (s.cal.rules[r].signalSlot = i ∨ ∃ q, s.cal.rules[r].qualifier = some q ∧ q.slot = i)
  let delayed (r : Fin 48) : Prop := s.cal.rules[r].raiseDelay ≠ 0
  (∀ r, refers r →
    let it := s.cal.rules[r]
    let old := s.wre.rules[r]
    let x : RuleState := if old.phase = .idle then old
      else { returned old with comparison := false, faultOpen := false }
    let result := comparisonResult it x.comparison t.slots[it.signalSlot]
    let holds : Prop := result = true ∧ it.qualified t.slots = true
    (¬holds → t.wre.rules[r] = { x with comparison := result } ∧ ∀ y ∈ t.wre.list, y.rule ≠ r)
    ∧ (holds → delayed r →
      t.wre.rules[r] = { x with
        comparison := result, phase := .raising, raiseTimer := startTimer s.pwc.uptime it.raiseDelay }
      ∧ ∀ y ∈ t.wre.list, y.rule ≠ r)
    ∧ (holds → ¬delayed r →
      (t.wre.rules[r].phase = .active ∨ t.wre.rules[r].phase = .suppressed)
        ∧ t.wre.rules[r].confirmedTime = some s.pwc.uptime))
  ∧ ((∀ r, refers r → delayed r) → OthersRefill s t refers)
  ∧ ((∃ y ∈ s.wre.list, refers y.rule) → NoticeOnAll flagWarnings t ∧ SummaryHanded t)

/-- SUBSTITUTE gives a bound slot its substitute value and puts it in the substitution set, and
RELEASE_SUBSTITUTE takes both away; live value, live status, update time and refresh timer stay, and no other
slot changes. The release returns every rule that refers to the slot to IDLE in RUN and evaluates it anew; outside RUN
it leaves the rules as they are. A slot number above 95 or fields cut short, for SUBSTITUTE also an UNUSED slot or a
ninth slot, are answered BAD_ARGUMENT, and the release of a slot outside the set NO_SUCH_ENTRY, with no slot changed. -/
def Obligations.SubstitutionIsSetAndReleased : Prop :=
  ∀ (s : State) (r : Request) (i : Fin 96), s.svc.state ≠ .off →
    (∀ (v : Value) (rest : List Byte), InHand s .service .substitute r →
      r.payload = numByte i.val :: (bytes32 v ++ rest) → s.slots[i].kind ≠ .unused →
      i ∈ s.svc.substituted ∨ s.svc.substituted.length < 8 →
      ∃ t, exec .substitute s = .next t ∧ Answered s t .service r .ok []
        ∧ t.slots = s.slots.set i { s.slots[i] with substitution := some v }
        ∧ t.svc.substituted
            = (if i ∈ s.svc.substituted then s.svc.substituted else s.svc.substituted ++ [i])
        ∧ t.svc.state = s.svc.state ∧ SignalFrame s t)
    ∧ (∀ rest : List Byte, InHand s .service .releaseSubstitute r → r.payload = numByte i.val :: rest →
      i ∈ s.svc.substituted →
      ∃ t, exec .releaseSubstitute s = .next t ∧ Answered s t .service r .ok []
        ∧ t.slots = s.slots.set i { s.slots[i] with substitution := none }
        ∧ t.svc.substituted = s.svc.substituted.erase i
        ∧ (s.pwc.power = .run → ListAgrees s.wre → PlacesRefilled s.wre → ReleasedAt s t i)
        ∧ (s.pwc.power ≠ .run → t.wre = s.wre)
        ∧ t.svc.state = s.svc.state ∧ SignalFrame s t)
    ∧ (let refused (command : Instr) (result : Result) : Prop :=
        exec command s = .next (answering (unconfirmed s) .service r result [])
      (InHand s .service .substitute r →
        r.payload.length < 5 ∨ (∃ b rest, r.payload = b :: rest ∧ 95 < b.toNat)
          ∨ (∃ rest, r.payload = numByte i.val :: rest ∧ (s.slots[i].kind = .unused
            ∨ (i ∉ s.svc.substituted ∧ 8 ≤ s.svc.substituted.length))) →
        refused .substitute .badArgument)
      ∧ (InHand s .service .releaseSubstitute r →
        (r.payload = [] ∨ (∃ b rest, r.payload = b :: rest ∧ 95 < b.toNat) →
          refused .releaseSubstitute .badArgument)
        ∧ (∀ rest, r.payload = numByte i.val :: rest → i ∉ s.svc.substituted →
          refused .releaseSubstitute .noSuchEntry)))

/-- OUTPUT_TEST starts a test of 1 to 30 s of its target, and OUTPUT_TEST with target STOP, whatever its duration
byte, and TEST_TIMER_EXPIRY end it; in RUN the lamp under test is lit, with ALL_LAMPS each of the four, and with
CHIME the TEST claim is granted; only SVC, OPU and the answering port change.
STOP with no test answers ALREADY; any other target or duration, or a payload without its two bytes, answers
BAD_ARGUMENT. That this holds for STOP without the duration byte that it ignores is the model's inference (log entry
19). -/
def Obligations.OutputTestRunsAndEnds : Prop :=
  ∀ (s : State) (r : Request), s.supply = true → s.svc.state ≠ .off →
    let targets := [TestTarget.lampStop, .lampCaution, .lampDoor, .lampStopReq, .allLamps, .chime]
    (∀ (n : Fin 6) (d : Fin 31) (rest : List Byte), InHand s .service .outputTest r → d ≠ 0 →
      r.payload = numByte n.val :: numByte d.val :: rest →
      ∃ t target, exec .outputTest s = .next t ∧ targets[n.val]? = some target
        ∧ Answered s t .service r .ok [] ∧ t = { s with svc := t.svc, opu := t.opu, ptu := t.ptu }
        ∧ t.svc = { s.svc with
            state := .test, confirmation := none
            outputTest := some (target, s.pwc.uptime + BitVec.ofNat 32 (1000 * d.val)) }
        ∧ t.opu.testTarget = some target
        ∧ (s.opu.power = .run →
            (target = .lampStop ∨ target = .allLamps → t.opu.outputs.lampStop = true)
            ∧ (target = .lampCaution ∨ target = .allLamps → t.opu.outputs.lampCaution = true)
            ∧ (target = .lampDoor ∨ target = .allLamps → t.opu.outputs.lampDoor = true)
            ∧ (target = .lampStopReq ∨ target = .allLamps → t.opu.outputs.lampStopReq = true)
            ∧ (target = .chime → t.opu.chime.granted = some .test)))
    ∧ (let ended (t : State) : Prop :=
        t.svc.state = .on ∧ t.svc.outputTest = none ∧ t.opu.testTarget = none
          ∧ t = { s with svc := t.svc, opu := t.opu, ptu := t.ptu }
      (∀ (d : Byte) (rest : List Byte), InHand s .service .outputTest r → r.payload = 6 :: d :: rest →
        (s.svc.state = .test →
          ∃ t, exec .outputTestStop s = .next t ∧ Answered s t .service r .ok [] ∧ ended t)
        ∧ (s.svc.state = .on →
          exec .outputTestStop s = .next (answering (unconfirmed s) .service r .already [])))
      ∧ (InHand s .service .outputTest r → r.payload = [6] →
        exec .outputTestStop s = .next (answering (unconfirmed s) .service r .badArgument []))
      ∧ (InHand s .service .outputTest r →
          (r.payload.length < 2 ∨ ∃ target d rest, r.payload = target :: d :: rest
            ∧ (5 < target.toNat ∨ d = 0 ∨ 30 < d.toNat)) → r.payload.head? ≠ some 6 →
        exec .outputTest s = .next (answering (unconfirmed s) .service r .badArgument []))
      ∧ (∀ target e, s.svc.state = .test → s.svc.outputTest = some (target, e) →
        timerDue (some e) s.pwc.uptime = true →
        ∃ t, exec .testTimerExpiry s = .next t ∧ t.ptu = s.ptu ∧ ended t))

/-- CLEAR_PREPARE answers the counts and opens a window of 5,000 ms; CLEAR_CONFIRM within it keeps the ACTIVE
entries alone, each stamped anew with occurrences 1, raises the generation and clears the overflow mark;
without its preparation it answers SEQUENCE and clears nothing, and a preparation of the other kind is dropped;
WINDOW_TIMER_EXPIRY drops the pending confirmation. -/
def Obligations.FaultListIsClearedInTwoSteps : Prop :=
  ∀ (s : State) (r : Request), s.supply = true →
    (InHand s .service .clearPrepare r → s.svc.state ≠ .off →
      exec .clearPrepare s = .next (answering
        (s.setSvc { s.svc with confirmation := some (.clear, s.pwc.uptime + 5000) }) .service r .ok
        ([numByte (s.flm.list.countP fun e => e.active), numByte (s.flm.list.countP fun e => !e.active),
          if s.flm.overflow then 1#8 else 0#8] ++ bytes16 s.flm.generation)))
    ∧ (∀ e, InHand s .service .clearConfirm r → s.svc.state ≠ .off →
      s.svc.confirmation = some (.clear, e) →
      ∃ t, exec .clearConfirm s = .next t ∧ Answered s t .service r .ok []
        ∧ t.flm = { s.flm with
            overflow := false, generation := s.flm.generation + 1
            list := (s.flm.list.filter fun x => x.active).map fun x =>
              { x with
                occurrences := 1, aging := 0, freeze := s.freezeFrame
                firstOdometer := s.odometer, lastOdometer := s.odometer
                firstIgnition := s.pwc.ignitionCycles, lastIgnition := s.pwc.ignitionCycles } }
        ∧ t.svc = { s.svc with confirmation := none } ∧ NoticeOnAll flagFaults t
        ∧ Job.faultRewrite ∈ t.rst.queue ∧ t.slots = s.slots ∧ t.wre = s.wre ∧ t.opu = s.opu
        ∧ SignalFrame s t)
    ∧ (InHand s .service .clearConfirm r → s.svc.state ≠ .off → (∀ e, s.svc.confirmation ≠ some (.clear, e)) →
      exec .clearConfirm s = .next (answering (unconfirmed s) .service r .sequence []))
    ∧ (∀ k e, s.svc.confirmation = some (k, e) → timerDue (some e) s.pwc.uptime = true →
      exec .windowTimerExpiry s = .next (s.setSvc { s.svc with confirmation := none }))

/-- An item as Table 79 lays it out is cut short, or a field of it lies outside its range (R3, R19, R128, R146, R208,
Tables 6, 14, 18, 23, 28, 41). The range of a source index is absent or 0 to 31 whatever the kind (log entry 16). -/
def Sys2Proof.Claims.Misfits (sec : CalibSection) (item : List Byte) : Prop :=
  let byte (k : Nat) : Nat := (item.getD k 0).toNat
  let word (k : Nat) : Nat := byte k + 256 * byte (k + 1)
  let optional (k n : Nat) : Prop := n ≤ byte k ∧ byte k ≠ 255
  match sec with
  | .general =>
    item.length < 24 ∨ (∃ k < 6, optional k 96) ∨ (∃ k < 5, optional (6 + k) 32) ∨ byte 23 = 0
  | .slots => item.length < 2 ∨ 6 < byte 0 ∨ optional 1 32
  | .switches => item.length < 2 ∨ 1 < byte 0 ∨ byte 1 ∉ [5, 20, 50, 200]
  | .senders =>
    item.length < 54 ∨ 3 < byte 0 ∨ (∃ k ∈ [1, 3], 4095 < word k ∧ word k ≠ 65535) ∨ 8 < byte 5
      ∨ ∃ p < 8, 4095 < word (6 + 6 * p)
  | .channels =>
    item.length < 19 ∨ 5 < byte 0 ∨ 7 < byte 1 ∨ 2 < byte 2 ∨ optional 3 32 ∨ (∃ k ∈ [4, 5, 6, 18], 1 < byte k)
      ∨ word 11 ∉ [10, 100, 1000] ∨ word 15 = 0 ∨ 1000 < word 15 ∨ 2 < byte 17
  | .filters =>
    item.length < 25 ∨ (∃ k ∈ [0, 9, 12, 13], 1 < byte k) ∨ 31 < byte 4 ∨ 31 < byte 8 ∨ 63 < byte 10
      ∨ byte 11 = 0 ∨ 32 < byte 11 ∨ word 16 = 0 ∨ 1000 < word 16 ∨ optional 22 96
      ∨ (word 23 ≠ 0 ∧ (word 23 < 50 ∨ 65000 < word 23))
  | .rules =>
    item.length < 24 ∨ (∃ k ∈ [0, 20], 1 < byte k) ∨ 95 < byte 1 ∨ 4 < byte 2 ∨ optional 9 96
      ∨ (byte 9 ≠ 255 ∧ 3 < byte 10) ∨ 60000 < word 15 ∨ 60000 < word 17 ∨ 2 < byte 19 ∨ 0xDFFF < word 21
      ∨ 60 < byte 23
  | .doors =>
    item.length < 14 ∨ 1 < byte 0 ∨ 31 < byte 1 ∨ (∃ k < 5, optional (2 + k) 32)
      ∨ (∃ k ∈ [7, 9], word k < 500 ∨ 20000 < word k) ∨ byte 11 = 0 ∨ 7 < byte 11 ∨ word 12 < 200
      ∨ 5000 < word 12

/-- An item of a calibration meets every condition that validation puts on its section (R2, R3, R26, R37, R63, R73,
R107, R113). A role or fault code that a lower index has too is at fault at the higher index (log entry 17). -/
def Sys2Proof.Claims.MeetsConditions (c : Calibration) (sec : CalibSection) (i : Nat) : Prop :=
  let bound (k : Fin 96) : Prop := c.slots[k].kind ≠ .unused
  match sec with
  | .general =>
    let g := c.general
    (∀ k, some k ∈ g.speedSlot :: g.brakeSlot :: g.freezeSlots.toList → bound k)
      ∧ g.openLow.toInt ≤ g.openHigh.toInt
  | .slots => ∀ k : Fin 96, k.val = i →
    let index := c.slots[k].index
    match c.slots[k].kind with
    | .unused | .stopReq => index = none
    | .switch => index ≠ none
    | .sender | .channel => ∃ n, index = some n ∧ n.val < 8
    | .door => ∃ n, index = some n ∧ n.val < 4
    | .network => ∃ n : Fin 32, index = some n ∧ c.filters[n].targetSlot = some k
  | .switches => True
  | .senders => ∀ k : Fin 8, k.val = i →
    let x := c.senders[k]
    2 ≤ x.pointCount.val
      ∧ (∀ a b : Fin 8, a < b → b.val < x.pointCount.val → x.points[a].raw < x.points[b].raw)
      ∧ ∀ o sh, x.openThreshold = some o → x.shortThreshold = some sh → sh < o
  | .channels => ∀ k : Fin 8, k.val = i →
    let x := c.channels[k]
    (x.mode = .width → x.edge ≠ .both) ∧ (k = 0 → x.mode ≠ .follow)
      ∧ (x.role ≠ .noRole → x.mode = .follow ∧ x.upperSetPoint = 0
        ∧ ∀ j : Fin 8, j < k → c.channels[j].role ≠ x.role)
  | .filters => ∀ k : Fin 32, k.val = i →
    let x := c.filters[k]
    (x.enabled = true → x.targetSlot ≠ none) ∧ x.startBit + x.bitLength ≤ 64
      ∧ (x.extended = false → x.identifier.toNat ≤ 0x7FF)
      ∧ ∀ n : Fin 96, x.targetSlot = some n → c.slots[n].kind = .network ∧ c.slots[n].index = some k
  | .rules => ∀ k : Fin 48, k.val = i →
    let x := c.rules[k]
    x.enabled = true →
      bound x.signalSlot ∧ (∀ q, x.qualifier = some q → bound q.slot) ∧ (x.latching = true → x.cls = .stop)
        ∧ (x.reAnnounce ≠ 0 → x.cls = .stop ∨ x.cls = .caution)
        ∧ ∀ code, x.faultCode = some code → ¬(0xE000 ≤ code.toNat ∧ code.toNat ≤ 0xEFFF)
          ∧ ∀ j : Fin 48, j < k → c.rules[j].enabled = true → c.rules[j].faultCode ≠ some code
  | .doors => ∀ k : Fin 4, k.val = i →
    let x := c.doors[k]
    x.present = true →
      [some x.closedInput, x.openInput, x.edgeInput, x.releaseInput, x.lockedInput, x.rampInput].Pairwise
          (fun a b => a = none ∨ a ≠ b)
        ∧ (x.openInput = none → x.settleTime < x.openLimit)

/-- CALIB_LOAD of an item in range replaces that item, and no other, in the staging calibration, made as a copy
of the active one when absent; CALIB_READ answers the item of the source named; CALIB_COMMIT_PREPARE of a
valid staging calibration opens a window of 5,000 ms. Nothing takes effect yet. A section, index, source or field
that is missing or out of range is answered BAD_ARGUMENT, a read of an absent staging calibration NO_SUCH_ENTRY; the
preparation is answered SEQUENCE without a staging calibration, STORE_BUSY with a CALIB_WRITE queued or running, and
CONFIG_INVALID with the first item at fault, in section order and index order, by the conditions of each section;
each leaves all but a pending confirmation as it was. The model's
inferences are that CALIB_LOAD takes a source index that is absent or 0 to 31 whatever the source kind (log entry 16),
and that of two items with the same role or fault code the higher index is the one at fault (log entry 17). -/
def Obligations.CalibrationIsStagedReadAndPrepared : Prop :=
  (∀ (c : Calibration) (sec : CalibSection) (i : Nat), i < sec.count →
    (c.itemValid sec i = true ↔ MeetsConditions c sec i))
  ∧ ∀ (s : State) (r : Request),
    let u := unconfirmed s
    (∀ (given : Calibration) (sec : CalibSection) (i : Nat), InHand s .service .calibLoad r →
      s.svc.state ≠ .off → InRange given → i < sec.count →
      r.payload = numByte sec.code :: numByte i :: given.itemBytes sec i →
      ∃ c, exec .calibLoad s = .next (answering (u.setSvc { u.svc with staging := some c }) .service r .ok [])
        ∧ c.itemBytes sec i = given.itemBytes sec i
        ∧ ∀ sec' j, (sec', j) ≠ (sec, i) →
            c.itemBytes sec' j = (s.svc.staging.getD s.cal).itemBytes sec' j)
    ∧ (∀ (sec : CalibSection) (i : Nat) (rest : List Byte), InHand s .service .calibRead r →
      i < sec.count →
      (r.payload = 0 :: numByte sec.code :: numByte i :: rest →
        exec .calibRead s = .next (answering u .service r .ok (s.cal.itemBytes sec i)))
      ∧ (∀ c, s.svc.staging = some c → r.payload = 1 :: numByte sec.code :: numByte i :: rest →
        exec .calibRead s = .next (answering u .service r .ok (c.itemBytes sec i))))
    ∧ (∀ c, InHand s .service .calibCommitPrepare r → s.svc.state ≠ .off → s.svc.staging = some c →
      Job.calibWrite ∉ s.rst.queue → (∀ j, s.rst.controller = .running j → j.job ≠ .calibWrite) →
      (∀ sec i, i < sec.count → c.itemValid sec i = true) →
      exec .calibCommitPrepare s = .next (answering
        (s.setSvc { s.svc with confirmation := some (.calibCommit, s.pwc.uptime + 5000) })
        .service r .ok []))
    ∧ (InHand s .service .calibLoad r → s.svc.state ≠ .off →
      r.payload.length < 2 ∨ (∃ b rest, r.payload = b :: rest ∧ 7 < b.toNat)
        ∨ (∃ (sec : CalibSection) (i : Byte) (item : List Byte),
            r.payload = numByte sec.code :: i :: item ∧ (sec.count ≤ i.toNat ∨ Misfits sec item)) →
      exec .calibLoad s = .next (answering u .service r .badArgument []))
    ∧ (InHand s .service .calibRead r →
      (r.payload.length < 3 ∨ (∃ src b i rest, r.payload = src :: b :: i :: rest
          ∧ (1 < src.toNat ∨ 7 < b.toNat ∨ ∃ sec : CalibSection, b = numByte sec.code ∧ sec.count ≤ i.toNat)) →
        exec .calibRead s = .next (answering u .service r .badArgument []))
      ∧ (∀ (sec : CalibSection) (i : Nat) (rest : List Byte), i < sec.count → s.svc.staging = none →
        r.payload = 1 :: numByte sec.code :: numByte i :: rest →
        exec .calibRead s = .next (answering u .service r .noSuchEntry [])))
    ∧ (InHand s .service .calibCommitPrepare r → s.svc.state ≠ .off →
      let busy : Prop := Job.calibWrite ∈ s.rst.queue ∨ ∃ j, s.rst.controller = .running j ∧ j.job = .calibWrite
      (s.svc.staging = none → exec .calibCommitPrepare s = .next (answering u .service r .sequence []))
      ∧ (s.svc.staging ≠ none → busy →
        exec .calibCommitPrepare s = .next (answering u .service r .storeBusy []))
      ∧ ∀ (c : Calibration) (sec : CalibSection) (i : Nat), s.svc.staging = some c → ¬busy → i < sec.count →
        c.itemValid sec i = false →
        (∀ (sec' : CalibSection) (j : Nat), j < sec'.count → sec'.code < sec.code ∨ (sec' = sec ∧ j < i) →
          c.itemValid sec' j = true) →
        exec .calibCommitPrepare s
          = .next (answering u .service r .configInvalid [numByte sec.code, numByte i]))

/-- CALIB_COMMIT_CONFIRM within the window makes the staging calibration the active one: slots are bound to it
with no substitution, staging, subscription and substitution set are empty, a CALIB_WRITE is queued, role
counts, cycle counts and the ignition cycle count are kept, and a pending confirmation is consumed. Without its
preparation it answers SEQUENCE and changes nothing else, but that a preparation of the other kind is dropped. -/
def Obligations.CommitMakesTheStagingCalibrationActive : Prop :=
  ∀ (s : State) (r : Request), InHand s .service .calibCommitConfirm r → s.svc.state ≠ .off →
    (∀ (c : Calibration) (e : Time), s.svc.confirmation = some (.calibCommit, e) → s.svc.staging = some c →
      ∃ t, exec .calibCommitConfirm s = .next t ∧ Answered s t .service r .ok []
        ∧ t.cal = c ∧ t.calLoaded = true
        ∧ t.svc.staging = none ∧ t.svc.subscription = [] ∧ t.svc.substituted = []
        ∧ t.svc.confirmation = none
        ∧ (s.svc.outputTest = none ∨ s.svc.state = .test → t.svc.outputTest = none)
        ∧ (∀ i : Fin 96, t.slots[i].kind = c.slots[i].kind ∧ t.slots[i].substitution = none)
        ∧ Job.calibWrite ∈ t.rst.queue ∧ SameStore s t
        ∧ t.ccu.odometer = s.ccu.odometer ∧ t.ccu.hours = s.ccu.hours
        ∧ (∀ d : Fin 4, t.drs.doors[d].cycles = s.drs.doors[d].cycles)
        ∧ t.pwc.power = s.pwc.power ∧ t.pwc.ignitionCycles = s.pwc.ignitionCycles
        ∧ (∀ d : Fin 4, t.opu.present[d] = c.doors[d].present)
        ∧ t.pins = s.pins ∧ t.supply = s.supply ∧ t.pending = s.pending)
    ∧ ((∀ e, s.svc.confirmation ≠ some (.calibCommit, e)) →
      exec .calibCommitConfirm s = .next (answering (unconfirmed s) .service r .sequence []))

/-- ODOMETER_SET of a value not below the count, with the vehicle stationary and a channel of role ODOMETER,
sets the odometer count and its increments since save, publishes it unless the hold-off timer runs, and requests a
COUNTER_SAVE. Without a VALID speed at or below the stationary threshold it is answered VEHICLE_MOVING, without a
channel of role ODOMETER NOT_PERMITTED, and for a value below the count or cut short BAD_ARGUMENT, with no count
changed. That the last delivery recorded is the count before saturation is the model's choice (log entry 46). -/
def Obligations.OdometerIsSetUpwards : Prop :=
  ∀ (s : State) (r : Request), InHand s .service .odometerSet r → s.svc.state ≠ .off →
    let standing : Prop := ∃ i, s.cal.general.speedSlot = some i ∧ s.slots[i].liveStatus = .valid
      ∧ s.slots[i].liveValue.toInt ≤ s.cal.general.stationary.toInt
    let refused (result : Result) : Prop :=
      exec .odometerSet s = .next (answering (unconfirmed s) .service r result [])
    (∀ (v : Count) (rest : List Byte) (c : Fin 8), standing → r.payload = bytes32 v ++ rest →
      s.cal.roleChannel .odometer = some c → s.ccu.odometer.count ≤ v →
      let x := s.ccu.channels[c]
      ∃ t, exec .odometerSet s = .next t ∧ Answered s t .service r .ok (bytes32 v)
        ∧ t.ccu.odometer = ⟨v, 0⟩ ∧ t.ccu.hours = s.ccu.hours
        ∧ t.ccu.channels[c] = (if x.holdOff = none then
            { x with lastDelivery := some v, holdOff := startTimer s.pwc.uptime 10 } else x)
        ∧ (x.holdOff = none → ChannelSlotsTake s t c (if 0x7FFFFFFF#32 < v then 0x7FFFFFFF#32 else v))
        ∧ (x.holdOff ≠ none → t.slots = s.slots)
        ∧ (∀ d : Fin 8, d ≠ c → t.ccu.channels[d] = s.ccu.channels[d])
        ∧ Job.counterSave ∈ t.rst.queue ∧ ChannelFrame s t)
    ∧ (¬standing → refused .vehicleMoving)
    ∧ (∀ (v : Count) (rest : List Byte), standing → r.payload = bytes32 v ++ rest →
      ((∀ d : Fin 8, s.cal.channels[d].role ≠ .odometer) → refused .notPermitted)
      ∧ ((∃ d : Fin 8, s.cal.channels[d].role = .odometer) → v < s.ccu.odometer.count → refused .badArgument))
    ∧ (standing → r.payload.length < 4 → (∃ d : Fin 8, s.cal.channels[d].role = .odometer) →
      refused .badArgument)

/-! ## Power (chapter 12) -/

/-- The contents of a flash slot that passes its check (R209, R210). -/
def Sys2Proof.Claims.recordAt (f : Flash) (b : Fin 16) (k : Nat) : Option (List Byte) :=
  match f.read (64 * b.val + k) with
  | some x => if crc8 x.content = x.check then some x.content else none
  | none => none

/-- A block has a header that passes its check, of an area number and a block sequence (R155, R210). -/
def Sys2Proof.Claims.HeaderOf (f : Flash) (b : Fin 16) (area : Nat) (sequence : BitVec 32) : Prop :=
  ∃ c, recordAt f b 0 = some c ∧ (c.getD 0 0).toNat = area ∧ field32 c 1 = sequence

/-- A COUNTER record that passes its check stands in a slot (R171, R210). -/
def Sys2Proof.Claims.CounterAt (f : Flash) (b : Fin 16) (k : Fin 64) (sequence : BitVec 32) (v : CounterValues) :
    Prop :=
  2 ≤ b.val ∧ b.val ≤ 5 ∧ 1 ≤ k.val ∧ k.val ≤ 62
    ∧ ∃ c, recordAt f b k.val = some c ∧ c.getD 0 0 = 1 ∧ counterOf c = (sequence, v)

/-- A block holds an IMAGE_END that passes its check (R170). -/
def Sys2Proof.Claims.HoldsEnd (f : Flash) (b : Fin 16) : Prop :=
  ∃ k c, 1 ≤ k ∧ k ≤ 62 ∧ recordAt f b k = some c ∧ c.getD 0 0 = 4

/-- The area of a block by its number (Table 53). -/
def Sys2Proof.Claims.areaNumber (b : Fin 16) : Nat := if b.val < 2 then 0 else if b.val < 6 then 1 else 2

/-- What the scan of an array leaves in the Record Store, with the block that the calibration load takes OPEN (R170,
R172). Of blocks of one area with equal sequences the higher one is OPEN (log entry 37). -/
def Sys2Proof.Claims.Scanned (f : Flash) (t : State) : Prop :=
  let programmed (b : Fin 16) (k : Nat) : Prop := f.read (64 * b.val + k) ≠ none
  let allBad (area : Nat) : Prop := ∀ b : Fin 16, areaNumber b = area → programmed b 63
  (∀ b : Fin 16,
    let area := areaNumber b
    let x := t.rst.blocks[b]
    (programmed b 63 → x.state = .bad)
    ∧ (¬programmed b 63 → (∀ k < 64, ¬programmed b k) → x = ⟨.erased, 0, none⟩)
    ∧ (¬programmed b 63 → (∃ k < 64, programmed b k) →
      ((∀ n, ¬HeaderOf f b area n) → x.state = .stale)
      ∧ ∀ n, HeaderOf f b area n →
        x.sequence = some n ∧ 1 ≤ x.writePoint ∧ x.writePoint ≤ 63
        ∧ (x.writePoint ≠ 1 → programmed b (x.writePoint - 1))
        ∧ (∀ k, x.writePoint ≤ k → k ≤ 62 → ¬programmed b k)
        ∧ (x.state = .blockOpen ∨ x.state = .stale)
        ∧ (area ≠ 0 → (x.state = .blockOpen ↔ HoldsEnd f b
          ∧ ∀ (c : Fin 16) (m : BitVec 32), areaNumber c = area → ¬programmed c 63 → HeaderOf f c area m →
            HoldsEnd f c → m < n ∨ (m = n ∧ c ≤ b)))))
  ∧ ((∀ b area n, ¬HeaderOf f b area n) → t.rst.nextBlockSeq = 1)
  ∧ (∀ b area n, HeaderOf f b area n → (∀ c a m, HeaderOf f c a m → m ≤ n) →
    t.rst.nextBlockSeq = if n = BitVec.allOnes 32 then n else n + 1)
  ∧ (t.rst.readOnly.calibration = true ↔ allBad 0) ∧ (t.rst.readOnly.counters = true ↔ allBad 1)
  ∧ (t.rst.readOnly.faults = true ↔ allBad 2)

/-- A block holds a whole calibration image that passes validation (R172, R210). -/
def Sys2Proof.Claims.ImageIn (f : Flash) (b : Fin 16) (c : Calibration) : Prop :=
  (∃ n, HeaderOf f b 0 n) ∧ (∃ e, recordAt f b 52 = some e ∧ e.getD 0 0 = 4)
    ∧ (∃ part : Nat → List Byte,
      (∀ k < 51, ∃ r, recordAt f b (k + 1) = some r ∧ r.getD 0 0 = 5 ∧ (r.getD 1 0).toNat = k
        ∧ part k = (r.drop 2).take 57)
      ∧ Calibration.ofImage (((List.range 51).flatMap part).take 2872) = some c)
    ∧ ∀ (sec : CalibSection) (i : Nat), i < sec.count → MeetsConditions c sec i

/-- The calibration that START leaves active (R172): that of B0 or, where B0 is BAD, of B1, whose block is OPEN; else
the factory default, with E400h, and with E310h where no COUNTER record was found and E300h + area for an area that is
READ_ONLY, each STORED; they are sure of a place where the replay starts from an empty list. -/
def Sys2Proof.Claims.CalibrationLoaded (f : Flash) (t : State) : Prop :=
  let bad (b : Fin 16) : Prop := f.read (64 * b.val + 63) ≠ none
  let source (b : Fin 16) : Prop := (b = 0 ∧ ¬bad 0) ∨ (b = 1 ∧ bad 0 ∧ ¬bad 1)
  let storedFault (code : BitVec 16) (from' : FaultSource) : Prop :=
    ∃ e ∈ t.flm.list, e.code = code ∧ e.source = from' ∧ e.active = false
  (∀ b c, source b → ImageIn f b c →
    t.cal = c ∧ t.calLoaded = true ∧ t.rst.blocks[b].state = .blockOpen)
  ∧ ((∀ b c, source b → ¬ImageIn f b c) →
    t.cal = Calibration.factory ∧ t.calLoaded = false
    ∧ t.rst.blocks[0].state ≠ .blockOpen ∧ t.rst.blocks[1].state ≠ .blockOpen
    ∧ ((∀ b : Fin 16, 6 ≤ b.val → t.rst.blocks[b].state ≠ .blockOpen) →
      storedFault 0xE400 .calibration
      ∧ ((∀ b k n v, ¬CounterAt f b k n v) → storedFault 0xE310 .store)
      ∧ (t.rst.readOnly.calibration = true → storedFault 0xE300 .store)
      ∧ (t.rst.readOnly.counters = true → storedFault 0xE301 .store)
      ∧ (t.rst.readOnly.faults = true → storedFault 0xE302 .store)))

/-- The Fault List after START where START reports no fault: the replay of the records of the OPEN block below its
write point, in slot order, every entry STORED, with generation 0 (R150, R173); empty without an OPEN block. -/
def Sys2Proof.Claims.FaultsReplayed (f : Flash) (t : State) : Prop :=
  t.calLoaded = true → (∃ b k n v, CounterAt f b k n v) → t.rst.readOnly = ⟨false, false, false⟩ →
    (∀ r : Fin 48, t.cal.rules[r].faultCode = none) → (∀ d : Fin 4, t.cal.doors[d].present = false) →
    t.flm.generation = 0 ∧ t.flm.overflow = false ∧ t.flm.held = []
    ∧ (∀ b : Fin 16, 6 ≤ b.val → t.rst.blocks[b].state = .blockOpen →
      let l := (((List.range t.rst.blocks[b].writePoint).drop 1).filterMap (recordAt f b)).foldl replayRecord []
      t.flm.list = (trimReplay l.length l).map fun e => { e with active := false })
    ∧ ((∀ b : Fin 16, 6 ≤ b.val → t.rst.blocks[b].state ≠ .blockOpen) → t.flm.list = [])

/-- POWER_ON and PIN_RESET begin afresh over the flash array as an abandoned operation left it: START has run
to RUN or AFTERRUN by the level of IGN, service mode is OFF, no port holds anything, the store is as the scan found it,
the calibration of the calibration block is active, or the factory default, the Fault List is that of the replay, the
counts are those of the newest COUNTER record found, or 0, and every sender input in use has taken its first sample, in
range, with its slots VALID. The newest record is that of the largest counter sequence, then block sequence, then slot;
that a block without a header counts as sequence 0 there is log entry 37. PIN_RESET leaves the part held until
RESET_RELEASE, and the first conversions come with the command (the model's choices, log entry 9); POWER_ON does the
same with the supply present (log entry 10). -/
def Obligations.PowerOnRestoresTheCounts : Prop :=
  (∀ f : Flash,
    let blockSequence (b : Fin 16) : Nat := match recordAt f b 0 with
      | some c => if c.getD 0 0 = 1 then (field32 c 1).toNat else 0
      | none => 0
    (∀ x, newestOf f f.counters = some x → CounterAt f x.block x.slot x.sequence x.values
      ∧ ∀ b k n v, CounterAt f b k n v → n ≤ x.sequence
        ∧ (n = x.sequence → blockSequence b ≤ blockSequence x.block
          ∧ (blockSequence b = blockSequence x.block → k ≤ x.slot)))
    ∧ (newestOf f f.counters = none ↔ ∀ b k n v, ¬CounterAt f b k n v))
  ∧ ∀ (s : State) (pins : PinLevels) (senders : Conversions),
    let flash := s.abandonFlash.rst.flash
    let afresh (t : State) (held : Bool) : Prop :=
      t.pwc.power = (if pins.ign then .run else .afterrun) ∧ t.pwc.uptime = 0 ∧ t.pwc.held = held
      ∧ t.pwc.rstrun = pins.rstrun ∧ t.pwc.ignition = pins.ign ∧ t.pwc.ignitionDisagreement = 0
      ∧ t.supply = true ∧ t.pins = pins ∧ t.pending = s.pending ∧ t.rst.flash = flash
      ∧ t.rst.controller = .idle ∧ t.svc = svcReset
      ∧ (∀ p, (t.port p).state = .idle ∧ (t.port p).dropMark = false ∧ (t.port p).transaction = none)
      ∧ t.flm.replayDone = true
      ∧ Scanned flash t ∧ CalibrationLoaded flash t ∧ FaultsReplayed flash t
      ∧ (∀ n : Fin 8, t.cal.senderInUse n = true →
          t.senders[n].filtered = some senders[n] ∧ t.senders[n].outOfRange = false
          ∧ ∀ i : Fin 96, t.slots[i].kind = .sender → t.slots[i].index = some (n.castLE (by omega)) →
            t.slots[i].liveStatus = .valid)
      ∧ (∀ n : Fin 8, t.cal.senderInUse n = false → t.senders[n] = senderReset)
      ∧ match newestOf flash flash.counters with
        | some x =>
          t.ccu.odometer = ⟨x.values.odometer, 0⟩ ∧ t.ccu.hours = ⟨x.values.hours, 0⟩
          ∧ (∀ d : Fin 4, t.drs.doors[d].cycles = x.values.cycles[d])
          ∧ t.pwc.ignitionCycles = x.values.ignition
          ∧ t.rst.newestCounter = some (x.block, x.slot)
          ∧ t.rst.nextCounterSeq = (if x.sequence = BitVec.allOnes 32 then x.sequence else x.sequence + 1)
        | none =>
          t.ccu.odometer = ⟨0, 0⟩ ∧ t.ccu.hours = ⟨0, 0⟩ ∧ (∀ d : Fin 4, t.drs.doors[d].cycles = 0)
          ∧ t.pwc.ignitionCycles = 0 ∧ t.rst.newestCounter = none ∧ t.rst.nextCounterSeq = 1
    (∃ t, exec (.powerOn ⟨pins, senders⟩) s = .next t ∧ afresh t false)
    ∧ (s.supply = true → ∃ t, exec (.pinReset ⟨pins, senders⟩) s = .next t ∧ afresh t true)

/-- POWER_LOSS takes the supply and all RAM state, and of the flash array at the most the block under an
operation; RESET_RELEASE starts the uptime at 0. The state without supply and the part held in reset are the
model's choices (log entries 9, 10). -/
def Obligations.PowerLossKeepsTheFlash : Prop :=
  ∀ s : State, s.supply = true →
    (∃ t, exec .powerLoss s = .next t ∧ t.supply = false ∧ t.pwc.power = .start ∧ t.svc = svcReset
      ∧ t.rst.queue = [] ∧ t.rst.controller = .idle ∧ t.flm.list = [] ∧ t.wre.list = []
      ∧ t.pending = s.pending ∧ t.pins = s.pins
      ∧ (s.rst.controller = .idle → t.rst.flash = s.rst.flash)
      ∧ (∀ (op : FlashOp) (n : Nat),
          s.rst.controller = .erasing op ∨ (∃ j, s.rst.controller = .running j ∧ j.op = op) →
          n / 64 ≠ op.block.val → t.rst.flash.read n = s.rst.flash.read n))
    ∧ (s.pwc.held = true →
      exec .resetRelease s = .next { s with pwc := { s.pwc with held := false, uptime := 0 } })

/-- The aging step of an ignition-on at the Fault List (R146): every STORED entry ages, and leaves at the limit; a step
that finds one raises the generation by 1. -/
def Sys2Proof.Claims.Aged (s t : State) : Prop :=
  let aged (e : FaultEntry) : Option FaultEntry :=
    let aging := if e.aging = 255 then 255 else e.aging + 1
    if e.active then some e
    else if s.cal.general.agingLimit ≤ aging then none
    else some { e with aging := aging }
  t.flm = { s.flm with
    list := s.flm.list.filterMap aged
    generation := if ∃ e ∈ s.flm.list, e.active = false then s.flm.generation + 1 else s.flm.generation }

/-- A channel without a role as the run restart leaves it (R58, R59). -/
def Sys2Proof.Claims.restartedChannel (it : ChannelItem) (active : Fin 32 → Bool) (now : Time) : Channel :=
  let isOpen : Prop := it.defaultSoftGate = true ∧ ∀ n, it.hardwareGate = some n →
    (active n = true ↔ it.gatePolarity = .active)
  { count := 0, hold := 0, result := 0, softGate := it.defaultSoftGate, gateOpen := decide isOpen
    setPoint := it.upperSetPoint, pendingSetPoint := none
    phase := if isOpen ∧ it.mode = .width then .waiting else .idle
    lastDelivery := if it.mode.counts then some 0 else none
    holdOff := none
    window := if isOpen ∧ it.mode = .rate then startTimer now it.rateWindow.ms else none }

/-- The run restart (R16, R25, R34, R59, R132), its doors apart: SENDER, NETWORK, RATE and WIDTH slots are NOT_AVAILABLE
with their value kept, switch and STOPREQ slots take what stands, counting channels deliver their counts, the channels
without a role begin afresh, and every last publication of a sender is absent. -/
def Sys2Proof.Claims.Restarted (s t : State) : Prop :=
  let now := s.pwc.uptime
  (∀ i : Fin 96,
    let x := s.slots[i]
    let silent : Prop := x.kind = .sender ∨ x.kind = .network ∨ (x.kind = .channel ∧ ∃ c : Fin 8,
      x.index = some (c.castLE (by omega)) ∧ s.cal.channels[c].mode.counts = false)
    (silent → t.slots[i] = { x with
      liveStatus := .notAvailable, updateTime := now, substitution := none, refreshTimer := none })
    ∧ (∀ n : Fin 32, x.kind = .switch → x.index = some n →
      t.slots[i].liveStatus = .valid ∧ t.slots[i].liveValue = (if t.switches[n].active then 1 else 0)
        ∧ t.slots[i].updateTime = now)
    ∧ (x.kind = .stopReq → x.index = none →
      t.slots[i].liveStatus = .valid ∧ t.slots[i].liveValue = (if t.drs.latch then 1 else 0)
        ∧ t.slots[i].updateTime = now))
  ∧ (∀ n : Fin 8, t.senders[n] = { s.senders[n] with lastPublication := none })
  ∧ ∀ c : Fin 8,
    let it := s.cal.channels[c]
    let count := match it.role with
      | .noRole => 0 | .odometer => s.ccu.odometer.count | .hours => s.ccu.hours.count
    (it.role = .noRole → it.mode ≠ .off →
      t.ccu.channels[c] = restartedChannel it (fun n => t.switches[n].active) now)
    ∧ (it.role ≠ .noRole → it.mode.counts = true →
      t.ccu.channels[c] = { s.ccu.channels[c] with lastDelivery := some count, holdOff := none })
    ∧ (it.mode.counts = true → ChannelSlotsTake s t c (if 0x7FFFFFFF#32 < count then 0x7FFFFFFF#32 else count))

/-- IGNITION_CHANGE after 50 opposite samples (it takes the change of a full count: log entry 6). From AFTERRUN it is
the ignition-on: RUN, one more ignition cycle, quiet time stopped. From SLEEP it is a wake to RUN besides, with the
first sample of every switch. Each hands Fault Memory the aging step, shown where nothing else reports in the same
event, and with RSTRUN HIGH is a run restart, at which every present door is re-derived, shown from AFTERRUN; without it
the switches, senders and channels stay. From RUN it is the ignition-off: AFTERRUN with the quiet time started, service
mode OFF, every rule IDLE or DISABLED and the list empty, the stop-request latch clear, a COUNTER_SAVE queued. Both
set the POWER notice. That a door in FAULT SWITCH_CONFLICT which re-derives to it once more takes reversal count 0 and
an open start, where R115 says that it stays as it is, is the model's inference (log entry 38), and that the last
delivery recorded is the count before saturation is the model's choice (log entry 46). -/
def Obligations.IgnitionTurnsThePowerState : Prop :=
  ∀ s : State, s.supply = true → s.pwc.ignitionDisagreement = 50 →
    let noRuleReports : Prop := ∀ r : Fin 48, s.cal.rules[r].faultCode = none
    let noDoor : Prop := ∀ d : Fin 4, s.cal.doors[d].present = false
    (s.pwc.power = .afterrun → s.pwc.ignition = false →
      ∃ t, exec .ignitionChange s = .next t ∧
        t.pwc = { s.pwc with
          power := .run, ignition := true, ignitionDisagreement := 0, quiet := false, quietTimer := none
          ignitionCycles := if s.pwc.ignitionCycles = BitVec.allOnes 16 then BitVec.allOnes 16
            else s.pwc.ignitionCycles + 1
          storeIdle := t.pwc.storeIdle }
        ∧ t.opu.power = .run ∧ NoticeOnAll flagPower t ∧ t.wre.tableTaken = true
        ∧ (noRuleReports → s.pwc.rstrun = false ∨ noDoor → Aged s t)
        ∧ (s.pwc.rstrun = false → t.senders = s.senders ∧ t.ccu = s.ccu ∧ t.drs = s.drs ∧ t.slots = s.slots)
        ∧ (s.pwc.rstrun = true → Restarted s t
          ∧ (∀ d : Fin 4, s.cal.doors[d].present = true →
            t.drs.doors[d] = rederivedDoor s.cal.doors[d] s.drs.doors[d] (fun n => s.switches[n].active) s.pwc.uptime
            ∧ t.opu.doorStates[d] = some t.drs.doors[d].state ∧ NoticeOnAll flagDoors t
            ∧ ∀ i : Fin 96, s.slots[i].kind = .door → s.slots[i].index = some (d.castLE (by omega)) →
              t.slots[i].liveStatus = .valid
                ∧ t.slots[i].liveValue = BitVec.ofNat 32 t.drs.doors[d].state.number)
          ∧ (∀ d : Fin 4, s.cal.doors[d].present = false → t.drs.doors[d] = s.drs.doors[d]))
        ∧ SameBase s t ∧ SameStore s t ∧ SamePorts s t ∧ t.switches = s.switches
        ∧ (∀ d : Fin 4, t.drs.doors[d].cycles = s.drs.doors[d].cycles)
        ∧ t.ccu.odometer = s.ccu.odometer ∧ t.ccu.hours = s.ccu.hours)
    ∧ (s.pwc.power = .sleep → s.pwc.ignition = false →
      ∃ t, exec .ignitionChange s = .next t ∧
        t.pwc = { s.pwc with
          power := .run, ignition := true, ignitionDisagreement := 0, quiet := false, quietTimer := none
          ignitionCycles := if s.pwc.ignitionCycles = BitVec.allOnes 16 then BitVec.allOnes 16
            else s.pwc.ignitionCycles + 1
          storeIdle := t.pwc.storeIdle }
        ∧ t.opu.power = .run ∧ NoticeOnAll flagPower t ∧ t.wre.tableTaken = true
        ∧ (∀ n : Fin 32, t.switches[n]
            = ⟨s.pins.switches[n] == (s.cal.switches[n].polarity == .activeHigh), 0⟩)
        ∧ (noRuleReports → noDoor → Aged s t) ∧ (s.pwc.rstrun = true → Restarted s t)
        ∧ SameBase s t ∧ SameStore s t ∧ SamePorts s t
        ∧ (∀ d : Fin 4, t.drs.doors[d].cycles = s.drs.doors[d].cycles)
        ∧ t.ccu.odometer = s.ccu.odometer ∧ t.ccu.hours = s.ccu.hours)
    ∧ (s.pwc.power = .run → s.pwc.ignition = true →
      ∃ t, exec .ignitionChange s = .next t ∧
        t.pwc = { s.pwc with
          power := .afterrun, ignition := false, ignitionDisagreement := 0, quiet := false
          quietTimer := startTimer s.pwc.uptime 10000, storeIdle := t.pwc.storeIdle }
        ∧ t.opu.power = .afterrun ∧ NoticeOnAll flagPower t ∧ t.svc.state = .off
        ∧ t.wre.list = [] ∧ (∀ r : Fin 48, t.wre.rules[r].phase = .idle ∨ t.wre.rules[r].phase = .disabled)
        ∧ t.drs = { s.drs with latch := false } ∧ Job.counterSave ∈ t.rst.queue
        ∧ SameBase s t ∧ SameStore s t ∧ SamePorts s t ∧ t.switches = s.switches ∧ t.senders = s.senders
        ∧ t.ccu = s.ccu)

/-- SLEEP has been entered (R17, R24, R34, R60, R111, R133, R207): outputs at rest, bound slots NOT_AVAILABLE with
their values kept, the inputs that are no closed input of a present door without their counts, the senders without
filtered value, pending time and last publication, the channels and doors with their timers stopped. -/
def Sys2Proof.Claims.Asleep (s t : State) : Prop :=
  t.pwc = { s.pwc with power := .sleep, quiet := true, quietTimer := none, storeIdle := t.pwc.storeIdle }
    ∧ t.opu.outputs = ⟨false, false, false, false, false, true, false⟩
    ∧ (∀ i : Fin 96, s.slots[i].kind ≠ .unused →
      t.slots[i].liveStatus = .notAvailable ∧ t.slots[i].liveValue = s.slots[i].liveValue
        ∧ t.slots[i].refreshTimer = none ∧ t.slots[i].updateTime = s.pwc.uptime)
    ∧ (∀ n : Fin 32, t.switches[n] =
      if ∃ d : Fin 4, s.cal.doors[d].present = true ∧ s.cal.doors[d].closedInput = n then s.switches[n]
      else { s.switches[n] with disagreement := 0 })
    ∧ (∀ n : Fin 8, t.senders[n] =
      { s.senders[n] with filtered := none, pendingTime := none, lastPublication := none })
    ∧ (∀ c : Fin 8, t.ccu.channels[c] = { s.ccu.channels[c] with holdOff := none, window := none, phase := .idle })
    ∧ (∀ d : Fin 4, t.drs.doors[d] =
      { s.drs.doors[d] with openLimit := none, settle := none, closeLimit := none })
    ∧ t.drs.latch = s.drs.latch ∧ t.ccu.odometer = s.ccu.odometer ∧ t.ccu.hours = s.ccu.hours
    ∧ NoticeOnAll flagPower t ∧ SameBase s t ∧ SamePorts s t

/-- QUIET_TIMER_EXPIRY makes quiet YES. In AFTERRUN with the store idle SLEEP follows: lamps and chime off,
DRIVE_INHIBIT asserted, OPEN_ENABLE deasserted, every bound slot NOT_AVAILABLE, inputs, senders, channels and doors
stopped, POWER notice set; otherwise nothing else changes. The store becomes idle at the end of the last operation, of
an append or a background erase with PASS, with the queue empty and no block STALE: with quiet YES in AFTERRUN SLEEP
follows there too, and with quiet NO or in another power state it does not. -/
def Obligations.QuietExpiryLeadsToSleep : Prop :=
  (∀ s : State, s.supply = true → timerDue s.pwc.quietTimer s.pwc.uptime = true →
    (s.pwc.power = .afterrun → s.pwc.storeIdle = true →
      ∃ t, exec .quietTimerExpiry s = .next t ∧ Asleep s t ∧ SameStore s t)
    ∧ (s.pwc.power ≠ .afterrun ∨ s.pwc.storeIdle = false →
      exec .quietTimerExpiry s
        = .next { s with pwc := { s.pwc with quiet := true, quietTimer := none } }))
  ∧ ∀ (s : State) (b : Fin 16), s.supply = true → s.pwc.storeIdle = false → s.rst.queue = [] →
    (s.rst.controller = .erasing (.erase b) ∧ (∀ c : Fin 16, c ≠ b → s.rst.blocks[c].state ≠ .stale))
      ∨ ((∃ j k content, s.rst.controller = .running j ∧ j.task = .append ∧ j.op = .program b k content)
        ∧ ∀ c : Fin 16, s.rst.blocks[c].state ≠ .stale) →
    ∃ t, exec (.flashOperationEnd true) s = .next t
      ∧ (s.pwc.power = .afterrun → s.pwc.quiet = true → Asleep s t)
      ∧ (s.pwc.power ≠ .afterrun ∨ s.pwc.quiet = false →
        t.pwc = { s.pwc with storeIdle := true } ∧ t = { s with pwc := t.pwc, rst := t.rst })
end

