-- ==== Sys2Proof/Laws/State.lean ====
section
/-! SUPPORT. What each named update of the state makes of each field: one lemma per field and update, so that
no proof has to unfold an update of the record. -/

namespace Sys2Proof.Machine

variable (s : State)

/-! ## setSlot -/

@[simp] theorem State.setSlot_cal (i : Fin 96) (x : Slot) : (s.setSlot i x).cal = s.cal := rfl
@[simp] theorem State.setSlot_calLoaded (i : Fin 96) (x : Slot) : (s.setSlot i x).calLoaded = s.calLoaded := rfl
@[simp] theorem State.setSlot_slots (i : Fin 96) (x : Slot) : (s.setSlot i x).slots = s.slots.set i x := rfl
@[simp] theorem State.setSlot_switches (i : Fin 96) (x : Slot) : (s.setSlot i x).switches = s.switches := rfl
@[simp] theorem State.setSlot_senders (i : Fin 96) (x : Slot) : (s.setSlot i x).senders = s.senders := rfl
@[simp] theorem State.setSlot_ccu (i : Fin 96) (x : Slot) : (s.setSlot i x).ccu = s.ccu := rfl
@[simp] theorem State.setSlot_wre (i : Fin 96) (x : Slot) : (s.setSlot i x).wre = s.wre := rfl
@[simp] theorem State.setSlot_opu (i : Fin 96) (x : Slot) : (s.setSlot i x).opu = s.opu := rfl
@[simp] theorem State.setSlot_drs (i : Fin 96) (x : Slot) : (s.setSlot i x).drs = s.drs := rfl
@[simp] theorem State.setSlot_flm (i : Fin 96) (x : Slot) : (s.setSlot i x).flm = s.flm := rfl
@[simp] theorem State.setSlot_rst (i : Fin 96) (x : Slot) : (s.setSlot i x).rst = s.rst := rfl
@[simp] theorem State.setSlot_svc (i : Fin 96) (x : Slot) : (s.setSlot i x).svc = s.svc := rfl
@[simp] theorem State.setSlot_ptu (i : Fin 96) (x : Slot) : (s.setSlot i x).ptu = s.ptu := rfl
@[simp] theorem State.setSlot_pwc (i : Fin 96) (x : Slot) : (s.setSlot i x).pwc = s.pwc := rfl
@[simp] theorem State.setSlot_pins (i : Fin 96) (x : Slot) : (s.setSlot i x).pins = s.pins := rfl
@[simp] theorem State.setSlot_supply (i : Fin 96) (x : Slot) : (s.setSlot i x).supply = s.supply := rfl
@[simp] theorem State.setSlot_draws (i : Fin 96) (x : Slot) : (s.setSlot i x).draws = s.draws := rfl
@[simp] theorem State.setSlot_pending (i : Fin 96) (x : Slot) : (s.setSlot i x).pending = s.pending := rfl

/-! ## setSwitch -/

@[simp] theorem State.setSwitch_cal (i : Fin 32) (x : SwitchState) : (s.setSwitch i x).cal = s.cal := rfl
@[simp] theorem State.setSwitch_calLoaded (i : Fin 32) (x : SwitchState) : (s.setSwitch i x).calLoaded = s.calLoaded := rfl
@[simp] theorem State.setSwitch_slots (i : Fin 32) (x : SwitchState) : (s.setSwitch i x).slots = s.slots := rfl
@[simp] theorem State.setSwitch_switches (i : Fin 32) (x : SwitchState) : (s.setSwitch i x).switches = s.switches.set i x := rfl
@[simp] theorem State.setSwitch_senders (i : Fin 32) (x : SwitchState) : (s.setSwitch i x).senders = s.senders := rfl
@[simp] theorem State.setSwitch_ccu (i : Fin 32) (x : SwitchState) : (s.setSwitch i x).ccu = s.ccu := rfl
@[simp] theorem State.setSwitch_wre (i : Fin 32) (x : SwitchState) : (s.setSwitch i x).wre = s.wre := rfl
@[simp] theorem State.setSwitch_opu (i : Fin 32) (x : SwitchState) : (s.setSwitch i x).opu = s.opu := rfl
@[simp] theorem State.setSwitch_drs (i : Fin 32) (x : SwitchState) : (s.setSwitch i x).drs = s.drs := rfl
@[simp] theorem State.setSwitch_flm (i : Fin 32) (x : SwitchState) : (s.setSwitch i x).flm = s.flm := rfl
@[simp] theorem State.setSwitch_rst (i : Fin 32) (x : SwitchState) : (s.setSwitch i x).rst = s.rst := rfl
@[simp] theorem State.setSwitch_svc (i : Fin 32) (x : SwitchState) : (s.setSwitch i x).svc = s.svc := rfl
@[simp] theorem State.setSwitch_ptu (i : Fin 32) (x : SwitchState) : (s.setSwitch i x).ptu = s.ptu := rfl
@[simp] theorem State.setSwitch_pwc (i : Fin 32) (x : SwitchState) : (s.setSwitch i x).pwc = s.pwc := rfl
@[simp] theorem State.setSwitch_pins (i : Fin 32) (x : SwitchState) : (s.setSwitch i x).pins = s.pins := rfl
@[simp] theorem State.setSwitch_supply (i : Fin 32) (x : SwitchState) : (s.setSwitch i x).supply = s.supply := rfl
@[simp] theorem State.setSwitch_draws (i : Fin 32) (x : SwitchState) : (s.setSwitch i x).draws = s.draws := rfl
@[simp] theorem State.setSwitch_pending (i : Fin 32) (x : SwitchState) : (s.setSwitch i x).pending = s.pending := rfl

/-! ## setSender -/

@[simp] theorem State.setSender_cal (i : Fin 8) (x : SenderState) : (s.setSender i x).cal = s.cal := rfl
@[simp] theorem State.setSender_calLoaded (i : Fin 8) (x : SenderState) : (s.setSender i x).calLoaded = s.calLoaded := rfl
@[simp] theorem State.setSender_slots (i : Fin 8) (x : SenderState) : (s.setSender i x).slots = s.slots := rfl
@[simp] theorem State.setSender_switches (i : Fin 8) (x : SenderState) : (s.setSender i x).switches = s.switches := rfl
@[simp] theorem State.setSender_senders (i : Fin 8) (x : SenderState) : (s.setSender i x).senders = s.senders.set i x := rfl
@[simp] theorem State.setSender_ccu (i : Fin 8) (x : SenderState) : (s.setSender i x).ccu = s.ccu := rfl
@[simp] theorem State.setSender_wre (i : Fin 8) (x : SenderState) : (s.setSender i x).wre = s.wre := rfl
@[simp] theorem State.setSender_opu (i : Fin 8) (x : SenderState) : (s.setSender i x).opu = s.opu := rfl
@[simp] theorem State.setSender_drs (i : Fin 8) (x : SenderState) : (s.setSender i x).drs = s.drs := rfl
@[simp] theorem State.setSender_flm (i : Fin 8) (x : SenderState) : (s.setSender i x).flm = s.flm := rfl
@[simp] theorem State.setSender_rst (i : Fin 8) (x : SenderState) : (s.setSender i x).rst = s.rst := rfl
@[simp] theorem State.setSender_svc (i : Fin 8) (x : SenderState) : (s.setSender i x).svc = s.svc := rfl
@[simp] theorem State.setSender_ptu (i : Fin 8) (x : SenderState) : (s.setSender i x).ptu = s.ptu := rfl
@[simp] theorem State.setSender_pwc (i : Fin 8) (x : SenderState) : (s.setSender i x).pwc = s.pwc := rfl
@[simp] theorem State.setSender_pins (i : Fin 8) (x : SenderState) : (s.setSender i x).pins = s.pins := rfl
@[simp] theorem State.setSender_supply (i : Fin 8) (x : SenderState) : (s.setSender i x).supply = s.supply := rfl
@[simp] theorem State.setSender_draws (i : Fin 8) (x : SenderState) : (s.setSender i x).draws = s.draws := rfl
@[simp] theorem State.setSender_pending (i : Fin 8) (x : SenderState) : (s.setSender i x).pending = s.pending := rfl

/-! ## setChannel -/

@[simp] theorem State.setChannel_cal (i : Fin 8) (x : Channel) : (s.setChannel i x).cal = s.cal := rfl
@[simp] theorem State.setChannel_calLoaded (i : Fin 8) (x : Channel) : (s.setChannel i x).calLoaded = s.calLoaded := rfl
@[simp] theorem State.setChannel_slots (i : Fin 8) (x : Channel) : (s.setChannel i x).slots = s.slots := rfl
@[simp] theorem State.setChannel_switches (i : Fin 8) (x : Channel) : (s.setChannel i x).switches = s.switches := rfl
@[simp] theorem State.setChannel_senders (i : Fin 8) (x : Channel) : (s.setChannel i x).senders = s.senders := rfl
@[simp] theorem State.setChannel_ccu (i : Fin 8) (x : Channel) : (s.setChannel i x).ccu = { s.ccu with channels := s.ccu.channels.set i x } := rfl
@[simp] theorem State.setChannel_wre (i : Fin 8) (x : Channel) : (s.setChannel i x).wre = s.wre := rfl
@[simp] theorem State.setChannel_opu (i : Fin 8) (x : Channel) : (s.setChannel i x).opu = s.opu := rfl
@[simp] theorem State.setChannel_drs (i : Fin 8) (x : Channel) : (s.setChannel i x).drs = s.drs := rfl
@[simp] theorem State.setChannel_flm (i : Fin 8) (x : Channel) : (s.setChannel i x).flm = s.flm := rfl
@[simp] theorem State.setChannel_rst (i : Fin 8) (x : Channel) : (s.setChannel i x).rst = s.rst := rfl
@[simp] theorem State.setChannel_svc (i : Fin 8) (x : Channel) : (s.setChannel i x).svc = s.svc := rfl
@[simp] theorem State.setChannel_ptu (i : Fin 8) (x : Channel) : (s.setChannel i x).ptu = s.ptu := rfl
@[simp] theorem State.setChannel_pwc (i : Fin 8) (x : Channel) : (s.setChannel i x).pwc = s.pwc := rfl
@[simp] theorem State.setChannel_pins (i : Fin 8) (x : Channel) : (s.setChannel i x).pins = s.pins := rfl
@[simp] theorem State.setChannel_supply (i : Fin 8) (x : Channel) : (s.setChannel i x).supply = s.supply := rfl
@[simp] theorem State.setChannel_draws (i : Fin 8) (x : Channel) : (s.setChannel i x).draws = s.draws := rfl
@[simp] theorem State.setChannel_pending (i : Fin 8) (x : Channel) : (s.setChannel i x).pending = s.pending := rfl

/-! ## setDoor -/

@[simp] theorem State.setDoor_cal (i : Fin 4) (x : DoorRecord) : (s.setDoor i x).cal = s.cal := rfl
@[simp] theorem State.setDoor_calLoaded (i : Fin 4) (x : DoorRecord) : (s.setDoor i x).calLoaded = s.calLoaded := rfl
@[simp] theorem State.setDoor_slots (i : Fin 4) (x : DoorRecord) : (s.setDoor i x).slots = s.slots := rfl
@[simp] theorem State.setDoor_switches (i : Fin 4) (x : DoorRecord) : (s.setDoor i x).switches = s.switches := rfl
@[simp] theorem State.setDoor_senders (i : Fin 4) (x : DoorRecord) : (s.setDoor i x).senders = s.senders := rfl
@[simp] theorem State.setDoor_ccu (i : Fin 4) (x : DoorRecord) : (s.setDoor i x).ccu = s.ccu := rfl
@[simp] theorem State.setDoor_wre (i : Fin 4) (x : DoorRecord) : (s.setDoor i x).wre = s.wre := rfl
@[simp] theorem State.setDoor_opu (i : Fin 4) (x : DoorRecord) : (s.setDoor i x).opu = s.opu := rfl
@[simp] theorem State.setDoor_drs (i : Fin 4) (x : DoorRecord) : (s.setDoor i x).drs = { s.drs with doors := s.drs.doors.set i x } := rfl
@[simp] theorem State.setDoor_flm (i : Fin 4) (x : DoorRecord) : (s.setDoor i x).flm = s.flm := rfl
@[simp] theorem State.setDoor_rst (i : Fin 4) (x : DoorRecord) : (s.setDoor i x).rst = s.rst := rfl
@[simp] theorem State.setDoor_svc (i : Fin 4) (x : DoorRecord) : (s.setDoor i x).svc = s.svc := rfl
@[simp] theorem State.setDoor_ptu (i : Fin 4) (x : DoorRecord) : (s.setDoor i x).ptu = s.ptu := rfl
@[simp] theorem State.setDoor_pwc (i : Fin 4) (x : DoorRecord) : (s.setDoor i x).pwc = s.pwc := rfl
@[simp] theorem State.setDoor_pins (i : Fin 4) (x : DoorRecord) : (s.setDoor i x).pins = s.pins := rfl
@[simp] theorem State.setDoor_supply (i : Fin 4) (x : DoorRecord) : (s.setDoor i x).supply = s.supply := rfl
@[simp] theorem State.setDoor_draws (i : Fin 4) (x : DoorRecord) : (s.setDoor i x).draws = s.draws := rfl
@[simp] theorem State.setDoor_pending (i : Fin 4) (x : DoorRecord) : (s.setDoor i x).pending = s.pending := rfl

/-! ## onOpu -/

@[simp] theorem State.onOpu_cal (f : Opu → Opu) : (s.onOpu f).cal = s.cal := rfl
@[simp] theorem State.onOpu_calLoaded (f : Opu → Opu) : (s.onOpu f).calLoaded = s.calLoaded := rfl
@[simp] theorem State.onOpu_slots (f : Opu → Opu) : (s.onOpu f).slots = s.slots := rfl
@[simp] theorem State.onOpu_switches (f : Opu → Opu) : (s.onOpu f).switches = s.switches := rfl
@[simp] theorem State.onOpu_senders (f : Opu → Opu) : (s.onOpu f).senders = s.senders := rfl
@[simp] theorem State.onOpu_ccu (f : Opu → Opu) : (s.onOpu f).ccu = s.ccu := rfl
@[simp] theorem State.onOpu_wre (f : Opu → Opu) : (s.onOpu f).wre = s.wre := rfl
@[simp] theorem State.onOpu_opu (f : Opu → Opu) : (s.onOpu f).opu = f s.opu := rfl
@[simp] theorem State.onOpu_drs (f : Opu → Opu) : (s.onOpu f).drs = s.drs := rfl
@[simp] theorem State.onOpu_flm (f : Opu → Opu) : (s.onOpu f).flm = s.flm := rfl
@[simp] theorem State.onOpu_rst (f : Opu → Opu) : (s.onOpu f).rst = s.rst := rfl
@[simp] theorem State.onOpu_svc (f : Opu → Opu) : (s.onOpu f).svc = s.svc := rfl
@[simp] theorem State.onOpu_ptu (f : Opu → Opu) : (s.onOpu f).ptu = s.ptu := rfl
@[simp] theorem State.onOpu_pwc (f : Opu → Opu) : (s.onOpu f).pwc = s.pwc := rfl
@[simp] theorem State.onOpu_pins (f : Opu → Opu) : (s.onOpu f).pins = s.pins := rfl
@[simp] theorem State.onOpu_supply (f : Opu → Opu) : (s.onOpu f).supply = s.supply := rfl
@[simp] theorem State.onOpu_draws (f : Opu → Opu) : (s.onOpu f).draws = s.draws := rfl
@[simp] theorem State.onOpu_pending (f : Opu → Opu) : (s.onOpu f).pending = s.pending := rfl

/-! ## opuEvent -/

@[simp] theorem State.opuEvent_cal (f : Opu → Opu) : (s.opuEvent f).cal = s.cal := rfl
@[simp] theorem State.opuEvent_calLoaded (f : Opu → Opu) : (s.opuEvent f).calLoaded = s.calLoaded := rfl
@[simp] theorem State.opuEvent_slots (f : Opu → Opu) : (s.opuEvent f).slots = s.slots := rfl
@[simp] theorem State.opuEvent_switches (f : Opu → Opu) : (s.opuEvent f).switches = s.switches := rfl
@[simp] theorem State.opuEvent_senders (f : Opu → Opu) : (s.opuEvent f).senders = s.senders := rfl
@[simp] theorem State.opuEvent_ccu (f : Opu → Opu) : (s.opuEvent f).ccu = s.ccu := rfl
@[simp] theorem State.opuEvent_wre (f : Opu → Opu) : (s.opuEvent f).wre = s.wre := rfl
@[simp] theorem State.opuEvent_opu (f : Opu → Opu) : (s.opuEvent f).opu = (f s.opu).settle := rfl
@[simp] theorem State.opuEvent_drs (f : Opu → Opu) : (s.opuEvent f).drs = s.drs := rfl
@[simp] theorem State.opuEvent_flm (f : Opu → Opu) : (s.opuEvent f).flm = s.flm := rfl
@[simp] theorem State.opuEvent_rst (f : Opu → Opu) : (s.opuEvent f).rst = s.rst := rfl
@[simp] theorem State.opuEvent_svc (f : Opu → Opu) : (s.opuEvent f).svc = s.svc := rfl
@[simp] theorem State.opuEvent_ptu (f : Opu → Opu) : (s.opuEvent f).ptu = s.ptu := rfl
@[simp] theorem State.opuEvent_pwc (f : Opu → Opu) : (s.opuEvent f).pwc = s.pwc := rfl
@[simp] theorem State.opuEvent_pins (f : Opu → Opu) : (s.opuEvent f).pins = s.pins := rfl
@[simp] theorem State.opuEvent_supply (f : Opu → Opu) : (s.opuEvent f).supply = s.supply := rfl
@[simp] theorem State.opuEvent_draws (f : Opu → Opu) : (s.opuEvent f).draws = s.draws := rfl
@[simp] theorem State.opuEvent_pending (f : Opu → Opu) : (s.opuEvent f).pending = s.pending := rfl

/-! ## setWre -/

@[simp] theorem State.setWre_cal (x : Wre) : (s.setWre x).cal = s.cal := rfl
@[simp] theorem State.setWre_calLoaded (x : Wre) : (s.setWre x).calLoaded = s.calLoaded := rfl
@[simp] theorem State.setWre_slots (x : Wre) : (s.setWre x).slots = s.slots := rfl
@[simp] theorem State.setWre_switches (x : Wre) : (s.setWre x).switches = s.switches := rfl
@[simp] theorem State.setWre_senders (x : Wre) : (s.setWre x).senders = s.senders := rfl
@[simp] theorem State.setWre_ccu (x : Wre) : (s.setWre x).ccu = s.ccu := rfl
@[simp] theorem State.setWre_wre (x : Wre) : (s.setWre x).wre = x := rfl
@[simp] theorem State.setWre_opu (x : Wre) : (s.setWre x).opu = s.opu := rfl
@[simp] theorem State.setWre_drs (x : Wre) : (s.setWre x).drs = s.drs := rfl
@[simp] theorem State.setWre_flm (x : Wre) : (s.setWre x).flm = s.flm := rfl
@[simp] theorem State.setWre_rst (x : Wre) : (s.setWre x).rst = s.rst := rfl
@[simp] theorem State.setWre_svc (x : Wre) : (s.setWre x).svc = s.svc := rfl
@[simp] theorem State.setWre_ptu (x : Wre) : (s.setWre x).ptu = s.ptu := rfl
@[simp] theorem State.setWre_pwc (x : Wre) : (s.setWre x).pwc = s.pwc := rfl
@[simp] theorem State.setWre_pins (x : Wre) : (s.setWre x).pins = s.pins := rfl
@[simp] theorem State.setWre_supply (x : Wre) : (s.setWre x).supply = s.supply := rfl
@[simp] theorem State.setWre_draws (x : Wre) : (s.setWre x).draws = s.draws := rfl
@[simp] theorem State.setWre_pending (x : Wre) : (s.setWre x).pending = s.pending := rfl

/-! ## setFlm -/

@[simp] theorem State.setFlm_cal (x : Flm) : (s.setFlm x).cal = s.cal := rfl
@[simp] theorem State.setFlm_calLoaded (x : Flm) : (s.setFlm x).calLoaded = s.calLoaded := rfl
@[simp] theorem State.setFlm_slots (x : Flm) : (s.setFlm x).slots = s.slots := rfl
@[simp] theorem State.setFlm_switches (x : Flm) : (s.setFlm x).switches = s.switches := rfl
@[simp] theorem State.setFlm_senders (x : Flm) : (s.setFlm x).senders = s.senders := rfl
@[simp] theorem State.setFlm_ccu (x : Flm) : (s.setFlm x).ccu = s.ccu := rfl
@[simp] theorem State.setFlm_wre (x : Flm) : (s.setFlm x).wre = s.wre := rfl
@[simp] theorem State.setFlm_opu (x : Flm) : (s.setFlm x).opu = s.opu := rfl
@[simp] theorem State.setFlm_drs (x : Flm) : (s.setFlm x).drs = s.drs := rfl
@[simp] theorem State.setFlm_flm (x : Flm) : (s.setFlm x).flm = x := rfl
@[simp] theorem State.setFlm_rst (x : Flm) : (s.setFlm x).rst = s.rst := rfl
@[simp] theorem State.setFlm_svc (x : Flm) : (s.setFlm x).svc = s.svc := rfl
@[simp] theorem State.setFlm_ptu (x : Flm) : (s.setFlm x).ptu = s.ptu := rfl
@[simp] theorem State.setFlm_pwc (x : Flm) : (s.setFlm x).pwc = s.pwc := rfl
@[simp] theorem State.setFlm_pins (x : Flm) : (s.setFlm x).pins = s.pins := rfl
@[simp] theorem State.setFlm_supply (x : Flm) : (s.setFlm x).supply = s.supply := rfl
@[simp] theorem State.setFlm_draws (x : Flm) : (s.setFlm x).draws = s.draws := rfl
@[simp] theorem State.setFlm_pending (x : Flm) : (s.setFlm x).pending = s.pending := rfl

/-! ## setRst -/

@[simp] theorem State.setRst_cal (x : Rst) : (s.setRst x).cal = s.cal := rfl
@[simp] theorem State.setRst_calLoaded (x : Rst) : (s.setRst x).calLoaded = s.calLoaded := rfl
@[simp] theorem State.setRst_slots (x : Rst) : (s.setRst x).slots = s.slots := rfl
@[simp] theorem State.setRst_switches (x : Rst) : (s.setRst x).switches = s.switches := rfl
@[simp] theorem State.setRst_senders (x : Rst) : (s.setRst x).senders = s.senders := rfl
@[simp] theorem State.setRst_ccu (x : Rst) : (s.setRst x).ccu = s.ccu := rfl
@[simp] theorem State.setRst_wre (x : Rst) : (s.setRst x).wre = s.wre := rfl
@[simp] theorem State.setRst_opu (x : Rst) : (s.setRst x).opu = s.opu := rfl
@[simp] theorem State.setRst_drs (x : Rst) : (s.setRst x).drs = s.drs := rfl
@[simp] theorem State.setRst_flm (x : Rst) : (s.setRst x).flm = s.flm := rfl
@[simp] theorem State.setRst_rst (x : Rst) : (s.setRst x).rst = x := rfl
@[simp] theorem State.setRst_svc (x : Rst) : (s.setRst x).svc = s.svc := rfl
@[simp] theorem State.setRst_ptu (x : Rst) : (s.setRst x).ptu = s.ptu := rfl
@[simp] theorem State.setRst_pwc (x : Rst) : (s.setRst x).pwc = s.pwc := rfl
@[simp] theorem State.setRst_pins (x : Rst) : (s.setRst x).pins = s.pins := rfl
@[simp] theorem State.setRst_supply (x : Rst) : (s.setRst x).supply = s.supply := rfl
@[simp] theorem State.setRst_draws (x : Rst) : (s.setRst x).draws = s.draws := rfl
@[simp] theorem State.setRst_pending (x : Rst) : (s.setRst x).pending = s.pending := rfl

/-! ## setSvc -/

@[simp] theorem State.setSvc_cal (x : Svc) : (s.setSvc x).cal = s.cal := rfl
@[simp] theorem State.setSvc_calLoaded (x : Svc) : (s.setSvc x).calLoaded = s.calLoaded := rfl
@[simp] theorem State.setSvc_slots (x : Svc) : (s.setSvc x).slots = s.slots := rfl
@[simp] theorem State.setSvc_switches (x : Svc) : (s.setSvc x).switches = s.switches := rfl
@[simp] theorem State.setSvc_senders (x : Svc) : (s.setSvc x).senders = s.senders := rfl
@[simp] theorem State.setSvc_ccu (x : Svc) : (s.setSvc x).ccu = s.ccu := rfl
@[simp] theorem State.setSvc_wre (x : Svc) : (s.setSvc x).wre = s.wre := rfl
@[simp] theorem State.setSvc_opu (x : Svc) : (s.setSvc x).opu = s.opu := rfl
@[simp] theorem State.setSvc_drs (x : Svc) : (s.setSvc x).drs = s.drs := rfl
@[simp] theorem State.setSvc_flm (x : Svc) : (s.setSvc x).flm = s.flm := rfl
@[simp] theorem State.setSvc_rst (x : Svc) : (s.setSvc x).rst = s.rst := rfl
@[simp] theorem State.setSvc_svc (x : Svc) : (s.setSvc x).svc = x := rfl
@[simp] theorem State.setSvc_ptu (x : Svc) : (s.setSvc x).ptu = s.ptu := rfl
@[simp] theorem State.setSvc_pwc (x : Svc) : (s.setSvc x).pwc = s.pwc := rfl
@[simp] theorem State.setSvc_pins (x : Svc) : (s.setSvc x).pins = s.pins := rfl
@[simp] theorem State.setSvc_supply (x : Svc) : (s.setSvc x).supply = s.supply := rfl
@[simp] theorem State.setSvc_draws (x : Svc) : (s.setSvc x).draws = s.draws := rfl
@[simp] theorem State.setSvc_pending (x : Svc) : (s.setSvc x).pending = s.pending := rfl

/-! ## setPwc -/

@[simp] theorem State.setPwc_cal (x : Pwc) : (s.setPwc x).cal = s.cal := rfl
@[simp] theorem State.setPwc_calLoaded (x : Pwc) : (s.setPwc x).calLoaded = s.calLoaded := rfl
@[simp] theorem State.setPwc_slots (x : Pwc) : (s.setPwc x).slots = s.slots := rfl
@[simp] theorem State.setPwc_switches (x : Pwc) : (s.setPwc x).switches = s.switches := rfl
@[simp] theorem State.setPwc_senders (x : Pwc) : (s.setPwc x).senders = s.senders := rfl
@[simp] theorem State.setPwc_ccu (x : Pwc) : (s.setPwc x).ccu = s.ccu := rfl
@[simp] theorem State.setPwc_wre (x : Pwc) : (s.setPwc x).wre = s.wre := rfl
@[simp] theorem State.setPwc_opu (x : Pwc) : (s.setPwc x).opu = s.opu := rfl
@[simp] theorem State.setPwc_drs (x : Pwc) : (s.setPwc x).drs = s.drs := rfl
@[simp] theorem State.setPwc_flm (x : Pwc) : (s.setPwc x).flm = s.flm := rfl
@[simp] theorem State.setPwc_rst (x : Pwc) : (s.setPwc x).rst = s.rst := rfl
@[simp] theorem State.setPwc_svc (x : Pwc) : (s.setPwc x).svc = s.svc := rfl
@[simp] theorem State.setPwc_ptu (x : Pwc) : (s.setPwc x).ptu = s.ptu := rfl
@[simp] theorem State.setPwc_pwc (x : Pwc) : (s.setPwc x).pwc = x := rfl
@[simp] theorem State.setPwc_pins (x : Pwc) : (s.setPwc x).pins = s.pins := rfl
@[simp] theorem State.setPwc_supply (x : Pwc) : (s.setPwc x).supply = s.supply := rfl
@[simp] theorem State.setPwc_draws (x : Pwc) : (s.setPwc x).draws = s.draws := rfl
@[simp] theorem State.setPwc_pending (x : Pwc) : (s.setPwc x).pending = s.pending := rfl

/-! ## setPort -/

@[simp] theorem State.setPort_cal (p : Port) (x : PortRecord) : (s.setPort p x).cal = s.cal := rfl
@[simp] theorem State.setPort_calLoaded (p : Port) (x : PortRecord) : (s.setPort p x).calLoaded = s.calLoaded := rfl
@[simp] theorem State.setPort_slots (p : Port) (x : PortRecord) : (s.setPort p x).slots = s.slots := rfl
@[simp] theorem State.setPort_switches (p : Port) (x : PortRecord) : (s.setPort p x).switches = s.switches := rfl
@[simp] theorem State.setPort_senders (p : Port) (x : PortRecord) : (s.setPort p x).senders = s.senders := rfl
@[simp] theorem State.setPort_ccu (p : Port) (x : PortRecord) : (s.setPort p x).ccu = s.ccu := rfl
@[simp] theorem State.setPort_wre (p : Port) (x : PortRecord) : (s.setPort p x).wre = s.wre := rfl
@[simp] theorem State.setPort_opu (p : Port) (x : PortRecord) : (s.setPort p x).opu = s.opu := rfl
@[simp] theorem State.setPort_drs (p : Port) (x : PortRecord) : (s.setPort p x).drs = s.drs := rfl
@[simp] theorem State.setPort_flm (p : Port) (x : PortRecord) : (s.setPort p x).flm = s.flm := rfl
@[simp] theorem State.setPort_rst (p : Port) (x : PortRecord) : (s.setPort p x).rst = s.rst := rfl
@[simp] theorem State.setPort_svc (p : Port) (x : PortRecord) : (s.setPort p x).svc = s.svc := rfl
@[simp] theorem State.setPort_ptu (p : Port) (x : PortRecord) : (s.setPort p x).ptu = s.ptu.set p x := rfl
@[simp] theorem State.setPort_pwc (p : Port) (x : PortRecord) : (s.setPort p x).pwc = s.pwc := rfl
@[simp] theorem State.setPort_pins (p : Port) (x : PortRecord) : (s.setPort p x).pins = s.pins := rfl
@[simp] theorem State.setPort_supply (p : Port) (x : PortRecord) : (s.setPort p x).supply = s.supply := rfl
@[simp] theorem State.setPort_draws (p : Port) (x : PortRecord) : (s.setPort p x).draws = s.draws := rfl
@[simp] theorem State.setPort_pending (p : Port) (x : PortRecord) : (s.setPort p x).pending = s.pending := rfl

/-! ## noticeOn -/

@[simp] theorem State.noticeOn_cal (p : Port) (f : Notices) : (s.noticeOn p f).cal = s.cal := rfl
@[simp] theorem State.noticeOn_calLoaded (p : Port) (f : Notices) : (s.noticeOn p f).calLoaded = s.calLoaded := rfl
@[simp] theorem State.noticeOn_slots (p : Port) (f : Notices) : (s.noticeOn p f).slots = s.slots := rfl
@[simp] theorem State.noticeOn_switches (p : Port) (f : Notices) : (s.noticeOn p f).switches = s.switches := rfl
@[simp] theorem State.noticeOn_senders (p : Port) (f : Notices) : (s.noticeOn p f).senders = s.senders := rfl
@[simp] theorem State.noticeOn_ccu (p : Port) (f : Notices) : (s.noticeOn p f).ccu = s.ccu := rfl
@[simp] theorem State.noticeOn_wre (p : Port) (f : Notices) : (s.noticeOn p f).wre = s.wre := rfl
@[simp] theorem State.noticeOn_opu (p : Port) (f : Notices) : (s.noticeOn p f).opu = s.opu := rfl
@[simp] theorem State.noticeOn_drs (p : Port) (f : Notices) : (s.noticeOn p f).drs = s.drs := rfl
@[simp] theorem State.noticeOn_flm (p : Port) (f : Notices) : (s.noticeOn p f).flm = s.flm := rfl
@[simp] theorem State.noticeOn_rst (p : Port) (f : Notices) : (s.noticeOn p f).rst = s.rst := rfl
@[simp] theorem State.noticeOn_svc (p : Port) (f : Notices) : (s.noticeOn p f).svc = s.svc := rfl
@[simp] theorem State.noticeOn_ptu (p : Port) (f : Notices) : (s.noticeOn p f).ptu = s.ptu.set p ((s.ptu.get p).notice f) := rfl
@[simp] theorem State.noticeOn_pwc (p : Port) (f : Notices) : (s.noticeOn p f).pwc = s.pwc := rfl
@[simp] theorem State.noticeOn_pins (p : Port) (f : Notices) : (s.noticeOn p f).pins = s.pins := rfl
@[simp] theorem State.noticeOn_supply (p : Port) (f : Notices) : (s.noticeOn p f).supply = s.supply := rfl
@[simp] theorem State.noticeOn_draws (p : Port) (f : Notices) : (s.noticeOn p f).draws = s.draws := rfl
@[simp] theorem State.noticeOn_pending (p : Port) (f : Notices) : (s.noticeOn p f).pending = s.pending := rfl

/-! ## notice -/

@[simp] theorem State.notice_cal (f : Notices) : (s.notice f).cal = s.cal := rfl
@[simp] theorem State.notice_calLoaded (f : Notices) : (s.notice f).calLoaded = s.calLoaded := rfl
@[simp] theorem State.notice_slots (f : Notices) : (s.notice f).slots = s.slots := rfl
@[simp] theorem State.notice_switches (f : Notices) : (s.notice f).switches = s.switches := rfl
@[simp] theorem State.notice_senders (f : Notices) : (s.notice f).senders = s.senders := rfl
@[simp] theorem State.notice_ccu (f : Notices) : (s.notice f).ccu = s.ccu := rfl
@[simp] theorem State.notice_wre (f : Notices) : (s.notice f).wre = s.wre := rfl
@[simp] theorem State.notice_opu (f : Notices) : (s.notice f).opu = s.opu := rfl
@[simp] theorem State.notice_drs (f : Notices) : (s.notice f).drs = s.drs := rfl
@[simp] theorem State.notice_flm (f : Notices) : (s.notice f).flm = s.flm := rfl
@[simp] theorem State.notice_rst (f : Notices) : (s.notice f).rst = s.rst := rfl
@[simp] theorem State.notice_svc (f : Notices) : (s.notice f).svc = s.svc := rfl
@[simp] theorem State.notice_ptu (f : Notices) : (s.notice f).ptu = ⟨s.ptu.cluster.notice f, s.ptu.body.notice f, s.ptu.service.notice f⟩ := rfl
@[simp] theorem State.notice_pwc (f : Notices) : (s.notice f).pwc = s.pwc := rfl
@[simp] theorem State.notice_pins (f : Notices) : (s.notice f).pins = s.pins := rfl
@[simp] theorem State.notice_supply (f : Notices) : (s.notice f).supply = s.supply := rfl
@[simp] theorem State.notice_draws (f : Notices) : (s.notice f).draws = s.draws := rfl
@[simp] theorem State.notice_pending (f : Notices) : (s.notice f).pending = s.pending := rfl

/-! ## drawn -/

@[simp] theorem State.drawn_cal : s.drawn.cal = s.cal := rfl
@[simp] theorem State.drawn_calLoaded : s.drawn.calLoaded = s.calLoaded := rfl
@[simp] theorem State.drawn_slots : s.drawn.slots = s.slots := rfl
@[simp] theorem State.drawn_switches : s.drawn.switches = s.switches := rfl
@[simp] theorem State.drawn_senders : s.drawn.senders = s.senders := rfl
@[simp] theorem State.drawn_ccu : s.drawn.ccu = s.ccu := rfl
@[simp] theorem State.drawn_wre : s.drawn.wre = s.wre := rfl
@[simp] theorem State.drawn_opu : s.drawn.opu = s.opu := rfl
@[simp] theorem State.drawn_drs : s.drawn.drs = s.drs := rfl
@[simp] theorem State.drawn_flm : s.drawn.flm = s.flm := rfl
@[simp] theorem State.drawn_rst : s.drawn.rst = s.rst := rfl
@[simp] theorem State.drawn_svc : s.drawn.svc = s.svc := rfl
@[simp] theorem State.drawn_ptu : s.drawn.ptu = s.ptu := rfl
@[simp] theorem State.drawn_pwc : s.drawn.pwc = s.pwc := rfl
@[simp] theorem State.drawn_pins : s.drawn.pins = s.pins := rfl
@[simp] theorem State.drawn_supply : s.drawn.supply = s.supply := rfl
@[simp] theorem State.drawn_draws : s.drawn.draws = s.draws + 1 := rfl
@[simp] theorem State.drawn_pending : s.drawn.pending = s.pending := rfl

/-! ## withQueue -/

@[simp] theorem State.withQueue_cal (q : List Instr) : (s.withQueue q).cal = s.cal := rfl
@[simp] theorem State.withQueue_calLoaded (q : List Instr) : (s.withQueue q).calLoaded = s.calLoaded := rfl
@[simp] theorem State.withQueue_slots (q : List Instr) : (s.withQueue q).slots = s.slots := rfl
@[simp] theorem State.withQueue_switches (q : List Instr) : (s.withQueue q).switches = s.switches := rfl
@[simp] theorem State.withQueue_senders (q : List Instr) : (s.withQueue q).senders = s.senders := rfl
@[simp] theorem State.withQueue_ccu (q : List Instr) : (s.withQueue q).ccu = s.ccu := rfl
@[simp] theorem State.withQueue_wre (q : List Instr) : (s.withQueue q).wre = s.wre := rfl
@[simp] theorem State.withQueue_opu (q : List Instr) : (s.withQueue q).opu = s.opu := rfl
@[simp] theorem State.withQueue_drs (q : List Instr) : (s.withQueue q).drs = s.drs := rfl
@[simp] theorem State.withQueue_flm (q : List Instr) : (s.withQueue q).flm = s.flm := rfl
@[simp] theorem State.withQueue_rst (q : List Instr) : (s.withQueue q).rst = s.rst := rfl
@[simp] theorem State.withQueue_svc (q : List Instr) : (s.withQueue q).svc = s.svc := rfl
@[simp] theorem State.withQueue_ptu (q : List Instr) : (s.withQueue q).ptu = s.ptu := rfl
@[simp] theorem State.withQueue_pwc (q : List Instr) : (s.withQueue q).pwc = s.pwc := rfl
@[simp] theorem State.withQueue_pins (q : List Instr) : (s.withQueue q).pins = s.pins := rfl
@[simp] theorem State.withQueue_supply (q : List Instr) : (s.withQueue q).supply = s.supply := rfl
@[simp] theorem State.withQueue_draws (q : List Instr) : (s.withQueue q).draws = s.draws := rfl
@[simp] theorem State.withQueue_pending (q : List Instr) : (s.withQueue q).pending = q := rfl

/-! ## putLatch -/

@[simp] theorem State.putLatch_cal (b : Bool) : (s.putLatch b).cal = s.cal := rfl
@[simp] theorem State.putLatch_calLoaded (b : Bool) : (s.putLatch b).calLoaded = s.calLoaded := rfl
@[simp] theorem State.putLatch_slots (b : Bool) : (s.putLatch b).slots = s.slots := rfl
@[simp] theorem State.putLatch_switches (b : Bool) : (s.putLatch b).switches = s.switches := rfl
@[simp] theorem State.putLatch_senders (b : Bool) : (s.putLatch b).senders = s.senders := rfl
@[simp] theorem State.putLatch_ccu (b : Bool) : (s.putLatch b).ccu = s.ccu := rfl
@[simp] theorem State.putLatch_wre (b : Bool) : (s.putLatch b).wre = s.wre := rfl
@[simp] theorem State.putLatch_opu (b : Bool) : (s.putLatch b).opu = s.opu := rfl
@[simp] theorem State.putLatch_drs (b : Bool) : (s.putLatch b).drs = { s.drs with latch := b } := rfl
@[simp] theorem State.putLatch_flm (b : Bool) : (s.putLatch b).flm = s.flm := rfl
@[simp] theorem State.putLatch_rst (b : Bool) : (s.putLatch b).rst = s.rst := rfl
@[simp] theorem State.putLatch_svc (b : Bool) : (s.putLatch b).svc = s.svc := rfl
@[simp] theorem State.putLatch_ptu (b : Bool) : (s.putLatch b).ptu = s.ptu := rfl
@[simp] theorem State.putLatch_pwc (b : Bool) : (s.putLatch b).pwc = s.pwc := rfl
@[simp] theorem State.putLatch_pins (b : Bool) : (s.putLatch b).pins = s.pins := rfl
@[simp] theorem State.putLatch_supply (b : Bool) : (s.putLatch b).supply = s.supply := rfl
@[simp] theorem State.putLatch_draws (b : Bool) : (s.putLatch b).draws = s.draws := rfl
@[simp] theorem State.putLatch_pending (b : Bool) : (s.putLatch b).pending = s.pending := rfl

/-! ## putOdometer -/

@[simp] theorem State.putOdometer_cal (r : RoleCount) : (s.putOdometer r).cal = s.cal := rfl
@[simp] theorem State.putOdometer_calLoaded (r : RoleCount) : (s.putOdometer r).calLoaded = s.calLoaded := rfl
@[simp] theorem State.putOdometer_slots (r : RoleCount) : (s.putOdometer r).slots = s.slots := rfl
@[simp] theorem State.putOdometer_switches (r : RoleCount) : (s.putOdometer r).switches = s.switches := rfl
@[simp] theorem State.putOdometer_senders (r : RoleCount) : (s.putOdometer r).senders = s.senders := rfl
@[simp] theorem State.putOdometer_ccu (r : RoleCount) : (s.putOdometer r).ccu = { s.ccu with odometer := r } := rfl
@[simp] theorem State.putOdometer_wre (r : RoleCount) : (s.putOdometer r).wre = s.wre := rfl
@[simp] theorem State.putOdometer_opu (r : RoleCount) : (s.putOdometer r).opu = s.opu := rfl
@[simp] theorem State.putOdometer_drs (r : RoleCount) : (s.putOdometer r).drs = s.drs := rfl
@[simp] theorem State.putOdometer_flm (r : RoleCount) : (s.putOdometer r).flm = s.flm := rfl
@[simp] theorem State.putOdometer_rst (r : RoleCount) : (s.putOdometer r).rst = s.rst := rfl
@[simp] theorem State.putOdometer_svc (r : RoleCount) : (s.putOdometer r).svc = s.svc := rfl
@[simp] theorem State.putOdometer_ptu (r : RoleCount) : (s.putOdometer r).ptu = s.ptu := rfl
@[simp] theorem State.putOdometer_pwc (r : RoleCount) : (s.putOdometer r).pwc = s.pwc := rfl
@[simp] theorem State.putOdometer_pins (r : RoleCount) : (s.putOdometer r).pins = s.pins := rfl
@[simp] theorem State.putOdometer_supply (r : RoleCount) : (s.putOdometer r).supply = s.supply := rfl
@[simp] theorem State.putOdometer_draws (r : RoleCount) : (s.putOdometer r).draws = s.draws := rfl
@[simp] theorem State.putOdometer_pending (r : RoleCount) : (s.putOdometer r).pending = s.pending := rfl

/-! ## putHours -/

@[simp] theorem State.putHours_cal (r : RoleCount) : (s.putHours r).cal = s.cal := rfl
@[simp] theorem State.putHours_calLoaded (r : RoleCount) : (s.putHours r).calLoaded = s.calLoaded := rfl
@[simp] theorem State.putHours_slots (r : RoleCount) : (s.putHours r).slots = s.slots := rfl
@[simp] theorem State.putHours_switches (r : RoleCount) : (s.putHours r).switches = s.switches := rfl
@[simp] theorem State.putHours_senders (r : RoleCount) : (s.putHours r).senders = s.senders := rfl
@[simp] theorem State.putHours_ccu (r : RoleCount) : (s.putHours r).ccu = { s.ccu with hours := r } := rfl
@[simp] theorem State.putHours_wre (r : RoleCount) : (s.putHours r).wre = s.wre := rfl
@[simp] theorem State.putHours_opu (r : RoleCount) : (s.putHours r).opu = s.opu := rfl
@[simp] theorem State.putHours_drs (r : RoleCount) : (s.putHours r).drs = s.drs := rfl
@[simp] theorem State.putHours_flm (r : RoleCount) : (s.putHours r).flm = s.flm := rfl
@[simp] theorem State.putHours_rst (r : RoleCount) : (s.putHours r).rst = s.rst := rfl
@[simp] theorem State.putHours_svc (r : RoleCount) : (s.putHours r).svc = s.svc := rfl
@[simp] theorem State.putHours_ptu (r : RoleCount) : (s.putHours r).ptu = s.ptu := rfl
@[simp] theorem State.putHours_pwc (r : RoleCount) : (s.putHours r).pwc = s.pwc := rfl
@[simp] theorem State.putHours_pins (r : RoleCount) : (s.putHours r).pins = s.pins := rfl
@[simp] theorem State.putHours_supply (r : RoleCount) : (s.putHours r).supply = s.supply := rfl
@[simp] theorem State.putHours_draws (r : RoleCount) : (s.putHours r).draws = s.draws := rfl
@[simp] theorem State.putHours_pending (r : RoleCount) : (s.putHours r).pending = s.pending := rfl

/-! ## mapChannels -/

@[simp] theorem State.mapChannels_cal (f : Fin 8 → Channel) : (s.mapChannels f).cal = s.cal := rfl
@[simp] theorem State.mapChannels_calLoaded (f : Fin 8 → Channel) : (s.mapChannels f).calLoaded = s.calLoaded := rfl
@[simp] theorem State.mapChannels_slots (f : Fin 8 → Channel) : (s.mapChannels f).slots = s.slots := rfl
@[simp] theorem State.mapChannels_switches (f : Fin 8 → Channel) : (s.mapChannels f).switches = s.switches := rfl
@[simp] theorem State.mapChannels_senders (f : Fin 8 → Channel) : (s.mapChannels f).senders = s.senders := rfl
@[simp] theorem State.mapChannels_ccu (f : Fin 8 → Channel) : (s.mapChannels f).ccu = { s.ccu with channels := Vector.ofFn f } := rfl
@[simp] theorem State.mapChannels_wre (f : Fin 8 → Channel) : (s.mapChannels f).wre = s.wre := rfl
@[simp] theorem State.mapChannels_opu (f : Fin 8 → Channel) : (s.mapChannels f).opu = s.opu := rfl
@[simp] theorem State.mapChannels_drs (f : Fin 8 → Channel) : (s.mapChannels f).drs = s.drs := rfl
@[simp] theorem State.mapChannels_flm (f : Fin 8 → Channel) : (s.mapChannels f).flm = s.flm := rfl
@[simp] theorem State.mapChannels_rst (f : Fin 8 → Channel) : (s.mapChannels f).rst = s.rst := rfl
@[simp] theorem State.mapChannels_svc (f : Fin 8 → Channel) : (s.mapChannels f).svc = s.svc := rfl
@[simp] theorem State.mapChannels_ptu (f : Fin 8 → Channel) : (s.mapChannels f).ptu = s.ptu := rfl
@[simp] theorem State.mapChannels_pwc (f : Fin 8 → Channel) : (s.mapChannels f).pwc = s.pwc := rfl
@[simp] theorem State.mapChannels_pins (f : Fin 8 → Channel) : (s.mapChannels f).pins = s.pins := rfl
@[simp] theorem State.mapChannels_supply (f : Fin 8 → Channel) : (s.mapChannels f).supply = s.supply := rfl
@[simp] theorem State.mapChannels_draws (f : Fin 8 → Channel) : (s.mapChannels f).draws = s.draws := rfl
@[simp] theorem State.mapChannels_pending (f : Fin 8 → Channel) : (s.mapChannels f).pending = s.pending := rfl

/-! ## mapSenders -/

@[simp] theorem State.mapSenders_cal (f : SenderState → SenderState) : (s.mapSenders f).cal = s.cal := rfl
@[simp] theorem State.mapSenders_calLoaded (f : SenderState → SenderState) : (s.mapSenders f).calLoaded = s.calLoaded := rfl
@[simp] theorem State.mapSenders_slots (f : SenderState → SenderState) : (s.mapSenders f).slots = s.slots := rfl
@[simp] theorem State.mapSenders_switches (f : SenderState → SenderState) : (s.mapSenders f).switches = s.switches := rfl
@[simp] theorem State.mapSenders_senders (f : SenderState → SenderState) : (s.mapSenders f).senders = s.senders.map f := rfl
@[simp] theorem State.mapSenders_ccu (f : SenderState → SenderState) : (s.mapSenders f).ccu = s.ccu := rfl
@[simp] theorem State.mapSenders_wre (f : SenderState → SenderState) : (s.mapSenders f).wre = s.wre := rfl
@[simp] theorem State.mapSenders_opu (f : SenderState → SenderState) : (s.mapSenders f).opu = s.opu := rfl
@[simp] theorem State.mapSenders_drs (f : SenderState → SenderState) : (s.mapSenders f).drs = s.drs := rfl
@[simp] theorem State.mapSenders_flm (f : SenderState → SenderState) : (s.mapSenders f).flm = s.flm := rfl
@[simp] theorem State.mapSenders_rst (f : SenderState → SenderState) : (s.mapSenders f).rst = s.rst := rfl
@[simp] theorem State.mapSenders_svc (f : SenderState → SenderState) : (s.mapSenders f).svc = s.svc := rfl
@[simp] theorem State.mapSenders_ptu (f : SenderState → SenderState) : (s.mapSenders f).ptu = s.ptu := rfl
@[simp] theorem State.mapSenders_pwc (f : SenderState → SenderState) : (s.mapSenders f).pwc = s.pwc := rfl
@[simp] theorem State.mapSenders_pins (f : SenderState → SenderState) : (s.mapSenders f).pins = s.pins := rfl
@[simp] theorem State.mapSenders_supply (f : SenderState → SenderState) : (s.mapSenders f).supply = s.supply := rfl
@[simp] theorem State.mapSenders_draws (f : SenderState → SenderState) : (s.mapSenders f).draws = s.draws := rfl
@[simp] theorem State.mapSenders_pending (f : SenderState → SenderState) : (s.mapSenders f).pending = s.pending := rfl

/-! ## putCount -/

@[simp] theorem State.putCount_cal (c : Fin 8) (n : Count) : (s.putCount c n).cal = s.cal := by
  unfold State.putCount; split <;> rfl
@[simp] theorem State.putCount_calLoaded (c : Fin 8) (n : Count) : (s.putCount c n).calLoaded = s.calLoaded := by
  unfold State.putCount; split <;> rfl
@[simp] theorem State.putCount_slots (c : Fin 8) (n : Count) : (s.putCount c n).slots = s.slots := by
  unfold State.putCount; split <;> rfl
@[simp] theorem State.putCount_switches (c : Fin 8) (n : Count) : (s.putCount c n).switches = s.switches := by
  unfold State.putCount; split <;> rfl
@[simp] theorem State.putCount_senders (c : Fin 8) (n : Count) : (s.putCount c n).senders = s.senders := by
  unfold State.putCount; split <;> rfl
@[simp] theorem State.putCount_wre (c : Fin 8) (n : Count) : (s.putCount c n).wre = s.wre := by
  unfold State.putCount; split <;> rfl
@[simp] theorem State.putCount_opu (c : Fin 8) (n : Count) : (s.putCount c n).opu = s.opu := by
  unfold State.putCount; split <;> rfl
@[simp] theorem State.putCount_drs (c : Fin 8) (n : Count) : (s.putCount c n).drs = s.drs := by
  unfold State.putCount; split <;> rfl
@[simp] theorem State.putCount_flm (c : Fin 8) (n : Count) : (s.putCount c n).flm = s.flm := by
  unfold State.putCount; split <;> rfl
@[simp] theorem State.putCount_rst (c : Fin 8) (n : Count) : (s.putCount c n).rst = s.rst := by
  unfold State.putCount; split <;> rfl
@[simp] theorem State.putCount_svc (c : Fin 8) (n : Count) : (s.putCount c n).svc = s.svc := by
  unfold State.putCount; split <;> rfl
@[simp] theorem State.putCount_ptu (c : Fin 8) (n : Count) : (s.putCount c n).ptu = s.ptu := by
  unfold State.putCount; split <;> rfl
@[simp] theorem State.putCount_pwc (c : Fin 8) (n : Count) : (s.putCount c n).pwc = s.pwc := by
  unfold State.putCount; split <;> rfl
@[simp] theorem State.putCount_pins (c : Fin 8) (n : Count) : (s.putCount c n).pins = s.pins := by
  unfold State.putCount; split <;> rfl
@[simp] theorem State.putCount_supply (c : Fin 8) (n : Count) : (s.putCount c n).supply = s.supply := by
  unfold State.putCount; split <;> rfl
@[simp] theorem State.putCount_draws (c : Fin 8) (n : Count) : (s.putCount c n).draws = s.draws := by
  unfold State.putCount; split <;> rfl
@[simp] theorem State.putCount_pending (c : Fin 8) (n : Count) : (s.putCount c n).pending = s.pending := by
  unfold State.putCount; split <;> rfl

/-! ## powerTo -/

@[simp] theorem powerTo_cal (p : PowerState) : (powerTo p s).cal = s.cal := rfl
@[simp] theorem powerTo_calLoaded (p : PowerState) : (powerTo p s).calLoaded = s.calLoaded := rfl
@[simp] theorem powerTo_slots (p : PowerState) : (powerTo p s).slots = s.slots := rfl
@[simp] theorem powerTo_switches (p : PowerState) : (powerTo p s).switches = s.switches := rfl
@[simp] theorem powerTo_senders (p : PowerState) : (powerTo p s).senders = s.senders := rfl
@[simp] theorem powerTo_ccu (p : PowerState) : (powerTo p s).ccu = s.ccu := rfl
@[simp] theorem powerTo_wre (p : PowerState) : (powerTo p s).wre = s.wre := rfl
@[simp] theorem powerTo_opu (p : PowerState) : (powerTo p s).opu = s.opu := rfl
@[simp] theorem powerTo_drs (p : PowerState) : (powerTo p s).drs = s.drs := rfl
@[simp] theorem powerTo_flm (p : PowerState) : (powerTo p s).flm = s.flm := rfl
@[simp] theorem powerTo_rst (p : PowerState) : (powerTo p s).rst = s.rst := rfl
@[simp] theorem powerTo_svc (p : PowerState) : (powerTo p s).svc = s.svc := rfl
@[simp] theorem powerTo_ptu (p : PowerState) : (powerTo p s).ptu = ⟨s.ptu.cluster.notice flagPower, s.ptu.body.notice flagPower, s.ptu.service.notice flagPower⟩ := rfl
@[simp] theorem powerTo_pwc (p : PowerState) : (powerTo p s).pwc = { s.pwc with power := p } := rfl
@[simp] theorem powerTo_pins (p : PowerState) : (powerTo p s).pins = s.pins := rfl
@[simp] theorem powerTo_supply (p : PowerState) : (powerTo p s).supply = s.supply := rfl
@[simp] theorem powerTo_draws (p : PowerState) : (powerTo p s).draws = s.draws := rfl
@[simp] theorem powerTo_pending (p : PowerState) : (powerTo p s).pending = s.pending := rfl

/-! ## Ports -/

@[simp] theorem Ptu.get_set_same (u : Ptu) (p : Port) (r : PortRecord) : (u.set p r).get p = r := by
  cases p <;> rfl

theorem Ptu.get_set_ne (u : Ptu) {p q : Port} (h : q ≠ p) (r : PortRecord) :
    (u.set p r).get q = u.get q := by
  cases p <;> cases q <;> first | rfl | exact absurd rfl h

@[simp] theorem State.port_setPort_same (p : Port) (r : PortRecord) : (s.setPort p r).port p = r := by
  cases p <;> rfl

theorem State.port_setPort_ne {p q : Port} (h : q ≠ p) (r : PortRecord) :
    (s.setPort p r).port q = s.port q := Ptu.get_set_ne _ h r

@[simp] theorem State.port_notice (f : Notices) (p : Port) : (s.notice f).port p = (s.port p).notice f := by
  cases p <;> rfl

@[simp] theorem PortRecord.notice_state (r : PortRecord) (f : Notices) : (r.notice f).state = r.state := rfl
@[simp] theorem PortRecord.notice_dropMark (r : PortRecord) (f : Notices) :
    (r.notice f).dropMark = r.dropMark := rfl
@[simp] theorem PortRecord.notice_mask (r : PortRecord) (f : Notices) : (r.notice f).mask = r.mask := rfl
@[simp] theorem PortRecord.notice_transaction (r : PortRecord) (f : Notices) :
    (r.notice f).transaction = r.transaction := rfl
@[simp] theorem PortRecord.notice_clockedOut (r : PortRecord) (f : Notices) :
    (r.notice f).clockedOut = r.clockedOut := rfl
@[simp] theorem PortRecord.notice_flags (r : PortRecord) (f : Notices) :
    (r.notice f).flags = r.flags ||| f := rfl

/-! ## The end of a transaction -/

section
variable (r : PortRecord) (t : Transaction) (n : Nat)
@[simp] theorem PortRecord.risen_state : (r.risen t n).state = r.state := rfl
@[simp] theorem PortRecord.risen_dropMark : (r.risen t n).dropMark = r.dropMark := rfl
@[simp] theorem PortRecord.risen_flags : (r.risen t n).flags = r.flags := rfl
@[simp] theorem PortRecord.risen_mask : (r.risen t n).mask = r.mask := rfl
@[simp] theorem PortRecord.risen_transaction : (r.risen t n).transaction = none := rfl
@[simp] theorem PortRecord.risen_clockedOut : (r.risen t n).clockedOut = t.clockedOut n := rfl

/-- As many bytes are clocked out as the transaction has. -/
@[simp] theorem Transaction.clockedOut_length : (t.clockedOut n).length = n := by
  cases t with
  | judged atFall frame drop => simp [Transaction.clockedOut]; omega
  | notReceived => simp [Transaction.clockedOut]

end

@[simp] theorem State.now_eq : s.now = s.pwc.uptime := rfl

end Sys2Proof.Machine
end

