-- ==== Sys2Proof/Laws/Delivery.lean ====
section
/-! SUPPORT. What deliveries without an order among them can do: each is taken exactly once, in some order,
with draws of free values in between. -/

namespace Sys2Proof.Machine

/-- Deliveries taken in the order of a list, with draws in between: from a state to a state. -/
inductive Delivered : List Delivery → State → State → Prop
  | done (s : State) : Delivered [] s s
  | draw {ds : List Delivery} {s t : State} : Delivered ds s.drawn t → Delivered ds s t
  | take {d : Delivery} {ds : List Delivery} {s t : State} : Delivered ds (d s) t → Delivered (d :: ds) s t

theorem deliverSome_delivered (n : Nat) (ds : List Delivery) (h : ds.length = n) (s : State) :
    ∃ l, l.Perm ds ∧ Delivered l s (deliverSome n ds s) := by
  induction n generalizing ds s with
  | zero => exact ⟨[], by rw [List.length_eq_zero_iff.mp h], .done _⟩
  | succ n ih =>
    match ds, h with
    | [d], h => exact ⟨[d], List.Perm.refl _, .take (.done _)⟩
    | d :: e :: rest, h =>
      have hlt : Config.order s.draws % (d :: e :: rest).length < (d :: e :: rest).length :=
        Nat.mod_lt _ (by simp)
      generalize hi : Config.order s.draws % (d :: e :: rest).length = i at hlt
      obtain ⟨l, hp, hd⟩ := ih ((d :: e :: rest).eraseIdx i)
        (by rw [List.length_eraseIdx_of_lt hlt, h]; rfl) (((d :: e :: rest).getD i id) s.drawn)
      refine ⟨(d :: e :: rest).getD i id :: l, ?_, ?_⟩
      · have : (d :: e :: rest).getD i id = (d :: e :: rest)[i] := by
          simp [List.getD_eq_getElem?_getD, List.getElem?_eq_getElem hlt]
        rw [this]
        exact (List.Perm.cons _ hp).trans (List.getElem_cons_eraseIdx_perm hlt)
      · refine .draw (.take ?_)
        subst hi
        exact hd

/-- Every delivery is taken exactly once, in some order. -/
theorem deliverAll_delivered (ds : List Delivery) (s : State) :
    ∃ l, l.Perm ds ∧ Delivered l s (deliverAll ds s) := deliverSome_delivered _ ds rfl s

theorem Delivered.induct {P : State → Prop} (hdraw : ∀ s, P s → P s.drawn) {l : List Delivery}
    {s t : State} (h : Delivered l s t) (hl : ∀ d ∈ l, ∀ s, P s → P (d s)) (hs : P s) : P t := by
  induction h with
  | done => exact hs
  | draw _ ih => exact ih hl (hdraw _ hs)
  | take _ ih => exact ih (fun d hd => hl d (List.mem_cons_of_mem _ hd)) (hl _ List.mem_cons_self _ hs)

/-- What every delivery keeps holds in the end. -/
theorem deliverAll_induct {P : State → Prop} (hdraw : ∀ s, P s → P s.drawn) {ds : List Delivery}
    (h : ∀ d ∈ ds, ∀ s, P s → P (d s)) {s : State} (hs : P s) : P (deliverAll ds s) := by
  obtain ⟨l, hp, hd⟩ := deliverAll_delivered ds s
  exact hd.induct hdraw (fun d hm => h d (hp.mem_iff.mp hm)) hs

/-- A view of the state that no delivery and no draw alters stands in the end. -/
theorem deliverAll_keeps {α : Type} (view : State → α) (hdraw : ∀ s, view s.drawn = view s)
    {ds : List Delivery} (h : ∀ d ∈ ds, ∀ s, view (d s) = view s) (s : State) :
    view (deliverAll ds s) = view s :=
  deliverAll_induct (P := fun t => view t = view s) (fun t ht => (hdraw t).trans ht)
    (fun d hd t ht => (h d hd t).trans ht) rfl

/-- What one delivery brings about, from an invariant that all keep, and no other undoes, holds in the end. -/
theorem deliverAll_establishes {I P : State → Prop} {pre post : List Delivery} {d : Delivery}
    (hI : ∀ s, I s → I s.drawn) (hP : ∀ s, I s → P s → P s.drawn)
    (hkI : ∀ e ∈ pre ++ d :: post, ∀ s, I s → I (e s)) (hd : ∀ s, I s → P (d s))
    (hkP : ∀ e ∈ pre ++ post, ∀ s, I s → P s → P (e s)) {s : State} (hs : I s) :
    P (deliverAll (pre ++ d :: post) s) := by
  obtain ⟨l, hp, hl⟩ := deliverAll_delivered (pre ++ d :: post) s
  have hm : d ∈ l := hp.mem_iff.mpr (by simp)
  obtain ⟨l1, l2, rfl⟩ := List.append_of_mem hm
  have hrest : (l1 ++ l2).Perm (pre ++ post) :=
    (((List.perm_middle (a := d) (l₁ := l1) (l₂ := l2)).symm.trans hp).trans List.perm_middle).cons_inv
  have h2 : ∀ e ∈ l2, e ∈ pre ++ post := fun e he => hrest.mem_iff.mp (by simp [he])
  have hall : ∀ e ∈ l1 ++ d :: l2, e ∈ pre ++ d :: post := fun e he => hp.mem_iff.mp he
  clear hp hrest hm
  generalize deliverAll (pre ++ d :: post) s = t at hl
  generalize hk : l1 ++ d :: l2 = k at hl
  induction hl generalizing l1 with
  | done => simp at hk
  | draw _ ih => exact ih (hI _ hs) l1 hall hk
  | @take e ds u v hrun ih =>
    cases l1 with
    | nil =>
      simp only [List.nil_append, List.cons.injEq] at hk
      obtain ⟨rfl, rfl⟩ := hk
      have := hrun.induct (P := fun t => I t ∧ P t) (fun s h => ⟨hI s h.1, hP s h.1 h.2⟩)
        (fun e he s h => ⟨hkI e (hall e (by simp [he])) s h.1, hkP e (h2 e he) s h.1 h.2⟩)
        ⟨hkI _ (by simp) _ hs, hd _ hs⟩
      exact this.2
    | cons a l1 =>
      simp only [List.cons_append, List.cons.injEq] at hk
      obtain ⟨rfl, hk⟩ := hk
      exact ih (hkI _ (hall _ (by simp)) _ hs) l1 (fun e he => hall e (by simp at he ⊢; tauto)) hk

theorem deliverAll_nil (s : State) : deliverAll [] s = s := rfl

theorem deliverAll_one (d : Delivery) (s : State) : deliverAll [d] s = d s := rfl

/-- Two deliveries are taken in one of their two orders. -/
theorem deliverAll_two (d e : Delivery) (s : State) :
    deliverAll [d, e] s = e (d s.drawn) ∨ deliverAll [d, e] s = d (e s.drawn) := by
  rcases Nat.mod_two_eq_zero_or_one (Config.order s.draws) with h | h
  · left; simp [deliverAll, deliverSome, h]
  · right; simp [deliverAll, deliverSome, h]

/-! ## Groups of deliveries -/

theorem Delivered.append {l k : List Delivery} {s t u : State} (h : Delivered l s t) (g : Delivered k t u) :
    Delivered (l ++ k) s u := by
  induction h with
  | done => exact g
  | draw _ ih => exact .draw (ih g)
  | take _ ih => exact .take (ih g)

/-- Two sides drawn from deliveries hold each of them once, and only draws pass. -/
theorem drawSides_sides (ds : List Delivery) (s : State) :
    ((drawSides ds s).1 ++ (drawSides ds s).2.1).Perm ds
      ∧ ∀ {l : List Delivery} {t : State}, Delivered l (drawSides ds s).2.2 t → Delivered l s t := by
  induction ds generalizing s with
  | nil => exact ⟨.refl _, id⟩
  | cons d ds ih =>
    obtain ⟨hp, hd⟩ := ih s.drawn
    unfold drawSides
    dsimp only
    split
    · exact ⟨hp.cons d, fun h => .draw (hd h)⟩
    · exact ⟨List.perm_middle.trans (hp.cons d), fun h => .draw (hd h)⟩

/-- Every delivery of the groups and every free one is taken exactly once, in some order. -/
theorem deliverGroups_delivered (groups : List (List Delivery)) (free : List Delivery) (s : State) :
    ∃ l, l.Perm (groups.flatten ++ free) ∧ Delivered l s (deliverGroups groups free s) := by
  induction groups generalizing free s with
  | nil => exact deliverAll_delivered free s
  | cons group groups ih =>
    obtain ⟨hp, hd⟩ := drawSides_sides free s
    obtain ⟨l, hl, dl⟩ := deliverAll_delivered (group ++ (drawSides free s).1) (drawSides free s).2.2
    obtain ⟨k, hk, dk⟩ := ih (drawSides free s).2.1 (deliverAll (group ++ (drawSides free s).1) (drawSides free s).2.2)
    refine ⟨l ++ k, ?_, hd (dl.append dk)⟩
    refine (hl.append hk).trans ?_
    simp only [List.flatten_cons, List.append_assoc]
    refine List.Perm.append_left group ?_
    refine (List.perm_append_comm_assoc _ _ _).trans ?_
    exact List.Perm.append_left groups.flatten hp

/-- What every delivery of the groups and every free one keeps holds in the end. -/
theorem deliverGroups_induct {P : State → Prop} (hdraw : ∀ s, P s → P s.drawn)
    {groups : List (List Delivery)} {free : List Delivery}
    (hg : ∀ g ∈ groups, ∀ d ∈ g, ∀ s, P s → P (d s)) (hf : ∀ d ∈ free, ∀ s, P s → P (d s))
    {s : State} (hs : P s) : P (deliverGroups groups free s) := by
  obtain ⟨l, hp, hd⟩ := deliverGroups_delivered groups free s
  refine hd.induct hdraw (fun d hm => ?_) hs
  rcases List.mem_append.mp (hp.mem_iff.mp hm) with h | h
  · obtain ⟨g, hgm, hdm⟩ := List.mem_flatten.mp h
    exact hg g hgm d hdm
  · exact hf d h

/-- A view of the state that no delivery of the groups, no free one and no draw alters stands in the end. -/
theorem deliverGroups_keeps {α : Type} (view : State → α) (hdraw : ∀ s, view s.drawn = view s)
    {groups : List (List Delivery)} {free : List Delivery}
    (hg : ∀ g ∈ groups, ∀ d ∈ g, ∀ s, view (d s) = view s) (hf : ∀ d ∈ free, ∀ s, view (d s) = view s)
    (s : State) : view (deliverGroups groups free s) = view s :=
  deliverGroups_induct (P := fun t => view t = view s) (fun t ht => (hdraw t).trans ht)
    (fun g hgm d hd t ht => (hg g hgm d hd t).trans ht) (fun d hd t ht => (hf d hd t).trans ht) rfl

theorem deliverInOrder_induct {P : State → Prop} {ds : List Delivery}
    (h : ∀ d ∈ ds, ∀ s, P s → P (d s)) {s : State} (hs : P s) : P (deliverInOrder ds s) := by
  unfold deliverInOrder
  induction ds generalizing s with
  | nil => exact hs
  | cons d ds ih =>
    exact ih (fun e he => h e (List.mem_cons_of_mem _ he)) (h d List.mem_cons_self _ hs)

theorem deliverInOrder_keeps {α : Type} (view : State → α) {ds : List Delivery}
    (h : ∀ d ∈ ds, ∀ s, view (d s) = view s) (s : State) : view (deliverInOrder ds s) = view s :=
  deliverInOrder_induct (P := fun t => view t = view s) (fun d hd t ht => (h d hd t).trans ht) rfl

/-- A fold whose steps keep a property keeps it. -/
theorem foldl_induct {α : Type} {P : State → Prop} {f : State → α → State} {l : List α}
    (h : ∀ a ∈ l, ∀ s, P s → P (f s a)) {s : State} (hs : P s) : P (l.foldl f s) := by
  induction l generalizing s with
  | nil => exact hs
  | cons a l ih =>
    exact ih (fun b hb => h b (List.mem_cons_of_mem _ hb)) (h a List.mem_cons_self _ hs)

theorem foldl_keeps {α β : Type} (view : State → β) {f : State → α → State} {l : List α}
    (h : ∀ a ∈ l, ∀ s, view (f s a) = view s) (s : State) : view (l.foldl f s) = view s :=
  foldl_induct (P := fun t => view t = view s) (fun a ha t ht => (h a ha t).trans ht) rfl

end Sys2Proof.Machine
end

