-- ==== Sys2Proof/Laws/Closed.lean ====
section
/-! SUPPORT. What events at the blocks keep: a property of the state that the elementary operations of a block
keep is kept by every event of that block, whatever the order of its deliveries. -/

namespace Sys2Proof.Machine

/-- A property that the elementary operations behind a change of slots keep. -/
structure SignalClosed (P : State → Prop) : Prop where
  drawn : ∀ s, P s → P s.drawn
  setSlot : ∀ i x s, P s → P (s.setSlot i x)
  setSvc : ∀ x s, P s → P (s.setSvc x)
  opu : ∀ f s, P s → P (s.opuEvent f)
  notice : ∀ f s, P s → P (s.notice f)
  noticeOn : ∀ p f s, P s → P (s.noticeOn p f)
  evaluate : ∀ r s, P s → P (wreEvaluate r s)
  release : ∀ i s, P s → P (wreRelease i s)
  report : ∀ r s, P s → P (flmReport r s)

/-- An event at WRE keeps a property that the replacing of its state, its handings and the reports keep. -/
theorem wreFinish_keeps {P : State → Prop} (hd : ∀ s, P s → P s.drawn) (ho : ∀ f s, P s → P (s.opuEvent f))
    (hn : ∀ f s, P s → P (s.notice f)) (hr : ∀ r s, P s → P (flmReport r s)) {e : WreEvent} {s : State}
    (hs : P (s.setWre e.wre)) : P (wreFinish e s) := by
  unfold wreFinish
  refine foldl_induct (fun r _ t ht => hr r t ht) ?_
  split
  · refine deliverAll_induct hd ?_ (hn _ _ hs)
    intro d hm t ht
    unfold wreHandings at hm
    rcases List.mem_cons.mp hm with rfl | hm
    · exact ho _ _ ht
    · split at hm
      · simp only [List.mem_singleton] at hm
        subst hm; exact ho _ _ ht
      · simp at hm
  · exact hs

namespace SignalClosed

variable {P : State → Prop} (h : SignalClosed P)
include h

theorem reports {rs : List Report} {s : State} (hs : P s) : P (flmReports rs s) :=
  foldl_induct (fun r _ t ht => h.report r t ht) hs

theorem liveOpu {i : Fin 96} {v : Value} {st : LiveStatus} {s : State} (hs : P s) :
    P (opuLiveChange i v st s) := by
  unfold opuLiveChange
  dsimp only
  split
  · exact h.opu _ _ hs
  · exact hs

theorem sample {i : Fin 96} {v : Value} {st : Status} {s : State} (hs : P s) : P (svcSample i v st s) := by
  unfold svcSample
  split
  · dsimp only
    split
    · exact h.noticeOn _ _ _ (h.setSvc _ _ hs)
    · exact h.setSvc _ _ hs
  · exact hs

theorem svcExit {s : State} (hs : P s) : P (Machine.svcExit s) := by
  unfold Machine.svcExit
  dsimp only
  refine deliverAll_induct h.drawn ?_ (h.setSvc _ _ (foldl_induct (fun i _ t ht => h.setSlot i _ t ht) ?_))
  · intro d hd t ht
    obtain ⟨i, _, rfl⟩ := List.mem_map.mp hd
    exact h.release i t ht
  · split
    · exact h.opu _ _ hs
    · exact hs

theorem liveSvc {i : Fin 96} {v : Value} {st : LiveStatus} {s : State} (hs : P s) :
    P (svcLiveChange i v st s) := by
  unfold svcLiveChange
  split
  · exact h.svcExit hs
  · exact hs

theorem visible {i : Fin 96} {x : Slot} {u : State} :
    ∀ d ∈ visibleReceivers i x u, ∀ s, P s → P (d s) := by
  intro d hd s hs
  unfold visibleReceivers at hd
  rcases List.mem_append.mp hd with hd | hd
  · split at hd
    · obtain ⟨r, _, rfl⟩ := List.mem_map.mp hd
      exact h.evaluate r s hs
    · simp at hd
  · split at hd
    · simp only [List.mem_singleton] at hd
      subst hd; exact h.sample hs
    · simp at hd

theorem live {i : Fin 96} {x : Slot} {u : State} : ∀ d ∈ liveReceivers i x u, ∀ s, P s → P (d s) := by
  intro d hd s hs
  unfold liveReceivers at hd
  split at hd
  · simp only [List.mem_singleton] at hd
    subst hd; exact h.liveSvc hs
  · simp at hd

theorem changeEvents {i : Fin 96} {old x : Slot} {s : State} (hs : P s) :
    P (Machine.changeEvents i old x s) := by
  unfold Machine.changeEvents
  dsimp only
  refine deliverAll_induct h.drawn ?_ ?_
  · intro d hd t ht
    rcases List.mem_append.mp hd with hd | hd
    · by_cases hv : old.visibleDiffers x = true
      · rw [if_pos hv] at hd
        exact h.visible d hd t ht
      · rw [if_neg hv] at hd
        simp at hd
    · by_cases hv : old.liveDiffers x = true
      · rw [if_pos hv] at hd
        exact h.live d hd t ht
      · rw [if_neg hv] at hd
        simp at hd
  · have h1 : ∀ u, P u → P (if old.liveDiffers x = true then opuLiveChange i x.liveValue x.liveStatus u
        else u) := by
      intro u hu; split
      · exact h.liveOpu hu
      · exact hu
    refine h1 _ ?_
    split
    · exact h.notice _ _ hs
    · exact hs

/-- A slot given new contents. -/
theorem alter {i : Fin 96} {x : Slot} {s : State} (hs : P s) : P (sgtAlter i x s) := by
  unfold sgtAlter
  split
  · exact h.setSlot _ _ _ hs
  · exact h.changeEvents (h.setSlot _ _ _ hs)

theorem update {i : Fin 96} {st : LiveStatus} {v : Value} {s : State} (hs : P s) : P (sgtUpdate i st v s) :=
  h.alter hs

/-- A source's update at the slots bound to it. -/
theorem source {k : SourceKind} {index : Option (Fin 32)} {st : LiveStatus} {v : Value} {s : State}
    (hs : P s) : P (sourceUpdate k index st v s) := by
  refine deliverAll_induct h.drawn ?_ hs
  intro d hd t ht
  obtain ⟨i, _, rfl⟩ := List.mem_map.mp hd
  exact h.update ht

theorem substitute {i : Fin 96} {v : Value} {s : State} (hs : P s) : P (sgtSubstitute i v s) := h.alter hs

theorem sgtRelease {i : Fin 96} {s : State} (hs : P s) : P (Machine.sgtRelease i s) := by
  unfold Machine.sgtRelease
  dsimp only
  refine deliverAll_induct h.drawn ?_ (h.setSlot _ _ _ hs)
  intro d hd t ht
  simp only [List.mem_cons, List.not_mem_nil, or_false] at hd
  rcases hd with rfl | rfl
  · exact h.release _ _ ht
  · exact h.sample ht

theorem sgtSleep {s : State} (hs : P s) : P (Machine.sgtSleep s) :=
  foldl_induct (fun i _ _ ht => h.alter (i := i) ht) hs

theorem refresh {i : Fin 96} {s : State} (hs : P s) : P (refreshExpiry i s) := by
  unfold refreshExpiry
  split
  · exact h.alter hs
  · exact hs

theorem publication {p : Publication} {i : Fin 96} {s : State} (hs : P s) : P (p.update i s) := by
  cases p <;> exact h.update hs

theorem netUpdates {us : List NetUpdate} {s : State} (hs : P s) :
    P (deliverInOrder (us.map NetUpdate.deliver) s) := by
  refine deliverInOrder_induct ?_ hs
  intro d hd t ht
  obtain ⟨u, _, rfl⟩ := List.mem_map.mp hd
  exact h.update ht

theorem switchUpdates {s : State} (hs : P s) : P (deliverAll Machine.switchUpdates s) := by
  refine deliverAll_induct h.drawn ?_ hs
  intro d hd t ht
  obtain ⟨n, _, rfl⟩ := List.mem_map.mp hd
  exact h.source ht

/-- A sample of a sender input, from its record set. -/
theorem senderSample {n : Fin 8} {raw : BitVec 12} {s : State} (hs : P s)
    (hx : ∀ x, P (s.setSender n x)) : P (Machine.senderSample n raw s) := by
  unfold Machine.senderSample
  split
  · dsimp only
    refine deliverAll_induct h.drawn ?_ (hx _)
    intro d hd t ht
    rcases List.mem_append.mp hd with hd | hd
    · split at hd
      · obtain ⟨i, _, rfl⟩ := List.mem_map.mp hd
        exact h.publication ht
      · simp at hd
    · split at hd
      · simp at hd
      · simp only [List.mem_singleton] at hd
        subst hd; exact h.reports ht
  · exact hs

end SignalClosed

/-- The first samples of the senders, from their records set. -/
theorem SignalClosed.sampleSenders {P : State → Prop} (h : SignalClosed P) {raw : Conversions} {s : State}
    (hx : ∀ n x s, P s → P (s.setSender n x)) (hs : P s) : P (Machine.sampleSenders raw s) := by
  refine deliverAll_induct h.drawn ?_ hs
  intro d hd t ht
  obtain ⟨n, _, rfl⟩ := List.mem_map.mp hd
  exact h.senderSample ht fun x => hx n x t ht

/-- A property that the elementary operations behind an event at the channels keep besides. -/
structure ChannelClosed (P : State → Prop) : Prop extends SignalClosed P where
  setChannel : ∀ c x s, P s → P (s.setChannel c x)
  putOdometer : ∀ r s, P s → P (s.putOdometer r)
  putHours : ∀ r s, P s → P (s.putHours r)
  mapChannels : ∀ f s, P s → P (s.mapChannels f)
  request : ∀ j s, P s → P (rstRequest j s)

namespace ChannelClosed

variable {P : State → Prop} (h : ChannelClosed P)
include h

theorem putCount {c : Fin 8} {n : Count} {s : State} (hs : P s) : P (s.putCount c n) := by
  unfold State.putCount
  split
  · exact h.putOdometer _ _ hs
  · exact h.putHours _ _ hs
  · exact h.setChannel _ _ _ hs

theorem deliverCount {c : Fin 8} {t : Timer} {s : State} (hs : P s) : P (ccuDeliverCount c t s) :=
  h.toSignalClosed.source (h.setChannel _ _ _ hs)

theorem publish {c : Fin 8} {s : State} (hs : P s) : P (publishCount c s) := by
  unfold publishCount
  split
  · exact h.deliverCount hs
  · exact hs

theorem initial {c : Fin 8} {s : State} (hs : P s) : P (deliverInitial c s) := by
  unfold deliverInitial
  split
  · exact h.deliverCount hs
  · exact hs

theorem holdOff {c : Fin 8} {s : State} (hs : P s) : P (holdOffExpiry c s) := by
  unfold holdOffExpiry
  split
  · split
    · exact h.setChannel _ _ _ hs
    · exact h.deliverCount hs
  · exact hs

theorem opens {c : Fin 8} {s : State} (hs : P s) : P (gateOpens c s) := by
  unfold gateOpens
  dsimp only
  split
  · split
    · exact h.publish (h.putCount (h.setChannel _ _ _ hs))
    · exact h.setChannel _ _ _ hs
  · exact h.setChannel _ _ _ (h.setChannel _ _ _ hs)

theorem reevaluate {c : Fin 8} {s : State} (hs : P s) : P (Machine.reevaluate c s) := by
  unfold Machine.reevaluate
  dsimp only
  split
  · exact hs
  · split
    · exact h.opens hs
    · exact h.setChannel _ _ _ hs

theorem roleChanged {c : Fin 8} {save : Bool} {s : State} (hs : P s) :
    P (Machine.roleChanged c save s) := by
  refine deliverAll_induct h.drawn ?_ hs
  intro d hd t ht
  rcases List.mem_cons.mp hd with rfl | hd
  · exact h.publish ht
  · split at hd
    · simp only [List.mem_singleton] at hd
      subst hd; exact h.request _ _ ht
    · simp at hd

theorem roleIncrement {c : Fin 8} {s : State} (hs : P s) : P (Machine.roleIncrement c s) := by
  unfold Machine.roleIncrement
  split
  · exact hs
  · split
    · exact h.roleChanged (h.putOdometer _ _ hs)
    · exact h.roleChanged (h.putHours _ _ hs)
    · exact hs

theorem increment {n : Nat} {c : Fin 8} {s : State} (hs : P s) : P (Machine.increment n c s) := by
  induction n generalizing c s with
  | zero => exact hs
  | succ n ih =>
    unfold Machine.increment
    dsimp only
    split
    · exact h.roleIncrement hs
    · split
      · split
        · exact h.publish (h.setChannel _ _ _ hs)
        · refine deliverAll_induct h.drawn ?_ (h.setChannel _ _ _ hs)
          intro d hd t ht
          simp only [List.mem_cons, List.not_mem_nil, or_false] at hd
          rcases hd with rfl | rfl
          · exact h.publish ht
          · dsimp only
            split
            · exact ih ht
            · exact ht
      · exact h.publish (h.setChannel _ _ _ hs)

theorem endWidth {c : Fin 8} {s : State} (hs : P s) : P (Machine.endWidth c s) :=
  h.toSignalClosed.source (h.reevaluate (h.setChannel _ _ _ hs))

theorem edge {c : Fin 8} {high : Bool} {s : State} (hs : P s) : P (edgeAt c high s) := by
  unfold edgeAt
  dsimp only
  split
  · split
    · exact h.increment hs
    · exact hs
  · split
    · exact h.setChannel _ _ _ hs
    · exact hs
  · unfold widthEdge
    dsimp only
    split
    · exact h.setChannel _ _ _ hs
    · exact h.endWidth hs
    all_goals exact hs
  all_goals exact hs

theorem tick {c : Fin 8} {s : State} (hs : P s) : P (tickAt c s) := by
  unfold tickAt
  dsimp only
  split
  · split
    · exact h.increment hs
    · exact hs
  · split
    · exact h.setChannel _ _ _ hs
    · exact hs
  all_goals exact hs

theorem window {c : Fin 8} {s : State} (hs : P s) : P (windowExpiry c s) := by
  unfold windowExpiry
  dsimp only
  split
  · exact h.toSignalClosed.source (h.setChannel _ _ _ hs)
  · exact hs

theorem deliverAllCounts {s : State} (hs : P s) : P (ccuDeliverAll s) := by
  refine deliverAll_induct h.drawn ?_ hs
  intro d hd t ht
  obtain ⟨c, _, rfl⟩ := List.mem_map.mp hd
  exact h.initial ht

theorem init {s : State} (hs : P s) : P (ccuInit s) :=
  h.deliverAllCounts (h.mapChannels _ _ (h.putHours _ _ (h.putOdometer _ _ hs)))

theorem start {s : State} (hs : P s) : P (ccuStart s) := h.mapChannels _ _ hs

theorem restart {s : State} (hs : P s) : P (ccuRestart s) :=
  h.deliverAllCounts (h.mapChannels _ _ (h.mapChannels _ _ hs))

theorem commit {s : State} (hs : P s) : P (ccuCommit s) :=
  h.deliverAllCounts (h.mapChannels _ _ (h.mapChannels _ _ hs))

theorem sleep {s : State} (hs : P s) : P (ccuSleep s) := h.mapChannels _ _ hs

theorem wake {s : State} (hs : P s) : P (ccuWake s) := by
  refine deliverAll_induct h.drawn ?_ hs
  intro d hd t ht
  obtain ⟨c, _, rfl⟩ := List.mem_map.mp hd
  exact h.initial (h.setChannel _ _ _ (h.reevaluate (h.setChannel _ _ _ ht)))

theorem action {a : GateAction} {c : Fin 8} {v : Count} {s : State} (hs : P s) :
    P (channelAction a c v s) := by
  cases a
  · exact h.reevaluate (h.setChannel _ _ _ hs)
  · exact h.reevaluate (h.setChannel _ _ _ hs)
  · exact h.publish (h.putCount hs)
  · exact h.setChannel _ _ _ hs

end ChannelClosed

/-- A property that the elementary operations behind an event at the doors keep besides. -/
structure DoorClosed (P : State → Prop) : Prop extends SignalClosed P where
  setDoor : ∀ d x s, P s → P (s.setDoor d x)
  putLatch : ∀ b s, P s → P (s.putLatch b)
  activity : ∀ s, P s → P (pwcActivity s)

namespace DoorClosed

variable {P : State → Prop} (h : DoorClosed P)
include h

theorem latchHanding {b : Bool} : ∀ d ∈ latchHandings b, ∀ s, P s → P (d s) := by
  intro d hd s hs
  simp only [latchHandings, List.mem_cons, List.not_mem_nil, or_false] at hd
  rcases hd with rfl | rfl
  · exact h.toSignalClosed.source hs
  · exact h.opu _ _ hs

/-- An event at a door, with the handings that go with it. -/
theorem event {d : Fin 4} {r : DoorRecord} {more : List Delivery} {s : State}
    (hm : ∀ e ∈ more, ∀ t, P t → P (e t)) (hs : P s) : P (doorEvent d r more s) := by
  unfold doorEvent
  dsimp only
  refine deliverAll_induct h.drawn ?_ (h.activity _ (h.notice _ _ ?_))
  · intro e he t ht
    simp only [List.mem_append, List.mem_cons, List.not_mem_nil, or_false] at he
    rcases he with ((he | he) | he) | he
    · rcases he with rfl | rfl
      · exact h.toSignalClosed.source ht
      · exact h.opu _ _ ht
    · exact hm e he t ht
    · split at he
      · exact h.latchHanding e he t ht
      · simp at he
    · split at he
      · simp at he
      · simp only [List.mem_singleton] at he
        subst he; exact h.toSignalClosed.reports ht
  · split
    · exact h.putLatch _ _ (h.setDoor _ _ _ hs)
    · exact h.setDoor _ _ _ hs

theorem rederive {d : Fin 4} {s : State} (hs : P s) : P (doorRederive d s) := h.event (by simp) hs

theorem afresh {d : Fin 4} {s : State} (hs : P s) : P (doorAfresh d s) := by
  refine h.event ?_ hs
  intro e he t ht
  simp only [List.mem_singleton] at he
  subst he; exact h.opu _ _ ht

theorem leaves {d : Fin 4} {s : State} (hs : P s) : P (doorLeaves d s) :=
  h.toSignalClosed.reports (h.setDoor _ _ _ hs)

theorem ramp {d : Fin 4} {out : Bool} {s : State} (hs : P s) : P (rampChange d out s) := by
  unfold rampChange opuRamp
  exact h.opu _ _ (h.notice _ _ (h.setDoor _ _ _ hs))

theorem input {d : Fin 4} {n : Fin 32} {s : State} (hs : P s) : P (doorInput d n s) := by
  unfold doorInput
  dsimp only
  have h1 : ∀ u, P u → P (match doorInputStep u d n with
      | none => u
      | some r => doorEvent d r [] u) := by
    intro u hu; split
    · exact hu
    · exact h.event (by simp) hu
  refine h1 _ ?_
  split
  · exact h.ramp hs
  · exact hs

theorem openLimit {d : Fin 4} {s : State} (hs : P s) : P (openLimitExpiry d s) := by
  unfold openLimitExpiry; split
  · exact h.event (by simp) hs
  · exact hs

theorem settle {d : Fin 4} {s : State} (hs : P s) : P (settleExpiry d s) := by
  unfold settleExpiry; split
  · exact h.event (by simp) hs
  · exact hs

theorem closeLimit {d : Fin 4} {s : State} (hs : P s) : P (closeLimitExpiry d s) := by
  unfold closeLimitExpiry; split
  · exact h.event (by simp) hs
  · exact hs

theorem stopRequest {s : State} (hs : P s) : P (Machine.stopRequest s) := by
  unfold Machine.stopRequest; split
  · exact deliverAll_induct h.drawn h.latchHanding (h.notice _ _ (h.putLatch _ _ hs))
  · exact hs

theorem latchOff {s : State} (hs : P s) : P (Machine.latchOff s) := by
  unfold Machine.latchOff; split
  · exact deliverAll_induct h.drawn h.latchHanding (h.notice _ _ (h.putLatch _ _ hs))
  · exact hs

theorem start {s : State} (hs : P s) : P (drsStart s) := by
  refine deliverAll_induct h.drawn ?_ hs
  intro e he t ht
  obtain ⟨d, _, rfl⟩ := List.mem_map.mp he
  exact h.afresh ht

theorem restart {s : State} (hs : P s) : P (drsRestart s) := by
  refine deliverAll_induct h.drawn ?_ hs
  intro e he t ht
  rcases List.mem_cons.mp he with rfl | he
  · exact h.toSignalClosed.source ht
  · obtain ⟨d, _, rfl⟩ := List.mem_map.mp he
    exact h.rederive ht

theorem wake {s : State} (hs : P s) : P (drsWake s) := by
  refine deliverAll_induct h.drawn ?_ hs
  intro e he t ht
  rcases List.mem_cons.mp he with rfl | he
  · exact h.toSignalClosed.source ht
  · obtain ⟨d, _, rfl⟩ := List.mem_map.mp he
    exact h.afresh ht

theorem commit {s : State} (hs : P s) : P (drsCommit s) := by
  refine deliverAll_induct h.drawn ?_ hs
  intro e he t ht
  rcases List.mem_cons.mp he with rfl | he
  · exact h.toSignalClosed.source ht
  · obtain ⟨d, _, rfl⟩ := List.mem_map.mp he
    split
    · exact h.afresh ht
    · exact h.leaves ht

end DoorClosed

/-- The users of a debounced change keep what channels and doors keep, besides the acknowledge input. -/
theorem switchUsers_keep {P : State → Prop} (hc : ChannelClosed P) (hd : DoorClosed P)
    (ha : ∀ s, P s → P (wreAcknowledgeInput s)) (n : Fin 32) (u : State) :
    ∀ d ∈ switchUsers n u, ∀ s, P s → P (d s) := by
  intro d hm s hs
  simp only [switchUsers, List.mem_append] at hm
  rcases hm with (((hm | hm) | hm) | hm) | hm
  · obtain ⟨i, _, rfl⟩ := List.mem_map.mp hm
    exact hc.toSignalClosed.update hs
  · obtain ⟨i, _, rfl⟩ := List.mem_map.mp hm
    exact hd.input hs
  · obtain ⟨i, _, rfl⟩ := List.mem_map.mp hm
    exact hc.reevaluate hs
  · split at hm
    · simp only [List.mem_singleton] at hm
      subst hm; exact hd.stopRequest hs
    · simp at hm
  · split at hm
    · simp only [List.mem_singleton] at hm
      subst hm; exact ha _ hs
    · simp at hm

end Sys2Proof.Machine
end

