-- ==== Sys2Proof/Laws/Footprint.lean ====
section
/-! SUPPORT. The footprint of every shared operation: the part of the state it can alter. Each footprint is a
view of the state with that part blanked; an operation keeps its view, and the fields outside the footprint
follow from the view by projection. -/

namespace Sys2Proof.Machine

/-! ## The views -/

/-- A port record without its notice flags. -/
def PortRecord.unflagged (r : PortRecord) : PortRecord := { r with flags := 0 }

/-- The ports without their notice flags. -/
def Ptu.unflagged (u : Ptu) : Ptu := ⟨u.cluster.unflagged, u.body.unflagged, u.service.unflagged⟩

/-- The state without what a store request alters: the queue and the store idle condition. -/
def State.outsideRequests (s : State) : State :=
  { s with rst := { s.rst with queue := [] }, pwc := { s.pwc with storeIdle := true } }

/-- The state without what a fault report alters: besides, the Fault Memory and the notice flags. -/
def State.outsideFaults (s : State) : State :=
  { s.outsideRequests with flm := flmReset, ptu := s.ptu.unflagged }

/-- The state without what an event at WRE alters: besides, WRE, OPU and the draws. -/
def State.outsideWarnings (s : State) : State :=
  { s.outsideFaults with wre := wreReset, opu := opuReset, draws := 0 }

/-- The state without what a change of slots alters: besides, the slots and the Service Controller. -/
def State.outsideSignals (s : State) : State :=
  { s.outsideWarnings with slots := Vector.replicate 96 slotReset, svc := svcReset }

/-- The state without what the channels alter: besides, the Counter Channel Unit. -/
def State.outsideChannels (s : State) : State := { s.outsideSignals with ccu := ccuReset }

/-- The state without what the doors alter: besides, the Door Supervisor and the quiet time. -/
def State.outsideDoors (s : State) : State :=
  { s.outsideSignals with
    drs := drsReset
    pwc := { s.outsideSignals.pwc with quiet := false, quietTimer := none } }

/-- The state without what any delivery of channels, doors or inputs alters. -/
def State.outsideDeliveries (s : State) : State :=
  { s.outsideDoors with ccu := ccuReset }

theorem outsideFaults_of {s t : State} (h : s.outsideRequests = t.outsideRequests) :
    s.outsideFaults = t.outsideFaults := by
  have := congrArg (fun u : State => { u with flm := flmReset, ptu := u.ptu.unflagged }) h
  exact this

theorem outsideWarnings_of {s t : State} (h : s.outsideFaults = t.outsideFaults) :
    s.outsideWarnings = t.outsideWarnings :=
  congrArg (fun u : State => { u with wre := wreReset, opu := opuReset, draws := 0 }) h

theorem outsideSignals_of {s t : State} (h : s.outsideWarnings = t.outsideWarnings) :
    s.outsideSignals = t.outsideSignals :=
  congrArg (fun u : State => { u with slots := Vector.replicate 96 slotReset, svc := svcReset }) h

theorem outsideChannels_of {s t : State} (h : s.outsideSignals = t.outsideSignals) :
    s.outsideChannels = t.outsideChannels := congrArg (fun u : State => { u with ccu := ccuReset }) h

theorem outsideDoors_of {s t : State} (h : s.outsideSignals = t.outsideSignals) :
    s.outsideDoors = t.outsideDoors :=
  congrArg (fun u : State =>
    { u with drs := drsReset, pwc := { u.pwc with quiet := false, quietTimer := none } }) h

theorem outsideDeliveries_of_doors {s t : State} (h : s.outsideDoors = t.outsideDoors) :
    s.outsideDeliveries = t.outsideDeliveries := congrArg (fun u : State => { u with ccu := ccuReset }) h

theorem outsideDeliveries_of_channels {s t : State} (h : s.outsideChannels = t.outsideChannels) :
    s.outsideDeliveries = t.outsideDeliveries :=
  congrArg (fun u : State =>
    { u with drs := drsReset, pwc := { u.pwc with quiet := false, quietTimer := none } }) h

/-! ## Store requests and fault reports -/

theorem rstRequest_outside (j : Job) (s : State) :
    (rstRequest j s).outsideRequests = s.outsideRequests := rfl

theorem notice_outsideFaults (f : Notices) (s : State) : (s.notice f).outsideFaults = s.outsideFaults := rfl

theorem noticeOn_outsideFaults (p : Port) (f : Notices) (s : State) :
    (s.noticeOn p f).outsideFaults = s.outsideFaults := by cases p <;> rfl

theorem setFlm_outsideFaults (x : Flm) (s : State) : (s.setFlm x).outsideFaults = s.outsideFaults := rfl

theorem flmEvent_outside (c : FaultChange) (s : State) : (flmEvent c s).outsideFaults = s.outsideFaults := by
  unfold flmEvent
  split
  · exact foldl_keeps State.outsideFaults (fun j _ t => outsideFaults_of (rstRequest_outside j t)) _
  · rfl

theorem flmReport_outside (r : Report) (s : State) : (flmReport r s).outsideFaults = s.outsideFaults := by
  unfold flmReport
  split
  · exact flmEvent_outside _ _
  · rfl

theorem flmReports_outside (rs : List Report) (s : State) :
    (flmReports rs s).outsideFaults = s.outsideFaults :=
  foldl_keeps State.outsideFaults (fun r _ t => flmReport_outside r t) s

/-! ## Events at OPU and WRE -/

theorem opuEvent_outside (f : Opu → Opu) (s : State) :
    (s.opuEvent f).outsideWarnings = s.outsideWarnings := rfl

theorem drawn_outsideWarnings (s : State) : s.drawn.outsideWarnings = s.outsideWarnings := rfl

theorem opuLiveChange_outside (i : Fin 96) (v : Value) (st : LiveStatus) (s : State) :
    (opuLiveChange i v st s).outsideWarnings = s.outsideWarnings := by
  unfold opuLiveChange
  dsimp only
  split
  · exact opuEvent_outside _ _
  · rfl

theorem wreHandings_outside (e : WreEvent) (s : State) :
    ∀ d ∈ wreHandings e s, ∀ t : State, (d t).outsideWarnings = t.outsideWarnings := by
  intro d hd t
  unfold wreHandings at hd
  simp only [List.mem_cons] at hd
  rcases hd with rfl | hd
  · rfl
  · split at hd
    · simp only [List.mem_singleton] at hd
      subst hd; rfl
    · simp at hd

theorem wreFinish_outside (e : WreEvent) (s : State) :
    (wreFinish e s).outsideWarnings = s.outsideWarnings := by
  unfold wreFinish
  refine (outsideWarnings_of (flmReports_outside _ _)).trans ?_
  split
  · exact (deliverAll_keeps State.outsideWarnings drawn_outsideWarnings (wreHandings_outside _ _) _).trans rfl
  · rfl

theorem wreEvent_outside (f : WreEvent → WreEvent) (s : State) :
    (wreEvent f s).outsideWarnings = s.outsideWarnings := wreFinish_outside _ _

theorem wreEvaluate_outside (r : Fin 48) (s : State) :
    (wreEvaluate r s).outsideWarnings = s.outsideWarnings := by
  unfold wreEvaluate
  split
  · exact wreEvent_outside _ _
  · rfl

theorem wreRelease_outside (i : Fin 96) (s : State) :
    (wreRelease i s).outsideWarnings = s.outsideWarnings := by
  unfold wreRelease
  split
  · exact wreEvent_outside _ _
  · rfl

theorem wreAcknowledgeInput_outside (s : State) :
    (wreAcknowledgeInput s).outsideWarnings = s.outsideWarnings := by
  unfold wreAcknowledgeInput
  split
  · rfl
  · exact wreEvent_outside _ _

theorem wreTable_outside (s : State) : (wreTable s).outsideWarnings = s.outsideWarnings := by
  unfold wreTable
  exact wreEvent_outside _ _

theorem opuTable_outside (s : State) : (opuTable s).outsideWarnings = s.outsideWarnings := by
  unfold opuTable
  exact opuEvent_outside _ _

theorem tableEvent_outside (s : State) : (tableEvent s).outsideWarnings = s.outsideWarnings := by
  unfold tableEvent
  refine deliverAll_keeps State.outsideWarnings drawn_outsideWarnings ?_ s
  intro d hd t
  simp only [List.mem_cons, List.not_mem_nil, or_false] at hd
  rcases hd with rfl | rfl
  · exact wreTable_outside t
  · exact opuTable_outside t

/-! ## Events at SGT, SVC, the inputs, the channels and the doors -/

theorem setSlot_outsideSignals (i : Fin 96) (x : Slot) (s : State) :
    (s.setSlot i x).outsideSignals = s.outsideSignals := by
  unfold State.outsideSignals
  have : (s.setSlot i x).outsideWarnings = { s.outsideWarnings with slots := s.slots.set i x } := rfl
  rw [this]

theorem noticeOn_outsideSignals (p : Port) (f : Notices) (s : State) :
    (s.noticeOn p f).outsideSignals = s.outsideSignals :=
  outsideSignals_of (outsideWarnings_of (noticeOn_outsideFaults p f s))

/-- A view that factors through the part outside the signals is kept by every change of slots. -/
theorem view_closed {α : Type} (view : State → α)
    (hv : ∀ s t : State, s.outsideSignals = t.outsideSignals → view s = view t) (a : α) :
    SignalClosed fun t => view t = a where
  drawn s h := (hv s.drawn s rfl).trans h
  setSlot i x s h := (hv _ _ (setSlot_outsideSignals i x s)).trans h
  setSvc x s h := (hv (s.setSvc x) s rfl).trans h
  opu f s h := (hv (s.opuEvent f) s rfl).trans h
  notice f s h := (hv (s.notice f) s rfl).trans h
  noticeOn p f s h := (hv _ _ (noticeOn_outsideSignals p f s)).trans h
  evaluate r s h := (hv _ _ (outsideSignals_of (wreEvaluate_outside r s))).trans h
  release i s h := (hv _ _ (outsideSignals_of (wreRelease_outside i s))).trans h
  report r s h := (hv _ _ (outsideSignals_of (outsideWarnings_of (flmReport_outside r s)))).trans h

/-- Every change of slots keeps the part outside the signals. -/
theorem signals_closed (v : State) : SignalClosed fun t => t.outsideSignals = v :=
  view_closed State.outsideSignals (fun _ _ h => h) v

theorem setChannel_outsideChannels (c : Fin 8) (x : Channel) (s : State) :
    (s.setChannel c x).outsideChannels = s.outsideChannels := rfl

/-- Every event at the channels keeps the part outside the channels. -/
theorem channels_closed (v : State) : ChannelClosed fun t => t.outsideChannels = v where
  toSignalClosed := view_closed State.outsideChannels (fun _ _ h => outsideChannels_of h) v
  setChannel _ _ _ h := h
  putOdometer _ _ h := h
  putHours _ _ h := h
  mapChannels _ _ h := h
  request _ _ h := h

theorem pwcActivity_outside (s : State) : (pwcActivity s).outsideDoors = s.outsideDoors := by
  unfold pwcActivity
  split <;> rfl

/-- Every event at the doors keeps the part outside the doors. -/
theorem doors_closed (v : State) : DoorClosed fun t => t.outsideDoors = v where
  toSignalClosed := view_closed State.outsideDoors (fun _ _ h => outsideDoors_of h) v
  setDoor _ _ _ h := h
  putLatch _ _ h := h
  activity s h := (pwcActivity_outside s).trans h

/-- Every event at the channels keeps the part outside all deliveries. -/
theorem deliveries_closed_channels (v : State) : ChannelClosed fun t => t.outsideDeliveries = v where
  toSignalClosed :=
    view_closed State.outsideDeliveries (fun _ _ h => outsideDeliveries_of_doors (outsideDoors_of h)) v
  setChannel _ _ _ h := h
  putOdometer _ _ h := h
  putHours _ _ h := h
  mapChannels _ _ h := h
  request _ _ h := h

/-- Every event at the doors keeps the part outside all deliveries. -/
theorem deliveries_closed_doors (v : State) : DoorClosed fun t => t.outsideDeliveries = v where
  toSignalClosed := (deliveries_closed_channels v).toSignalClosed
  setDoor _ _ _ h := h
  putLatch _ _ h := h
  activity s h := (outsideDeliveries_of_doors (pwcActivity_outside s)).trans h

theorem sourceUpdate_outside (k : SourceKind) (index : Option (Fin 32)) (st : LiveStatus) (v : Value)
    (s : State) : (sourceUpdate k index st v s).outsideSignals = s.outsideSignals :=
  (signals_closed _).source rfl

theorem sgtAlter_outside (i : Fin 96) (x : Slot) (s : State) :
    (sgtAlter i x s).outsideSignals = s.outsideSignals := (signals_closed _).alter rfl

theorem svcExit_outside (s : State) : (svcExit s).outsideSignals = s.outsideSignals :=
  (signals_closed _).svcExit rfl

theorem ccuDeliver_outside (c : Fin 8) (v : Value) (s : State) :
    (ccuDeliver c v s).outsideSignals = s.outsideSignals := sourceUpdate_outside _ _ _ _ _

theorem publishCount_outside (c : Fin 8) (s : State) :
    (publishCount c s).outsideChannels = s.outsideChannels := (channels_closed _).publish rfl

theorem edgeAt_outside (c : Fin 8) (high : Bool) (s : State) :
    (edgeAt c high s).outsideChannels = s.outsideChannels := (channels_closed _).edge rfl

theorem tickAt_outside (c : Fin 8) (s : State) : (tickAt c s).outsideChannels = s.outsideChannels :=
  (channels_closed _).tick rfl

theorem doorEvent_outside (d : Fin 4) (r : DoorRecord) (s : State) :
    (doorEvent d r [] s).outsideDoors = s.outsideDoors := (doors_closed _).event (by simp) rfl

theorem doorAfresh_outside (d : Fin 4) (s : State) : (doorAfresh d s).outsideDoors = s.outsideDoors :=
  (doors_closed _).afresh rfl

theorem switchUsers_outside (n : Fin 32) (u : State) :
    ∀ d ∈ switchUsers n u, ∀ t : State, (d t).outsideDeliveries = t.outsideDeliveries :=
  fun d hd t =>
    switchUsers_keep (deliveries_closed_channels t.outsideDeliveries) (deliveries_closed_doors _)
      (fun s hs => (outsideDeliveries_of_doors
        (outsideDoors_of (outsideSignals_of (wreAcknowledgeInput_outside s)))).trans hs) n u d hd t rfl

/-! ## Notice flags are only added -/

/-- A port holds every flag of a set. -/
def holdsFlags (p : Port) (f : Notices) (s : State) : Prop := (s.port p).flags &&& f = f

theorem holdsFlags_or {x f g : Notices} (h : x &&& f = f) : (x ||| g) &&& f = f := by
  ext i hi
  have := congrArg (fun y : Notices => y[i]) h
  simp only [BitVec.getElem_and, BitVec.getElem_or] at this ⊢
  cases hx : x[i] <;> cases hf : f[i] <;> simp_all

theorem holdsFlags_notice (p : Port) (f g : Notices) {s : State} (h : holdsFlags p f s) :
    holdsFlags p f (s.notice g) := by
  unfold holdsFlags at h ⊢
  rw [State.port_notice]
  exact holdsFlags_or h

theorem holdsFlags_noticeOn (p q : Port) (f g : Notices) {s : State} (h : holdsFlags p f s) :
    holdsFlags p f (s.noticeOn q g) := by
  unfold holdsFlags at h ⊢
  by_cases hq : p = q
  · subst hq
    have : (s.noticeOn p g).port p = (s.port p).notice g := State.port_setPort_same _ _ _
    rw [this]
    exact holdsFlags_or h
  · have : (s.noticeOn q g).port p = s.port p := State.port_setPort_ne _ hq _
    rw [this]
    exact h

theorem holdsFlags_of_ptu {p : Port} {f : Notices} {s t : State} (he : t.ptu = s.ptu)
    (h : holdsFlags p f s) : holdsFlags p f t := by
  unfold holdsFlags State.port at h ⊢
  rw [he]; exact h

theorem holdsFlags_setFlm (p : Port) (f : Notices) (x : Flm) {s : State} (h : holdsFlags p f s) :
    holdsFlags p f (s.setFlm x) := h

theorem holdsFlags_request (p : Port) (f : Notices) (j : Job) {s : State} (h : holdsFlags p f s) :
    holdsFlags p f (rstRequest j s) := h

theorem holdsFlags_flmEvent (p : Port) (f : Notices) (c : FaultChange) {s : State}
    (h : holdsFlags p f s) : holdsFlags p f (flmEvent c s) := by
  unfold flmEvent
  split
  · exact foldl_induct (P := holdsFlags p f) (fun j _ u hu => holdsFlags_request p f j hu)
      (holdsFlags_notice p f flagFaults (holdsFlags_setFlm p f _ h))
  · exact h

theorem holdsFlags_report (p : Port) (f : Notices) (r : Report) {s : State} (h : holdsFlags p f s) :
    holdsFlags p f (flmReport r s) := by
  unfold flmReport
  split
  · exact holdsFlags_flmEvent p f _ h
  · exact holdsFlags_setFlm p f _ h

theorem holdsFlags_wreEvent (p : Port) (f : Notices) (g : WreEvent → WreEvent) {s : State}
    (h : holdsFlags p f s) : holdsFlags p f (wreEvent g s) :=
  wreFinish_keeps (fun _ ht => holdsFlags_of_ptu rfl ht) (fun _ _ ht => holdsFlags_of_ptu rfl ht)
    (fun _ _ ht => holdsFlags_notice p f _ ht) (fun r _ ht => holdsFlags_report p f r ht)
    (holdsFlags_of_ptu rfl h)

/-- A flag that a port holds stays through every change of slots. -/
theorem holdsFlags_closed (p : Port) (f : Notices) : SignalClosed (holdsFlags p f) where
  drawn _ h := holdsFlags_of_ptu rfl h
  setSlot _ _ _ h := holdsFlags_of_ptu rfl h
  setSvc _ _ h := holdsFlags_of_ptu rfl h
  opu _ _ h := holdsFlags_of_ptu rfl h
  notice _ _ h := holdsFlags_notice p f _ h
  noticeOn q g _ h := holdsFlags_noticeOn p q f g h
  evaluate r s h := by
    unfold wreEvaluate
    split
    · exact holdsFlags_wreEvent p f _ h
    · exact h
  release i s h := by
    unfold wreRelease
    split
    · exact holdsFlags_wreEvent p f _ h
    · exact h
  report r _ h := holdsFlags_report p f r h

theorem holdsFlags_channels (p : Port) (f : Notices) : ChannelClosed (holdsFlags p f) where
  toSignalClosed := holdsFlags_closed p f
  setChannel _ _ _ h := holdsFlags_of_ptu rfl h
  putOdometer _ _ h := holdsFlags_of_ptu rfl h
  putHours _ _ h := holdsFlags_of_ptu rfl h
  mapChannels _ _ h := holdsFlags_of_ptu rfl h
  request _ _ h := holdsFlags_of_ptu rfl h

theorem holdsFlags_doors (p : Port) (f : Notices) : DoorClosed (holdsFlags p f) where
  toSignalClosed := holdsFlags_closed p f
  setDoor _ _ _ h := holdsFlags_of_ptu rfl h
  putLatch _ _ h := holdsFlags_of_ptu rfl h
  activity s h := by
    unfold pwcActivity
    split
    · exact holdsFlags_of_ptu rfl h
    · exact h

end Sys2Proof.Machine
end

