-- ==== Sys2Proof/Laws/FaultMemory.lean ====
section
/-! SUPPORT. The Fault List: every operation keeps its codes distinct and its entries at most 32 (R135). -/

namespace Sys2Proof.Machine

/-- At most 32 entries, no two with the same code (R135). -/
def listBounded (l : List FaultEntry) : Prop := l.length ≤ 32 ∧ (l.map FaultEntry.code).Nodup

theorem listBounded_nil : listBounded [] := ⟨by simp, by simp⟩

theorem onCode_codes (code : BitVec 16) {f : FaultEntry → FaultEntry} (hf : ∀ e, (f e).code = e.code)
    (l : List FaultEntry) : (onCode code f l).map FaultEntry.code = l.map FaultEntry.code := by
  unfold onCode
  rw [List.map_map]
  refine List.map_congr_left fun e _ => ?_
  simp only [Function.comp]
  split
  · exact hf e
  · rfl

theorem onCode_length (code : BitVec 16) (f : FaultEntry → FaultEntry) (l : List FaultEntry) :
    (onCode code f l).length = l.length := by simp [onCode]

theorem listBounded_onCode {l : List FaultEntry} (h : listBounded l) (code : BitVec 16)
    {f : FaultEntry → FaultEntry} (hf : ∀ e, (f e).code = e.code) : listBounded (onCode code f l) :=
  ⟨by rw [onCode_length]; exact h.1, by rw [onCode_codes code hf]; exact h.2⟩

theorem listBounded_sublist {l k : List FaultEntry} (hk : listBounded k)
    (hc : (l.map FaultEntry.code).Sublist (k.map FaultEntry.code)) : listBounded l :=
  ⟨by have := hc.length_le; simp only [List.length_map] at this; exact this.trans hk.1, hk.2.sublist hc⟩

theorem listBounded_append {l : List FaultEntry} {e : FaultEntry} (hl : l.length < 32)
    (h : (l.map FaultEntry.code).Nodup) (he : e.code ∉ l.map FaultEntry.code) : listBounded (l ++ [e]) := by
  refine ⟨by simp; omega, ?_⟩
  rw [List.map_append, List.map_singleton]
  exact List.nodup_append.mpr ⟨h, by simp, fun a ha b hb => by
    simp only [List.mem_singleton] at hb
    subst hb
    exact fun e => he (e ▸ ha)⟩

theorem holds_iff {f : Flm} {code : BitVec 16} :
    f.holds code = true ↔ code ∈ f.list.map FaultEntry.code := by
  unfold Flm.holds
  simp only [List.any_eq_true, beq_iff_eq, List.mem_map]

theorem replaceable_mem {l : List FaultEntry} {e : FaultEntry} (h : replaceable l = some e) : e ∈ l := by
  have aux : ∀ (l : List FaultEntry) (b : Option FaultEntry), l.foldl olderOf b = some e →
      e ∈ l ∨ b = some e := by
    intro l
    induction l with
    | nil => exact fun b h => .inr h
    | cons x l ih =>
      intro b h
      rcases ih _ h with h | h
      · exact .inl (List.mem_cons_of_mem _ h)
      · unfold olderOf at h
        split at h
        · split at h
          · simp at h
          · simp only [Option.some.injEq] at h
            subst h
            exact .inl List.mem_cons_self
        · split at h
          · simp only [Option.some.injEq] at h
            subst h
            exact .inl List.mem_cons_self
          · exact .inr h
  rcases aux l none h with h | h
  · exact h
  · simp at h

theorem withoutCode_codes (code : BitVec 16) (l : List FaultEntry) :
    ((withoutCode code l).map FaultEntry.code).Sublist (l.map FaultEntry.code) :=
  List.filter_sublist.map _

theorem withoutCode_length {l : List FaultEntry} {e : FaultEntry} (h : e ∈ l) :
    (withoutCode e.code l).length < l.length := by
  unfold withoutCode
  exact List.length_filter_lt_length_iff_exists.mpr ⟨e, h, by simp⟩

/-- An occurrence keeps the bounds of the list (R138, R139, R141). -/
theorem occurrence_bounded {f : Flm} (h : listBounded f.list) (code : BitVec 16) (source : FaultSource)
    (number : BitVec 8) (st : FaultStamp) : listBounded (f.occurrence code source number st).list := by
  unfold Flm.occurrence
  split
  · exact listBounded_onCode h code (fun _ => rfl)
  · rename_i hc
    have hc' : code ∉ f.list.map FaultEntry.code := fun hm => hc (holds_iff.mpr hm)
    split
    · exact listBounded_append (by assumption) h.2 hc'
    · split
      · rename_i old ho
        have hl := withoutCode_length (replaceable_mem ho)
        have hs := withoutCode_codes old.code f.list
        exact listBounded_append (by have := h.1; omega) (h.2.sublist hs) (fun hm => hc' (hs.subset hm))
      · exact h

theorem ended_bounded {f : Flm} (h : listBounded f.list) (code : BitVec 16) :
    listBounded (f.ended code).list := by
  unfold Flm.ended
  split
  · exact listBounded_onCode h code (fun _ => rfl)
  · exact h

theorem store_bounded {c : FaultChange} (h : listBounded c.list) (code : BitVec 16) :
    listBounded (c.store code).list := listBounded_onCode h code (fun _ => rfl)

theorem apply_bounded {f : Flm} (h : listBounded f.list) (r : Report) (st : FaultStamp) :
    listBounded (f.apply r st).list := by
  unfold Flm.apply
  split
  · dsimp only
    split
    · exact store_bounded (occurrence_bounded h _ _ _ _) _
    · exact occurrence_bounded h _ _ _ _
  · exact ended_bounded h _

theorem applyHeld_bounded {f : Flm} (h : listBounded f.list) (m : HeldReport) (st : FaultStamp) :
    listBounded (f.applyHeld m st).list := by
  unfold Flm.applyHeld
  split
  · dsimp only
    split
    · exact store_bounded (occurrence_bounded h _ _ _ _) _
    · exact occurrence_bounded h _ _ _ _
  · exact ended_bounded h _

theorem aged_code {limit : BitVec 8} {e y : FaultEntry} (h : FaultEntry.aged limit e = some y) :
    y.code = e.code := by
  unfold FaultEntry.aged at h
  split at h
  · simp only [Option.some.injEq] at h; rw [← h]
  · dsimp only at h
    split at h
    · simp at h
    · simp only [Option.some.injEq] at h; rw [← h]

theorem agingStep_bounded {f : Flm} (h : listBounded f.list) (limit : BitVec 8) :
    listBounded (f.agingStep limit).list := by
  unfold Flm.agingStep
  split
  · refine listBounded_sublist h ?_
    generalize f.list = l
    induction l with
    | nil => exact List.Sublist.refl _
    | cons e l ih =>
      dsimp only at ih ⊢
      rw [List.filterMap_cons]
      split
      · exact .cons _ ih
      · rename_i y hy
        simp only [List.map_cons]
        rw [aged_code hy]
        exact .cons_cons _ ih
  · exact h

theorem clear_bounded {f : Flm} (h : listBounded f.list) (st : FaultStamp) :
    listBounded (f.clear st).list := by
  refine listBounded_sublist h ?_
  unfold Flm.clear
  dsimp only
  rw [List.map_map]
  exact (List.filter_sublist (p := fun e : FaultEntry => e.active)).map FaultEntry.code

theorem requests_flm (jobs : List Job) (s : State) :
    (jobs.foldl (fun t j => rstRequest j t) s).flm = s.flm :=
  foldl_keeps State.flm (f := fun t j => rstRequest j t) (fun _ _ _ => rfl) s

theorem requests_ptu (jobs : List Job) (s : State) :
    (jobs.foldl (fun t j => rstRequest j t) s).ptu = s.ptu :=
  foldl_keeps State.ptu (f := fun t j => rstRequest j t) (fun _ _ _ => rfl) s

/-- The list after an event is the one the change gives, or as before. -/
theorem flmEvent_list (c : FaultChange) (s : State) :
    (flmEvent c s).flm.list = if c.changed then c.list else s.flm.list := by
  unfold flmEvent
  split
  · dsimp only
    rw [requests_flm]
    rfl
  · rfl

theorem flmEvent_bounded {c : FaultChange} {s : State} (h : listBounded s.flm.list)
    (hc : listBounded c.list) : listBounded (flmEvent c s).flm.list := by
  rw [flmEvent_list]
  split
  · exact hc
  · exact h

/-- A report keeps the bounds of the list. -/
theorem flmReport_bounded {r : Report} {s : State} (h : listBounded s.flm.list) :
    listBounded (flmReport r s).flm.list := by
  unfold flmReport
  split
  · exact flmEvent_bounded h (apply_bounded h _ _)
  · exact h

theorem flmReports_bounded {rs : List Report} {s : State} (h : listBounded s.flm.list) :
    listBounded (flmReports rs s).flm.list :=
  foldl_induct (P := fun t => listBounded t.flm.list) (fun _ _ _ ht => flmReport_bounded ht) h

/-- What an event at FLM makes of the header and the notices (R144). -/
theorem flmEvent_generation (c : FaultChange) (s : State) :
    (flmEvent c s).flm.generation = if c.changed then s.flm.generation + 1 else s.flm.generation := by
  unfold flmEvent
  split
  · dsimp only
    rw [requests_flm]
    rfl
  · rfl

theorem flmEvent_overflow (c : FaultChange) (s : State) :
    (flmEvent c s).flm.overflow = if c.changed then c.overflow else s.flm.overflow := by
  unfold flmEvent
  split
  · dsimp only
    rw [requests_flm]
    rfl
  · rfl

theorem flmEvent_ptu (c : FaultChange) (s : State) :
    (flmEvent c s).ptu = if c.changed then (s.notice flagFaults).ptu else s.ptu := by
  unfold flmEvent
  split
  · dsimp only
    rw [requests_ptu]
    rfl
  · rfl

end Sys2Proof.Machine
end

