-- ==== Sys2Proof/Laws/Flash.lean ====
section
/-! SUPPORT. The flash array: every operation keeps the canonical form, and what a slot reads as after a
program or an erase. -/

namespace Sys2Proof.Machine

theorem rising_cons {a : Nat} {l : List Nat} : rising (a :: l) = true ↔ (∀ b ∈ l, a < b) ∧ rising l = true := by
  induction l generalizing a with
  | nil => simp [rising]
  | cons b l ih =>
    simp only [rising, Bool.and_eq_true, decide_eq_true_eq, List.mem_cons, forall_eq_or_imp]
    constructor
    · intro ⟨h1, h2⟩
      exact ⟨⟨h1, fun c hc => h1.trans ((ih.mp h2).1 c hc)⟩, h2⟩
    · intro ⟨⟨h1, _⟩, h2⟩
      exact ⟨h1, h2⟩

theorem rising_sublist {l k : List Nat} (h : l.Sublist k) (hk : rising k = true) : rising l = true := by
  induction h with
  | slnil => exact hk
  | cons a _ ih => exact ih (rising_cons.mp hk).2
  | cons_cons a hs ih =>
    exact rising_cons.mpr ⟨fun b hb => (rising_cons.mp hk).1 b (hs.subset hb), ih (rising_cons.mp hk).2⟩

theorem Flash.wf_nil : Flash.wf [] = true := rfl

theorem State.reset_flash_wf : Flash.wf State.reset.rst.flash = true := rfl

theorem Flash.mem_program {f : Flash} {n : Nat} {x : FlashSlot} {e : Nat × FlashSlot}
    (h : e ∈ f.program n x) : e = (n, x) ∨ e ∈ f := by
  induction f with
  | nil => simpa [Flash.program] using h
  | cons y f ih =>
    obtain ⟨a, y⟩ := y
    unfold Flash.program at h
    split at h
    · simpa using h
    · split at h
      · simp only [List.mem_cons] at h ⊢
        tauto
      · simp only [List.mem_cons] at h ⊢
        rcases h with h | h
        · exact .inr (.inl h)
        · rcases ih h with h | h
          · exact .inl h
          · exact .inr (.inr h)

theorem Flash.program_wf {f : Flash} (h : f.wf = true) (n : Nat) (x : FlashSlot) :
    (f.program n x).wf = true := by
  unfold Flash.wf at h ⊢
  induction f with
  | nil => rfl
  | cons y f ih =>
    obtain ⟨a, y⟩ := y
    have h' : (∀ b ∈ f.map Prod.fst, a < b) ∧ rising (f.map Prod.fst) = true := rising_cons.mp h
    unfold Flash.program
    split
    · rename_i hlt
      refine rising_cons.mpr ⟨?_, h⟩
      intro b hb
      simp only [List.map_cons, List.mem_cons] at hb
      rcases hb with rfl | hb
      · exact hlt
      · exact hlt.trans (h'.1 b hb)
    · split
      · rename_i he
        subst he
        exact rising_cons.mpr h'
      · refine rising_cons.mpr ⟨?_, ih h'.2⟩
        intro b hb
        obtain ⟨e, he, rfl⟩ := List.mem_map.mp hb
        rcases Flash.mem_program he with rfl | he
        · show a < n
          omega
        · exact h'.1 _ (List.mem_map_of_mem he)

theorem Flash.filter_wf {f : Flash} (h : f.wf = true) (p : Nat × FlashSlot → Bool) :
    Flash.wf (f.filter p) = true := rising_sublist (List.filter_sublist.map _) h

theorem Flash.eraseSlot_wf {f : Flash} (h : f.wf = true) (n : Nat) : (f.eraseSlot n).wf = true :=
  Flash.filter_wf h _

theorem Flash.eraseBlock_wf {f : Flash} (h : f.wf = true) (b : Fin 16) : (f.eraseBlock b).wf = true :=
  Flash.filter_wf h _

theorem halfErased_address {draw : Nat} {b : Fin 16} {e y : Nat × FlashSlot}
    (h : halfErased draw b e = some y) : y.1 = e.1 := by
  unfold halfErased at h
  split at h
  · simp only [Option.some.injEq] at h; rw [← h]
  · split at h
    · split at h
      · simp at h
      · simp only [Option.some.injEq] at h; rw [← h]
    · split at h
      · simp at h
      · simp only [Option.some.injEq] at h; rw [← h]
      · simp only [Option.some.injEq] at h; rw [← h]

theorem filterMap_addresses {f : Nat × FlashSlot → Option (Nat × FlashSlot)}
    (h : ∀ e y, f e = some y → y.1 = e.1) (l : Flash) :
    ((l.filterMap f).map Prod.fst).Sublist (l.map Prod.fst) := by
  induction l with
  | nil => exact List.Sublist.refl _
  | cons e l ih =>
    rw [List.filterMap_cons]
    split
    · exact .cons _ ih
    · rename_i y hy
      simp only [List.map_cons]
      rw [h e y hy]
      exact .cons_cons _ ih

theorem Flash.afterHalfErase_wf {f : Flash} (h : f.wf = true) (draw : Nat) (b : Fin 16) :
    (f.afterHalfErase draw b).wf = true :=
  rising_sublist (filterMap_addresses (fun _ _ => halfErased_address) f) h

theorem Flash.afterFail_wf {f : Flash} (h : f.wf = true) (draw n : Nat) : (f.afterFail draw n).wf = true := by
  unfold Flash.afterFail
  split
  · exact h
  · exact Flash.program_wf h _ _

theorem Flash.afterTorn_wf {f : Flash} (h : f.wf = true) (draw n : Nat) (x : FlashSlot) :
    (f.afterTorn draw n x).wf = true := by
  unfold Flash.afterTorn
  split
  · exact h
  · exact Flash.program_wf h _ _
  · exact Flash.program_wf h _ _

/-- The end with PASS of any operation keeps the canonical form. -/
theorem Flash.passed_wf {f : Flash} (h : f.wf = true) (op : FlashOp) : (f.passed op).wf = true := by
  unfold Flash.passed
  split
  · exact Flash.program_wf h _ _
  · exact Flash.eraseBlock_wf h _

/-- The end with FAIL of any operation keeps the canonical form. -/
theorem Flash.failed_wf {f : Flash} (h : f.wf = true) (draw : Nat) (op : FlashOp) :
    (f.failed draw op).wf = true := by
  unfold Flash.failed
  split
  · split
    · exact h
    · exact Flash.afterFail_wf h _ _
  · exact Flash.afterHalfErase_wf h _ _

/-- An abandoned operation keeps the canonical form. -/
theorem Flash.abandoned_wf {f : Flash} (h : f.wf = true) (draw : Nat) (op : FlashOp) :
    (f.abandoned draw op).wf = true := by
  unfold Flash.abandoned
  split
  · exact Flash.afterTorn_wf h _ _ _
  · exact Flash.afterHalfErase_wf h _ _

/-! ## Reading -/

@[simp] theorem Flash.read_nil (n : Nat) : Flash.read [] n = none := rfl

theorem Flash.read_program_same (f : Flash) (n : Nat) (x : FlashSlot) : (f.program n x).read n = some x := by
  induction f with
  | nil => simp [Flash.program, Flash.read]
  | cons y f ih =>
    obtain ⟨a, y⟩ := y
    unfold Flash.program
    split
    · simp [Flash.read]
    · split
      · simp [Flash.read]
      · rename_i h1 h2
        have : a ≠ n := fun h => h2 h.symm
        simp [Flash.read, this, ih]

theorem Flash.read_program_ne (f : Flash) {n m : Nat} (h : m ≠ n) (x : FlashSlot) :
    (f.program n x).read m = f.read m := by
  induction f with
  | nil => simp [Flash.program, Flash.read, h.symm]
  | cons y f ih =>
    obtain ⟨a, y⟩ := y
    unfold Flash.program
    split
    · simp [Flash.read, h.symm]
    · split
      · rename_i h1 h2
        subst h2
        simp [Flash.read, h.symm]
      · simp only [Flash.read, ih]

theorem Flash.read_filter (f : Flash) (p : Nat → Bool) (n : Nat) :
    Flash.read (f.filter fun e => p e.1) n = if p n then f.read n else none := by
  induction f with
  | nil => simp
  | cons y f ih =>
    obtain ⟨a, y⟩ := y
    rw [List.filter_cons]
    by_cases ha : a = n
    · subst ha
      by_cases hp : p a = true
      · simp [hp, Flash.read]
      · simp [hp, ih]
    · by_cases hp : p a = true
      · simp [hp, Flash.read, ha, ih]
      · simp [hp, Flash.read, ha, ih]

/-- After an erase of a block its slots read as erased, and every other slot as before. -/
theorem Flash.read_eraseBlock (f : Flash) (b : Fin 16) (n : Nat) :
    (f.eraseBlock b).read n = if n / 64 = b.val then none else f.read n := by
  have := Flash.read_filter f (fun a => a / 64 != b.val) n
  unfold Flash.eraseBlock
  rw [this]
  by_cases h : n / 64 = b.val <;> simp [h]

end Sys2Proof.Machine
end

