-- ==== Sys2Proof/Laws/Layout.lean ====
section
/-! SUPPORT. The coding of numbers: what bytes give back, and the lengths of fields. -/

namespace Sys2Proof.Machine

@[simp] theorem leBytes_length (k n : Nat) : (leBytes k n).length = k := by
  induction k generalizing n with
  | zero => rfl
  | succ k ih => simp [leBytes, ih]

@[simp] theorem bytes16_length (x : BitVec 16) : (bytes16 x).length = 2 := leBytes_length _ _
@[simp] theorem bytes32_length (x : BitVec 32) : (bytes32 x).length = 4 := leBytes_length _ _

/-- The number that the bytes of a number give is the number within its width. -/
theorem leNum_leBytes (k n : Nat) : leNum (leBytes k n) = n % 256 ^ k := by
  induction k generalizing n with
  | zero => simp [leBytes, leNum, Nat.mod_one]
  | succ k ih =>
    have h : leNum (leBytes (k + 1) n) = n % 256 + 256 * (n / 256 % 256 ^ k) := by
      rw [← ih (n / 256)]
      show (BitVec.ofNat 8 n).toNat + 256 * leNum (leBytes k (n / 256)) = _
      rw [BitVec.toNat_ofNat]
    rw [h, pow_succ', Nat.mod_mul]

theorem numAt_of_append {pre mid post : List Byte} {i k : Nat} (hi : pre.length = i)
    (hk : mid.length = k) : numAt (pre ++ (mid ++ post)) i k = leNum mid := by
  subst hi hk
  simp [numAt]

theorem field32_of_append {pre post : List Byte} {x : BitVec 32} {i : Nat} (hi : pre.length = i) :
    field32 (pre ++ (bytes32 x ++ post)) i = x := by
  unfold field32
  rw [numAt_of_append hi (bytes32_length x)]
  unfold bytes32
  rw [leNum_leBytes, Nat.mod_eq_of_lt (by have := x.isLt; omega)]
  simp

theorem field16_of_append {pre post : List Byte} {x : BitVec 16} {i : Nat} (hi : pre.length = i) :
    field16 (pre ++ (bytes16 x ++ post)) i = x := by
  unfold field16
  rw [numAt_of_append hi (bytes16_length x)]
  unfold bytes16
  rw [leNum_leBytes, Nat.mod_eq_of_lt (by have := x.isLt; omega)]
  simp

/-- The check passes over its own bytes. -/
theorem slotOf_passes (bs : List Byte) : (slotOf bs).passes = true := by simp [slotOf, FlashSlot.passes]

@[simp] theorem padded_length (bs : List Byte) : (padded bs).length = 60 := by simp [padded]

theorem crc8_append (bs : List Byte) (b : Byte) : crc8 (bs ++ [b]) = crcByte (crc8 bs) b := by
  simp [crc8]

theorem withCheck_length (bs : List Byte) : (withCheck bs).length = bs.length + 1 := by simp [withCheck]

end Sys2Proof.Machine
end

