-- ==== Sys2Proof/WellFormed.lean ====
section
/-! DEFINITION. The checks on a command beyond its types: a request row names a port that Table 67
lets send that request. A sender of commands that keeps to them never names an owner's work that the
Port Unit would have refused. -/

namespace Sys2Proof

/-- CHANNEL_CONTROL and READ_CHANNELS are not permitted on port C (R194, Table 67). -/
def Port.mayUseChannels : Port → Bool
  | .cluster => false
  | .body => true
  | .service => true

/-- A command whose operands the spec allows. Indices are in range by their types. -/
def Instr.wellFormed : Instr → Bool
  | .softGateOn p => p.mayUseChannels
  | .softGateOff p => p.mayUseChannels
  | .setCount p => p.mayUseChannels
  | .setUpper p => p.mayUseChannels
  | .readChannels p => p.mayUseChannels
  | .powerOn _ | .pinReset _ | .ignitionChange | .quietTimerExpiry | .chipSelectFall _
  | .chipSelectRise _ _ | .readStatus _ | .readNotices _ | .setNoticeMask _ | .readSignals _
  | .readWarnings _ | .readDoors _ | .readFaultSummary _ | .ackWarningRule | .ackWarningAllOfClass
  | .netFrames | .serviceEnter | .serviceExit | .serviceTimerExpiry | .readoutOpen | .readoutNext
  | .liveSubscribe | .liveFetch | .substitute | .releaseSubstitute | .outputTest | .outputTestStop
  | .testTimerExpiry | .clearPrepare | .clearConfirm | .windowTimerExpiry | .calibLoad | .calibRead
  | .calibCommitPrepare | .calibCommitConfirm | .odometerSet | .switchDebouncedChange _
  | .refreshTimerExpiry _ | .senderSample _ _ | .pulseEdge _ | .millisecondTick _ _
  | .rateWindowExpiry _ | .holdOffExpiry _ | .raiseTimerExpiry _ | .clearTimerExpiry _
  | .reAnnounceTimerExpiry _ | .flashTimerExpiry _ | .cadenceTimerExpiry | .fallbackTimerExpiry
  | .openLimitExpiry _ | .settleTimerExpiry _ | .closeLimitExpiry _ | .flashJobTaken
  | .flashOperationEnd _ | .backgroundEraseStart | .powerLoss | .resetRelease => true

end Sys2Proof
end

