-- ==== Sys2Proof/Laws/PerInstr.lean ====
section
/-! SUPPORT. A statement about every command, lemma by lemma: which commands carry a port that Table 67 may
keep from them, and that the others are well-formed whatever their operands. -/

namespace Sys2Proof.Laws.RequestRow

/-- The port that a command of CHANNEL_CONTROL or READ_CHANNELS names. -/
def channelPort : Instr → Option Port
  | .softGateOn p | .softGateOff p | .setCount p | .setUpper p | .readChannels p => some p
  | _ => none

/-- A command is well-formed exactly when a channel request it stands for comes from port B or port S. -/
def Statement (i : Instr) : Prop :=
  i.wellFormed = true ↔ channelPort i ≠ some .cluster

/-- A command that names no channel request meets the statement whatever its operands. -/
theorem of_no_port {i : Instr} (wellFormed : i.wellFormed = true) (port : channelPort i = none) : Statement i := by
  constructor
  · intro _ clusterPort
    rw [port] at clusterPort
    nomatch clusterPort
  · intro _
    exact wellFormed

/-- A command of a channel request meets it by the right of its port. -/
theorem of_channel_port {i : Instr} {p : Port} (wellFormed : i.wellFormed = p.mayUseChannels)
    (port : channelPort i = some p) : Statement i := by
  unfold Statement
  rw [wellFormed, port]
  cases p <;> decide

theorem powerOn (levels : StartLevels) : Statement (.powerOn levels) := of_no_port rfl rfl
theorem pinReset (levels : StartLevels) : Statement (.pinReset levels) := of_no_port rfl rfl
theorem ignitionChange : Statement .ignitionChange := of_no_port rfl rfl
theorem quietTimerExpiry : Statement .quietTimerExpiry := of_no_port rfl rfl
theorem chipSelectFall (p : Port) : Statement (.chipSelectFall p) := of_no_port rfl rfl
theorem chipSelectRise (p : Port) (bytesIn : List Byte) : Statement (.chipSelectRise p bytesIn) := of_no_port rfl rfl
theorem readStatus (p : Port) : Statement (.readStatus p) := of_no_port rfl rfl
theorem readNotices (p : Port) : Statement (.readNotices p) := of_no_port rfl rfl
theorem setNoticeMask (p : Port) : Statement (.setNoticeMask p) := of_no_port rfl rfl
theorem readSignals (p : Port) : Statement (.readSignals p) := of_no_port rfl rfl
theorem readWarnings (p : Port) : Statement (.readWarnings p) := of_no_port rfl rfl
theorem readDoors (p : Port) : Statement (.readDoors p) := of_no_port rfl rfl
theorem readFaultSummary (p : Port) : Statement (.readFaultSummary p) := of_no_port rfl rfl
theorem ackWarningRule : Statement .ackWarningRule := of_no_port rfl rfl
theorem ackWarningAllOfClass : Statement .ackWarningAllOfClass := of_no_port rfl rfl
theorem netFrames : Statement .netFrames := of_no_port rfl rfl
theorem softGateOn (p : Port) : Statement (.softGateOn p) := of_channel_port rfl rfl
theorem softGateOff (p : Port) : Statement (.softGateOff p) := of_channel_port rfl rfl
theorem setCount (p : Port) : Statement (.setCount p) := of_channel_port rfl rfl
theorem setUpper (p : Port) : Statement (.setUpper p) := of_channel_port rfl rfl
theorem readChannels (p : Port) : Statement (.readChannels p) := of_channel_port rfl rfl
theorem serviceEnter : Statement .serviceEnter := of_no_port rfl rfl
theorem serviceExit : Statement .serviceExit := of_no_port rfl rfl
theorem serviceTimerExpiry : Statement .serviceTimerExpiry := of_no_port rfl rfl
theorem readoutOpen : Statement .readoutOpen := of_no_port rfl rfl
theorem readoutNext : Statement .readoutNext := of_no_port rfl rfl
theorem liveSubscribe : Statement .liveSubscribe := of_no_port rfl rfl
theorem liveFetch : Statement .liveFetch := of_no_port rfl rfl
theorem substitute : Statement .substitute := of_no_port rfl rfl
theorem releaseSubstitute : Statement .releaseSubstitute := of_no_port rfl rfl
theorem outputTest : Statement .outputTest := of_no_port rfl rfl
theorem outputTestStop : Statement .outputTestStop := of_no_port rfl rfl
theorem testTimerExpiry : Statement .testTimerExpiry := of_no_port rfl rfl
theorem clearPrepare : Statement .clearPrepare := of_no_port rfl rfl
theorem clearConfirm : Statement .clearConfirm := of_no_port rfl rfl
theorem windowTimerExpiry : Statement .windowTimerExpiry := of_no_port rfl rfl
theorem calibLoad : Statement .calibLoad := of_no_port rfl rfl
theorem calibRead : Statement .calibRead := of_no_port rfl rfl
theorem calibCommitPrepare : Statement .calibCommitPrepare := of_no_port rfl rfl
theorem calibCommitConfirm : Statement .calibCommitConfirm := of_no_port rfl rfl
theorem odometerSet : Statement .odometerSet := of_no_port rfl rfl
theorem switchDebouncedChange (n : Fin 32) : Statement (.switchDebouncedChange n) := of_no_port rfl rfl
theorem refreshTimerExpiry (slot : Fin 96) : Statement (.refreshTimerExpiry slot) := of_no_port rfl rfl
theorem senderSample (n : Fin 8) (raw : BitVec 12) : Statement (.senderSample n raw) := of_no_port rfl rfl
theorem pulseEdge (n : Fin 8) : Statement (.pulseEdge n) := of_no_port rfl rfl
theorem millisecondTick (switches : BitVec 32) (ign : Bool) : Statement (.millisecondTick switches ign) := of_no_port rfl rfl
theorem rateWindowExpiry (c : Fin 8) : Statement (.rateWindowExpiry c) := of_no_port rfl rfl
theorem holdOffExpiry (c : Fin 8) : Statement (.holdOffExpiry c) := of_no_port rfl rfl
theorem raiseTimerExpiry (r : Fin 48) : Statement (.raiseTimerExpiry r) := of_no_port rfl rfl
theorem clearTimerExpiry (r : Fin 48) : Statement (.clearTimerExpiry r) := of_no_port rfl rfl
theorem reAnnounceTimerExpiry (r : Fin 48) : Statement (.reAnnounceTimerExpiry r) := of_no_port rfl rfl
theorem flashTimerExpiry (lamp : FlashingLamp) : Statement (.flashTimerExpiry lamp) := of_no_port rfl rfl
theorem cadenceTimerExpiry : Statement .cadenceTimerExpiry := of_no_port rfl rfl
theorem fallbackTimerExpiry : Statement .fallbackTimerExpiry := of_no_port rfl rfl
theorem openLimitExpiry (d : Fin 4) : Statement (.openLimitExpiry d) := of_no_port rfl rfl
theorem settleTimerExpiry (d : Fin 4) : Statement (.settleTimerExpiry d) := of_no_port rfl rfl
theorem closeLimitExpiry (d : Fin 4) : Statement (.closeLimitExpiry d) := of_no_port rfl rfl
theorem flashJobTaken : Statement .flashJobTaken := of_no_port rfl rfl
theorem flashOperationEnd (pass : Bool) : Statement (.flashOperationEnd pass) := of_no_port rfl rfl
theorem backgroundEraseStart : Statement .backgroundEraseStart := of_no_port rfl rfl
theorem powerLoss : Statement .powerLoss := of_no_port rfl rfl
theorem resetRelease : Statement .resetRelease := of_no_port rfl rfl

end Sys2Proof.Laws.RequestRow
end

