-- ==== Sys2Proof/Laws/Requests.lean ====
section
/-! SUPPORT. The carrying out of a request: what a command of an owner makes of the port and of the rest. -/

namespace Sys2Proof.Machine

theorem State.inHand_eq_some {s : State} {p : Port} {k : RequestKind} {r : Request} :
    s.inHand p k = some r ↔ (s.port p).state = .working r ∧ r.code.toNat = k.code := by
  unfold State.inHand
  constructor
  · intro h
    split at h
    · rename_i r' hr
      split at h
      · simp only [Option.some.injEq] at h
        subst h
        exact ⟨hr, by assumption⟩
      · simp at h
    · simp at h
    · simp at h
  · rintro ⟨h, hk⟩
    simp [h, hk]

/-- A request in hand whose payload suits the command is carried out, and its answer handed back. -/
theorem carryOutForm_eq {k : RequestKind} {p : Port} {suits : List Byte → Bool}
    {work : List Byte → State → Reply} {s : State} {r : Request}
    (h : (s.port p).state = .working r) (hk : r.code.toNat = k.code) (hs : suits r.payload = true) :
    carryOutForm k p suits work s = handBack p r (work r.payload s) := by
  unfold carryOutForm
  rw [State.inHand_eq_some.mpr ⟨h, hk⟩]
  simp [hs]

theorem carryOut_eq {k : RequestKind} {p : Port} {work : List Byte → State → Reply} {s : State} {r : Request}
    (h : (s.port p).state = .working r) (hk : r.code.toNat = k.code) :
    carryOut k p work s = handBack p r (work r.payload s) := carryOutForm_eq h hk rfl

/-- A command of an owner keeps what its work and the placing of the answer keep. -/
theorem carryOutForm_induct {P : State → Prop} {k : RequestKind} {p : Port} {suits : List Byte → Bool}
    {work : List Byte → State → Reply} {s : State} (hs : P s) (hw : ∀ bs, P (work bs s).state)
    (hp : ∀ t a, P t → P (t.placeAnswer p a true)) : P (carryOutForm k p suits work s) := by
  unfold carryOutForm
  split
  · exact hs
  · split
    · exact hp _ _ (hw _)
    · exact hs

/-- The answer in the slot. -/
@[simp] theorem State.placeAnswer_port (s : State) (p : Port) (a : Answer) (b : Bool) :
    ((s.placeAnswer p a b).port p).state = .ready a := by
  unfold State.placeAnswer
  cases b <;> simp

/-- Another port is left as it is. -/
theorem State.placeAnswer_port_ne (s : State) {p q : Port} (h : q ≠ p) (a : Answer) (b : Bool) :
    (s.placeAnswer p a b).port q = s.port q := State.port_setPort_ne _ h _

theorem State.placeAnswer_eq (s : State) (p : Port) (a : Answer) (b : Bool) :
    ∃ r, s.placeAnswer p a b = s.setPort p r := ⟨_, rfl⟩

/-! ## placeAnswer -/

@[simp] theorem State.placeAnswer_cal (s : State) (p : Port) (a : Answer) (b : Bool) :
    (s.placeAnswer p a b).cal = s.cal := rfl
@[simp] theorem State.placeAnswer_calLoaded (s : State) (p : Port) (a : Answer) (b : Bool) :
    (s.placeAnswer p a b).calLoaded = s.calLoaded := rfl
@[simp] theorem State.placeAnswer_slots (s : State) (p : Port) (a : Answer) (b : Bool) :
    (s.placeAnswer p a b).slots = s.slots := rfl
@[simp] theorem State.placeAnswer_switches (s : State) (p : Port) (a : Answer) (b : Bool) :
    (s.placeAnswer p a b).switches = s.switches := rfl
@[simp] theorem State.placeAnswer_senders (s : State) (p : Port) (a : Answer) (b : Bool) :
    (s.placeAnswer p a b).senders = s.senders := rfl
@[simp] theorem State.placeAnswer_ccu (s : State) (p : Port) (a : Answer) (b : Bool) :
    (s.placeAnswer p a b).ccu = s.ccu := rfl
@[simp] theorem State.placeAnswer_wre (s : State) (p : Port) (a : Answer) (b : Bool) :
    (s.placeAnswer p a b).wre = s.wre := rfl
@[simp] theorem State.placeAnswer_opu (s : State) (p : Port) (a : Answer) (b : Bool) :
    (s.placeAnswer p a b).opu = s.opu := rfl
@[simp] theorem State.placeAnswer_drs (s : State) (p : Port) (a : Answer) (b : Bool) :
    (s.placeAnswer p a b).drs = s.drs := rfl
@[simp] theorem State.placeAnswer_flm (s : State) (p : Port) (a : Answer) (b : Bool) :
    (s.placeAnswer p a b).flm = s.flm := rfl
@[simp] theorem State.placeAnswer_rst (s : State) (p : Port) (a : Answer) (b : Bool) :
    (s.placeAnswer p a b).rst = s.rst := rfl
@[simp] theorem State.placeAnswer_svc (s : State) (p : Port) (a : Answer) (b : Bool) :
    (s.placeAnswer p a b).svc = s.svc := rfl
@[simp] theorem State.placeAnswer_pwc (s : State) (p : Port) (a : Answer) (b : Bool) :
    (s.placeAnswer p a b).pwc = s.pwc := rfl
@[simp] theorem State.placeAnswer_pins (s : State) (p : Port) (a : Answer) (b : Bool) :
    (s.placeAnswer p a b).pins = s.pins := rfl
@[simp] theorem State.placeAnswer_supply (s : State) (p : Port) (a : Answer) (b : Bool) :
    (s.placeAnswer p a b).supply = s.supply := rfl
@[simp] theorem State.placeAnswer_draws (s : State) (p : Port) (a : Answer) (b : Bool) :
    (s.placeAnswer p a b).draws = s.draws := rfl
@[simp] theorem State.placeAnswer_pending (s : State) (p : Port) (a : Answer) (b : Bool) :
    (s.placeAnswer p a b).pending = s.pending := rfl

end Sys2Proof.Machine
end

