-- ==== Sys2Proof/Laws/StoreQueue.lean ====
section
/-! SUPPORT. The Flash Job Queue: a request keeps its jobs distinct and at most eight (R160, R161). -/

namespace Sys2Proof.Machine

theorem mem_joinQueue {q : List Job} {j k : Job} : k ∈ joinQueue q j ↔ k ∈ q ∨ k = j := by
  unfold joinQueue
  split
  · rename_i h
    constructor
    · exact .inl
    · rintro (h' | rfl)
      · exact h'
      · exact h
  · simp

theorem joinQueue_nodup {q : List Job} (h : q.Nodup) (j : Job) : (joinQueue q j).Nodup := by
  unfold joinQueue
  split
  · exact h
  · rename_i hj
    exact List.nodup_append.mpr ⟨h, by simp, fun a ha b hb => by
      simp only [List.mem_singleton] at hb
      subst hb
      exact fun e => hj (e ▸ ha)⟩

/-- A request keeps the queued jobs distinct. -/
theorem coalesce_nodup {q : List Job} (h : q.Nodup) (j : Job) : (coalesce q j).Nodup := by
  unfold coalesce
  split
  · exact joinQueue_nodup h _
  · split
    · exact h
    · exact joinQueue_nodup h _
  · exact joinQueue_nodup (h.filter _) _
  · exact joinQueue_nodup h _

theorem enqueue_nodup {q : List Job} (h : q.Nodup) (j : Job) : (enqueue q j).Nodup := by
  unfold enqueue
  split
  · exact coalesce_nodup h _
  · exact coalesce_nodup (coalesce_nodup h _) _

/-- Distinct jobs none of which is a FAULT_APPEND are at most three. -/
theorem length_of_no_appends {q : List Job} (h : q.Nodup) (hq : ∀ j ∈ q, j.isAppend = false) :
    q.length ≤ 3 := by
  have hsub : q ⊆ [Job.counterSave, .faultRewrite, .calibWrite] := by
    intro j hj
    have := hq j hj
    cases j <;> simp_all [Job.isAppend]
  exact h.length_le_of_subset hsub

theorem mem_coalesce_rewrite {q : List Job} {k : Job} (h : k ∈ coalesce q .faultRewrite) :
    k.isAppend = false := by
  unfold coalesce at h
  rcases mem_joinQueue.mp h with h | rfl
  · simpa using (List.mem_filter.mp h).2
  · rfl

theorem coalesce_length_le (q : List Job) (j : Job) : (coalesce q j).length ≤ q.length + 1 := by
  have hj : ∀ (q : List Job) (j : Job), (joinQueue q j).length ≤ q.length + 1 := by
    intro q j
    unfold joinQueue
    split <;> simp
  unfold coalesce
  split
  · exact hj _ _
  · split
    · omega
    · exact hj _ _
  · exact (hj _ _).trans (Nat.succ_le_succ (List.length_filter_le _ _))
  · exact hj _ _

/-- A request leaves at most eight jobs in a queue of distinct jobs (R161). -/
theorem enqueue_length {q : List Job} (h : q.Nodup) (j : Job) : (enqueue q j).length ≤ 8 := by
  unfold enqueue
  split
  · assumption
  · have := length_of_no_appends (coalesce_nodup h .faultRewrite) fun k hk => mem_coalesce_rewrite hk
    have := coalesce_length_le (coalesce q .faultRewrite) j
    omega

/-- What a store request makes of the queue. -/
@[simp] theorem rstRequest_queue (j : Job) (s : State) :
    (rstRequest j s).rst.queue = enqueue s.rst.queue j := rfl

end Sys2Proof.Machine
end

