-- ==== Sys2Proof/Tests/Slice0.lean ====
section
/-! SUPPORT. Tests: the checks of a command, worked examples of the manual, single steps on small states, and
for every obligation with hypotheses a state and operands that meet them. -/

namespace Sys2Proof.Tests

open Sys2Proof Sys2Proof.Machine Sys2Proof.Claims

/-! ## Small states -/

/-- The part in a power state, 5 s after its reset, with the replay done, the table event taken and IGN on. -/
def at5s (p : PowerState) : State :=
  { State.reset with
    pwc := { pwcReset false true false with power := p, uptime := 5000 }
    opu := { opuReset with power := p }
    wre := { wreReset with tableTaken := true }
    flm := { flmReset with replayDone := true } }

/-- The part in RUN. -/
def run : State := at5s .run

/-- The part in RUN with service mode ON. -/
def inRunService : State := run.setSvc { svcReset with state := .on, serviceTimer := some 65000 }

/-- A request of a kind with tag 55h. -/
def request (k : RequestKind) (payload : List Byte) : Request := ⟨numByte k.code, 0x55#8, payload⟩

/-- A state in which a port carries out a request. -/
def asked (p : Port) (k : RequestKind) (payload : List Byte) (s : State) : State :=
  s.setPort p { s.port p with state := .working (request k payload) }

/-- A transaction in progress at a port. -/
def during (p : Port) (t : Transaction) (s : State) : State :=
  s.setPort p { s.port p with transaction := some t }

/-- A slot bound to a source, VALID with a value. -/
def validSlot (k : SourceKind) (index : Option (Fin 32)) (v : Value) : Slot :=
  { slotReset with kind := k, index := index, liveStatus := .valid, liveValue := v }

/-- A calibration with speed slot 0 and parking-brake slot 1. -/
def roleCal : Calibration :=
  { Calibration.factory with
    general := { factoryGeneral with speedSlot := some 0, brakeSlot := some 1 } }

/-- The part standing with its parking brake applied. -/
def parked (s : State) : State :=
  { s with
    cal := roleCal
    slots := (s.slots.set 0 (validSlot .network (some 0) 0)).set 1 (validSlot .switch (some 3) 1) }

/-- A calibration with one channel's item. -/
def channelCal (c : Fin 8) (it : ChannelItem) : Calibration :=
  { Calibration.factory with channels := Calibration.factory.channels.set c it }

/-- A calibration with one rule's item. -/
def ruleCal (r : Fin 48) (it : RuleItem) : Calibration :=
  { Calibration.factory with rules := Calibration.factory.rules.set r it }

/-- A calibration with one door's item. -/
def doorCal (d : Fin 4) (it : DoorItem) : Calibration :=
  { Calibration.factory with doors := Calibration.factory.doors.set d it }

/-- A state with one rule in a state and a list. -/
def withRule (r : Fin 48) (x : RuleState) (l : List WarningEntry) (s : State) : State :=
  s.setWre { s.wre with rules := s.wre.rules.set r x, list := l }

/-- A state with one channel's state. -/
def withCh (c : Fin 8) (x : Channel) (s : State) : State := s.setChannel c x

/-- What a command makes of a state. -/
def after (i : Instr) (s : State) : State :=
  match exec i s with
  | .next t => t
  | _ => s

/-- A port that carries out a request of a kind has it in hand. -/
theorem asked_inHand (p : Port) (k : RequestKind) (payload : List Byte) (s : State) (h : s.supply = true) :
    InHand (asked p k payload s) p k (request k payload) := by
  refine ⟨?_, ?_, ?_⟩
  · cases p <;> exact h
  · cases p <;> rfl
  · cases k <;> rfl

/-! ## The checks of a command -/

theorem test_cluster_may_not_turn_soft_gate_on : (Instr.softGateOn .cluster).wellFormed = false := by decide
theorem test_cluster_may_not_turn_soft_gate_off : (Instr.softGateOff .cluster).wellFormed = false := by decide
theorem test_cluster_may_not_set_count : (Instr.setCount .cluster).wellFormed = false := by decide
theorem test_cluster_may_not_set_upper : (Instr.setUpper .cluster).wellFormed = false := by decide
theorem test_cluster_may_not_read_channels : (Instr.readChannels .cluster).wellFormed = false := by decide
theorem test_body_may_set_count : (Instr.setCount .body).wellFormed = true := by decide
theorem test_no_word_spells_a_command : decodeTableWord 8 0x10 = none := by decide

/-! ## Worked examples of the manual -/

/-- The READ_STATUS request with tag 00h (R209). -/
theorem test_check_of_read_status : withCheck [0x01, 0x00, 0x00] = [0x01, 0x00, 0x00, 0x6B] := by
  decide +kernel
/-- The NO_ANSWER frame with NOTICE clear (R209). -/
theorem test_no_answer_frame : noAnswerFrame false = [0, 0, 0, 0, 0, 0] := by
  decide +kernel
/-- Table 24, start bit 8 and length 16 of data 12h, 34h, 56h. -/
theorem test_little_field :
    { factoryFilter with startBit := 8, bitLength := 16 }.rawField [0x12, 0x34, 0x56] = some 22068 := by decide
theorem test_big_field :
    { factoryFilter with startBit := 8, bitLength := 16, byteOrder := .big }.rawField [0x12, 0x34, 0x56]
      = some 13398 := by decide
/-- Table 24, start bit 4 and length 8. -/
theorem test_little_field_across_bytes :
    { factoryFilter with startBit := 4, bitLength := 8 }.rawField [0x12, 0x34, 0x56] = some 65 := by decide
theorem test_big_field_across_bytes :
    { factoryFilter with startBit := 4, bitLength := 8, byteOrder := .big }.rawField [0x12, 0x34, 0x56]
      = some 35 := by decide
/-- R69: raw −5, multiplier 1, divisor 2, offset 100. -/
theorem test_scaling_rounds_toward_zero :
    { factoryFilter with bitLength := 8, signed := true, divisor := 2, offset := 100 }.convert 251
      = (.valid, 98) := by decide

/-! ## Single steps -/

theorem test_read_status_answers :
    ((after (.readStatus .cluster) (asked .cluster .readStatus [] run)).port .cluster).state
      = .ready ⟨0x55, .ok, [1, 0, 0x88, 0x13, 0, 0, 0, 0, 1, 0, 0, 0, 0]⟩ := by decide
theorem test_read_notices_empties_the_flags :
    ((after (.readNotices .body) (asked .body .readNotices [] (run.notice flagPower))).port .body).flags = 0 := by
  decide
theorem test_request_is_taken :
    ((after (.chipSelectRise .cluster [0x01, 0x00, 0x00, 0x6B])
        (during .cluster (.judged .idle [] false) run)).port .cluster).state
      = .working ⟨0x01, 0x00, []⟩ := by decide +kernel
theorem test_service_is_entered :
    (after .serviceEnter (asked .service .serviceEnter [] (parked run))).svc.serviceTimer = some 65000 := by
  decide
theorem test_pulse_changes_the_pin : (after (.pulseEdge 7) State.reset).pins.pulses = 0x80 := by decide
theorem test_release_ends_reset :
    (after .resetRelease (run.setPwc { run.pwc with held := true })).pwc.uptime = 0 := by decide
theorem test_flash_toggles :
    (after (.flashTimerExpiry .stop)
        { run with opu := { run.opu with lampStop := ⟨.flashing, true, some 5000⟩ } }).opu.lampStop
      = ⟨.flashing, false, some 5500⟩ := by decide
theorem test_erase_starts_on_stale_block :
    (after .backgroundEraseStart (run.setRst { run.rst with blocks := run.rst.blocks.set 7 ⟨.stale, 1, none⟩ })).rst.controller
      = .erasing (.erase 7) := by decide

/-! ## Witnesses: the hypotheses of the obligations are met -/

/-- The step, and the part without supply. -/
theorem test_witness_StepRunsFrontCommand :
    (run.withQueue [.ignitionChange, .powerLoss]).pending = .ignitionChange :: [.powerLoss]
      ∧ run.pending = [] := by decide

theorem test_witness_EveryCommandCompletesAndKeepsTheQueue :
    (after .powerLoss run).supply = false ∧ ∀ levels, Instr.resetRelease ≠ .powerOn levels :=
  ⟨rfl, fun _ h => nomatch h⟩

/-- A flash array with its first and its last slot programmed. -/
theorem test_witness_FlashArrayStaysCanonical :
    FlashCanonical (run.setRst { run.rst with flash := [(0, slotOf []), (1023, slotOf [])] })
      ∧ step (run.setRst { run.rst with flash := [(0, slotOf []), (1023, slotOf [])] })
        = .next (run.setRst { run.rst with flash := [(0, slotOf []), (1023, slotOf [])] }) := by
  refine ⟨⟨by decide, ?_⟩, rfl⟩
  intro e he
  simp [State.setRst] at he
  rcases he with rfl | rfl <;> decide

/-- A full queue of eight jobs. -/
def fullQueue : List Job :=
  [.counterSave, .calibWrite, .faultAppend 1, .faultAppend 2, .faultAppend 3, .faultAppend 4, .faultAppend 5,
    .faultAppend 6]

theorem test_witness_JobQueueStaysBounded :
    QueueBounded (run.setRst { run.rst with queue := fullQueue })
      ∧ step (run.setRst { run.rst with queue := fullQueue })
        = .next (run.setRst { run.rst with queue := fullQueue }) :=
  ⟨⟨by decide, by decide⟩, rfl⟩

/-- An entry of a code. -/
def entry (code : BitVec 16) (active : Bool) : FaultEntry :=
  { newEntry code .store 1 ⟨0, 0, none⟩ with active := active }

/-- A full Fault List: codes 1 to 32. -/
def fullList : List FaultEntry := (List.range 32).map fun n => entry (BitVec.ofNat 16 (n + 1)) true

/-- The part with a Fault List. -/
def withFaults (l : List FaultEntry) (s : State) : State := s.setFlm { s.flm with list := l, replayDone := true }

theorem test_witness_FaultListStaysBounded :
    FaultsBounded (withFaults fullList run) ∧ step (withFaults fullList run) = .next (withFaults fullList run) :=
  ⟨⟨by decide, by decide⟩, rfl⟩

/-- The part with rule 47 ACTIVE and in the list. -/
def warned : State := withRule 47 (ruleReset .active) [⟨47, false⟩] run

theorem test_witness_WarningListStaysInAgreement : ListAgrees warned.wre ∧ step warned = .next warned :=
  ⟨⟨by decide, by decide, by decide⟩, rfl⟩

/-- The part in RUN with door 3 present and CLOSED_LOCKED, as the Output Unit knows. -/
def doorKnown : State :=
  let o := { run.opu with
    present := run.opu.present.set 3 true
    doorStates := run.opu.doorStates.set 3 (some .closedLocked) }
  { run with cal := doorCal 3 { factoryDoor with present := true }, opu := { o with outputs := o.drives } }

theorem test_witness_OutputsFollowTheCopies : OutputsFollow doorKnown ∧ step doorKnown = .next doorKnown :=
  ⟨fun _ => by decide, rfl⟩

theorem test_witness_DoorCopiesFollowTheDoors :
    DoorCopiesFollow doorKnown ∧ step doorKnown = .next doorKnown := by
  refine ⟨fun _ => ⟨by decide, fun _ d h => ?_⟩, rfl⟩
  revert h; revert d
  decide

theorem test_factory_in_range : InRange Calibration.factory := by
  refine ⟨by decide, by decide, by decide, fun i => ⟨?_, ?_, ?_, ?_⟩, by decide⟩
  · revert i; decide
  · revert i; decide
  · revert i; decide
  · intro code h
    have : ∀ i : Fin 48, Calibration.factory.rules[i].faultCode = none := by decide
    rw [this] at h; cases h

theorem test_witness_CalibrationsStayInRange :
    CalibrationsInRange (inRunService.setSvc { inRunService.svc with staging := some Calibration.factory })
      ∧ step inRunService = .next inRunService := by
  refine ⟨⟨test_factory_in_range, fun c h => ?_⟩, rfl⟩
  cases h; exact test_factory_in_range

theorem test_witness_DriveIsReleasedOnlyWithDoorsLocked :
    doorKnown.supply = true ∧ doorKnown.opu.outputs.driveInhibit = false
      ∧ doorKnown.cal.doors[(3 : Fin 4)].present = true := by decide

/-- Requests without a row, without the right, and permitted, in START and in RUN, on an IDLE port and after an answer
clocked out whole. -/
theorem test_witness_PortRightsAreThoseOfTable67 :
    Taking (during .body (.judged .idle [] false) run) .body .idle [] false 4
      ∧ Taking (during .body (.judged .ready (busyFrame false) true) run) .body .ready (busyFrame false) true 6
      ∧ judgeFrame (withCheck [0x04, 0x55, 0]) = .request ⟨0x04, 0x55, []⟩ ∧ rightsOf 0x04 = none
      ∧ judgeFrame (withCheck [0x3F, 0x55, 0]) = .request ⟨0x3F, 0x55, []⟩ ∧ rightsOf 0x3F = some [.service]
      ∧ judgeFrame (withCheck [0x20, 0x55, 0] ++ [0, 0]) = .request ⟨0x20, 0x55, []⟩ ∧ rightsOf 0x20 = some [.body]
      ∧ (withCheck [0x20, 0x55, 0] ++ [0, 0]).length = 6
      ∧ State.reset.pwc.power = .start ∧ run.pwc.power ≠ .start :=
  ⟨⟨rfl, .inl rfl⟩, ⟨rfl, .inr ⟨rfl, by decide +kernel⟩⟩, by decide +kernel, by decide, by decide +kernel,
    by decide, by decide +kernel, by decide, by decide +kernel, by decide, by decide⟩

theorem test_witness_GoodRequestIsTaken :
    let s := during .service (.judged .idle [] false) inRunService
    let u := during .service (.judged .ready (busyFrame false) true) inRunService
    let r := request .readStatus (List.replicate 60 0)
    s.supply = true ∧ Taking s .service .idle [] false 64 ∧ Taking u .service .ready (busyFrame false) true 64
      ∧ (withCheck ([r.code, r.tag, numByte r.payload.length] ++ r.payload)).length = 64
      ∧ r.payload.length ≤ 60 ∧ rightsOf r.code.toNat = some [.cluster, .body, .service]
      ∧ Port.service ∈ [Port.cluster, .body, .service] ∧ s.pwc.power ≠ .start ∧ s.svc.state ≠ .off :=
  ⟨rfl, ⟨rfl, .inl rfl⟩, ⟨rfl, .inr ⟨rfl, by decide +kernel⟩⟩, by decide +kernel, by decide +kernel,
    by decide +kernel, by decide, by decide, by decide⟩

/-- An answer collected and cut short, a bad frame taken and dropped, and the transaction that woke the part. -/
theorem test_witness_RiseCollectsOrDrops :
    ((during .body (.judged .ready (busyFrame false) true) run).port .body).transaction
        = some (.judged .ready (busyFrame false) true)
      ∧ ((during .body (.judged .working (busyFrame false) false) run).port .body).transaction
        = some (.judged .working (busyFrame false) false)
      ∧ ((during .body .notReceived run).port .body).transaction = some .notReceived
      ∧ judgeFrame [] = .noRequest ∧ judgeFrame (withCheck [0, 0, 0] ++ [0, 0]) = .noRequest
      ∧ (busyFrame false).length ≤ (withCheck [0, 0, 0] ++ [0, 0]).length
      ∧ judgeFrame [0xFF] ≠ .noRequest ∧ [0xFF#8].length < (busyFrame false).length
      ∧ judgeFrame [0x01, 0x55, 0, 0, 0, 0] = .bad 0x55 := by decide +kernel

theorem test_witness_BadFrameIsTaken :
    Taking (during .body (.judged .ready (busyFrame false) true) run) .body .ready (busyFrame false) true
        [0x01#8, 0x55, 0, 0, 0, 0].length
      ∧ Taking (during .body (.judged .idle [] false) run) .body .idle [] false 0 :=
  ⟨⟨rfl, .inr ⟨rfl, by decide +kernel⟩⟩, rfl, .inl rfl⟩

theorem test_fill_bytes_follow_the_frame :
    ((after (.chipSelectRise .body [0, 0, 0, 0, 0, 0, 0, 0])
        (during .body (.judged .ready (busyFrame false) true) run)).port .body).clockedOut
      = busyFrame false ++ [0, 0] := by decide +kernel

theorem test_witness_FallFixesTheFrame :
    run.supply = true ∧ (run.port .body).transaction = none ∧ run.pwc.power ≠ .sleep := by decide

theorem test_witness_FallInSleepWakesToAfterrun :
    (at5s .sleep).supply = true ∧ ((at5s .sleep).port .service).transaction = none
      ∧ (at5s .sleep).pwc.power = .sleep := by decide

/-! ### Reads -/

theorem test_witness_PortUnitAnswersItsRequests :
    InHand (asked .cluster .readStatus [] run) .cluster .readStatus (request .readStatus [])
      ∧ InHand (asked .body .readNotices [] run) .body .readNotices (request .readNotices [])
      ∧ InHand (asked .service .setNoticeMask [0xFF] run) .service .setNoticeMask (request .setNoticeMask [0xFF])
      ∧ InHand (asked .service .setNoticeMask [] run) .service .setNoticeMask (request .setNoticeMask []) :=
  ⟨asked_inHand _ _ _ _ rfl, asked_inHand _ _ _ _ rfl, asked_inHand _ _ _ _ rfl, asked_inHand _ _ _ _ rfl⟩

/-- One slot, twelve slots, thirteen, and slot 96. -/
theorem test_witness_ReadSignalsAnswersTheRecords (l : List Byte) :
    InHand (asked .cluster .readSignals l run) .cluster .readSignals (request .readSignals l)
      ∧ [95#8] = [(95 : Fin 96)].map (fun i => numByte i.val)
      ∧ (List.replicate 12 (0 : Fin 96)).length ≤ 12 ∧ 12 < (List.replicate 13 0#8).length
      ∧ (∃ b ∈ [96#8], 95 < b.toNat) :=
  ⟨asked_inHand _ _ _ _ rfl, by decide, by decide, by decide, by decide⟩

theorem test_witness_ReadWarningsAnswersTheList (l : List Byte) :
    InHand (asked .body .readWarnings l run) .body .readWarnings (request .readWarnings l)
      ∧ [15#8] = numByte (15 : Fin 16).val :: [] ∧ 15 < (16#8).toNat :=
  ⟨asked_inHand _ _ _ _ rfl, by decide, by decide⟩

theorem test_witness_ReadDoorsAndFaultSummaryAnswer :
    InHand (asked .cluster .readDoors [] run) .cluster .readDoors (request .readDoors [])
      ∧ InHand (asked .body .readFaultSummary [1] run) .body .readFaultSummary (request .readFaultSummary [1]) :=
  ⟨asked_inHand _ _ _ _ rfl, asked_inHand _ _ _ _ rfl⟩

theorem test_witness_ReadChannelsAnswersTheChannels (l : List Byte) :
    InHand (asked .body .readChannels l run) .body .readChannels (request .readChannels l)
      ∧ [0#8, 7#8] = [(0 : Fin 8), 7].map (fun c => numByte c.val) ∧ (∃ b ∈ [8#8], 7 < b.toNat) :=
  ⟨asked_inHand _ _ _ _ rfl, by decide, by decide⟩

/-! ### Signals, inputs and network -/

/-- A VALID slot 95 whose refresh timer is due. -/
def expiring (st : LiveStatus) : State :=
  run.setSlot 95 { validSlot .network (some 31) 7 with liveStatus := st, refreshTimer := some 5000 }

theorem test_witness_RefreshExpiryMakesAValidSlotStale :
    (expiring .valid).supply = true
      ∧ timerDue (expiring .valid).slots[(95 : Fin 96)].refreshTimer (expiring .valid).pwc.uptime = true
      ∧ (expiring .valid).slots[(95 : Fin 96)].liveStatus = .valid ∧ (expiring .valid).pwc.power ≠ .start
      ∧ (expiring .valid).opu.power = .run ∧ (expiring .valid).opu.regime = .tracking
      ∧ ({ factoryGeneral with speedSlot := some 95 } : GeneralItem).speedSlot = some 95
      ∧ timerDue (expiring .stale).slots[(95 : Fin 96)].refreshTimer (expiring .stale).pwc.uptime = true
      ∧ (expiring .stale).slots[(95 : Fin 96)].liveStatus ≠ .valid := by decide

theorem test_refresh_expiry_is_stale :
    (after (.refreshTimerExpiry 95) (expiring .valid)).slots[(95 : Fin 96)].liveStatus = .stale := by decide

/-- A filter entry that takes frame 1 into slot 5. -/
def filterCal : Calibration :=
  { Calibration.factory with
    filters := Calibration.factory.filters.set 31
      { factoryFilter with enabled := true, identifier := 1, mask := 0x7FF, targetSlot := some 5 } }

/-- A NET_FRAMES payload of one frame. -/
def oneFrame : List Byte := [1, 1, 0, 0, 0, 1, 42]

theorem test_witness_NetFramesUpdateTheirSlots :
    let s := asked .body .netFrames oneFrame { run with cal := filterCal }
    InHand s .body .netFrames (request .netFrames oneFrame) ∧ s.pwc.power = .run
      ∧ netFramesOf (request .netFrames oneFrame).payload = some [⟨1, false, [42]⟩]
      ∧ netUpdates s.cal [⟨1, false, [42]⟩] = [] ++ ⟨5, .valid, 42⟩ :: [] :=
  ⟨asked_inHand _ _ _ _ rfl, by decide, by decide, by decide⟩

/-- A NETWORK slot with a timeout; payloads with a wrong count, or with a frame cut short, too long or of too large an
identifier, first and after a whole one. -/
theorem test_witness_RefusedNetFrames (l : List Byte) :
    InHand (asked .body .netFrames l run) .body .netFrames (request .netFrames l)
      ∧ ({ slotReset with kind := .network, refreshTimeout := 50 } : Slot).refreshTimeout ≠ 0
      ∧ 4 < (5#8).toNat ∧ [[1#8, 0, 0, 0, 1, 42]].length < (2#8).toNat ∧ WholeFrame [1, 0, 0, 0, 1, 42]
      ∧ [1#8, 0, 0, 0, 1, 42, 9] = [[1#8, 0, 0, 0, 1, 42]].flatten ++ [9] ∧ NoFrame [9] ∧ NoFrame [1, 0, 0, 0, 9]
      ∧ NoFrame [1, 0, 0, 0, 1] ∧ NoFrame [0, 8, 0, 0, 0] :=
  ⟨asked_inHand _ _ _ _ rfl, by decide, by decide, by decide, ⟨1, [42], by decide, by decide, .inr (by decide)⟩,
    by decide, .inl (by decide), .inr ⟨1, 9, [], by decide, .inl (by decide)⟩,
    .inr ⟨1, 1, [], by decide, .inr (.inl (by decide))⟩,
    .inr ⟨0x800, 0, [], by decide, .inr (.inr (by decide))⟩⟩

theorem test_witness_NetworkFieldIsReadAndScaled :
    1 ≤ factoryFilter.bitLength ∧ 8 * ([] : List Byte).length < factoryFilter.startBit + factoryFilter.bitLength
      ∧ factoryFilter.startBit + factoryFilter.bitLength ≤ 8 * [42#8].length
      ∧ (factoryFilter.convert 0xFD).1 = .valid := by decide

/-- Switch 31 with its count full, a closed input of door 0 or not. -/
def toggling (p : PowerState) (wake : Bool) : State :=
  { (at5s p).setSwitch 31 ⟨false, 20⟩ with
    cal := doorCal 0 { factoryDoor with present := wake, closedInput := 31 } }

theorem test_witness_DebouncedChangeTurnsTheSwitch :
    (toggling .run false).supply = true
      ∧ (toggling .run false).switches[(31 : Fin 32)].disagreement
        = (toggling .run false).cal.switches[(31 : Fin 32)].debounce.ms
      ∧ (toggling .run false).pwc.power ≠ .sleep
      ∧ (toggling .run true).cal.doors[(0 : Fin 4)].present = true
      ∧ (toggling .run true).cal.doors[(0 : Fin 4)].closedInput = 31
      ∧ (toggling .sleep true).pwc.power = .sleep
      ∧ (∃ d : Fin 4, (toggling .sleep true).cal.doors[d].present = true
          ∧ (toggling .sleep true).cal.doors[d].closedInput = 31)
      ∧ ¬∃ d : Fin 4, (toggling .sleep false).cal.doors[d].present = true
          ∧ (toggling .sleep false).cal.doors[d].closedInput = 31 := by decide

/-- Switch 31 with its count full, a stop-request input, with no door present. -/
def stopping : State :=
  { toggling .run false with
    cal := { Calibration.factory with
      general := { factoryGeneral with stopInputs := (Vector.replicate 4 none).set 3 (some 31) } } }

theorem test_witness_StopRequestSetsTheLatch :
    (!stopping.switches[(31 : Fin 32)].active) = true ∧ some 31 ∈ stopping.cal.general.stopInputs.toList
      ∧ stopping.pwc.power = .run ∧ stopping.drs.latch = false
      ∧ ∀ d : Fin 4, stopping.cal.doors[d].present = false := by decide

/-- Sender input 7 in use, with thresholds and a diagnosis state. -/
def sampling (x : SenderState) : State :=
  { run.setSender 7 x with
    cal := { Calibration.factory with
      slots := Calibration.factory.slots.set 9 ⟨.sender, some 7⟩
      senders := Calibration.factory.senders.set 7 { factorySender with openThreshold := some 4000 } } }

theorem test_witness_SenderSampleFiltersAndDiagnoses :
    (sampling senderReset).supply = true ∧ (sampling senderReset).pwc.power ≠ .sleep
      ∧ (sampling senderReset).cal.senderInUse 7 = true
      ∧ (sampling senderReset).senders[(7 : Fin 8)].filtered = none
      ∧ (sampling ⟨some 4095, false, some 4500, none⟩).senders[(7 : Fin 8)].pendingTime = some 4500
      ∧ Outside (sampling senderReset).cal.senders[(7 : Fin 8)] 4000
      ∧ ¬Outside (sampling senderReset).cal.senders[(7 : Fin 8)] 3999
      ∧ 2 ≤ (sampling senderReset).cal.senders[(7 : Fin 8)].pointsInUse.length
      ∧ (sampling senderReset).cal.senders[(7 : Fin 8)].pointsInUse.Pairwise (fun p q => p.raw < q.raw)
      ∧ (sampling senderReset).flm.replayDone = true ∧ (∀ named, Unwatched (sampling senderReset) named)
      ∧ ∀ code, HasPlace (sampling senderReset).flm.list code :=
  ⟨rfl, by decide, by decide, rfl, rfl, Or.inl ⟨4000, rfl, by decide⟩, fun h => h.elim
      (fun ⟨_, e, l⟩ => by cases e; revert l; decide) (fun ⟨_, e, _⟩ => by cases e),
    by decide, by decide, rfl, fun _ _ => ⟨rfl, fun _ _ r h =>
      absurd h ((by decide : ∀ r : Fin 48, ¬Calibration.factory.rules[r].enabled = true) r)⟩,
    fun _ => .inr (.inl (by decide))⟩

/-- A wire that has been out of range for 500 ms is reported, and one back in range for 500 ms ends. -/
theorem test_sender_fault_is_reported :
    (after (.senderSample 7 4095) (sampling ⟨some 4095, false, some 4500, none⟩)).flm.list.map FaultEntry.code
      = [0xE107] := by decide +kernel
theorem test_sender_returns_in_range :
    (after (.senderSample 7 100) (sampling ⟨some 100, true, some 4500, some .outOfRange⟩)).senders[
      (7 : Fin 8)].lastPublication = some (.valid 100) := by decide +kernel

/-! ### Channels -/

/-- Channel 7 with an item and a state. -/
def channelIn (p : PowerState) (it : ChannelItem) (x : Channel) : State :=
  { withCh 7 x (at5s p) with cal := channelCal 7 it }

/-- A counting channel on pulse input 0. -/
def total : ChannelItem := { factoryChannel with mode := .total, bodyControl := true }

/-- A channel state with its gate OPEN. -/
def gateOpen : Channel := { channelReset with softGate := true, gateOpen := true }

theorem test_witness_PulseEdgeCountsAtItsChannels :
    (channelIn .run total gateOpen).pwc.power = .run
      ∧ (channelIn .run total gateOpen).cal.channels[(7 : Fin 8)].pulseInput = 0
      ∧ (channelIn .run total gateOpen).cal.channels[(7 : Fin 8)].mode = .total
      ∧ (channelIn .run total gateOpen).cal.channels[(7 : Fin 8)].role = .noRole
      ∧ (channelIn .run total gateOpen).ccu.channels[(7 : Fin 8)].gateOpen = true
      ∧ (channelIn .run total gateOpen).cal.channels[(7 : Fin 8)].edge = .rising
      ∧ (!(channelIn .run total gateOpen).pins.pulses[(0 : Fin 8)]) = true
      ∧ (channelIn .run { total with mode := .rate } { gateOpen with window := some 5001 }).ccu.channels[
          (7 : Fin 8)].window ≠ none
      ∧ (at5s .sleep).pwc.power = .sleep := by decide

/-- WIDTH channels on a rising edge: one armed for the high level, one measuring the low level. -/
theorem test_witness_PulseEdgeMeasuresWidth :
    let waiting := channelIn .run { total with mode := .width } { gateOpen with phase := .waiting }
    let measuring :=
      channelIn .run { total with mode := .width, edge := .falling } { gateOpen with phase := .measuring }
    waiting.ccu.channels[(7 : Fin 8)].phase = .waiting ∧ waiting.cal.channels[(7 : Fin 8)].mode = .width
      ∧ waiting.cal.channels[(7 : Fin 8)].edge = .rising ∧ waiting.ccu.channels[(7 : Fin 8)].gateOpen = true
      ∧ measuring.ccu.channels[(7 : Fin 8)].phase = .measuring
      ∧ measuring.cal.channels[(7 : Fin 8)].edge = .falling ∧ measuring.cal.channels[(7 : Fin 8)].pulseInput = 0
      ∧ (!measuring.pins.pulses[(0 : Fin 8)]) = true := by decide

theorem test_witness_IdleWidthStays :
    (channelIn .run { total with mode := .width } channelReset).cal.channels[(7 : Fin 8)].mode = .width
      ∧ (channelIn .run { total with mode := .width } channelReset).ccu.channels[(7 : Fin 8)].phase = .idle
      ∧ (channelIn .run { total with mode := .width } channelReset).ccu.channels[(7 : Fin 8)].gateOpen = false := by
  decide

theorem test_width_ends :
    (after (.pulseEdge 0) (channelIn .run { total with mode := .width, edge := .falling }
      { gateOpen with phase := .measuring, count := 9 })).ccu.channels[(7 : Fin 8)]
      = { channelReset with result := 9, hold := 9, count := 9 } := by decide

/-- Channel 6 in TOTAL at its set-point, and channel 7 in FOLLOW after it, with a role or without. -/
def chained (role : Role) : State :=
  { withCh 6 { gateOpen with setPoint := 1 } (withCh 7 gateOpen run) with
    ccu := { (withCh 6 { gateOpen with setPoint := 1 } (withCh 7 gateOpen run)).ccu with odometer := ⟨41, 9⟩ }
    cal := { Calibration.factory with
      channels := (Calibration.factory.channels.set 6 total).set 7
        { factoryChannel with mode := .follow, role := role } } }

theorem test_witness_FollowChannelIncrements (role : Role) (first : Fin 8 → Prop) (h : first 6) :
    Increments (chained role) first 7 (by omega) ∧ (chained role).cal.channels[(7 : Fin 8)].role = role
      ∧ ∀ d : Fin 8, (chained .odometer).cal.channels[d].role = .odometer ↔ d = 7 := by
  refine ⟨?_, rfl, by decide⟩
  rw [Increments]
  refine (if_pos rfl).mpr ⟨rfl, rfl, (by decide : (1#32) ≠ 0), (by decide : (1#32).toNat ≤ (0#32).toNat + 1), ?_⟩
  rw [Increments]
  exact (if_neg (by decide : ChannelMode.total ≠ .follow)).mpr h

theorem test_the_tenth_increment_saves :
    (⟨41, 9⟩ : RoleCount).incremented Role.odometer.saveEvery = (⟨42, 0⟩, true) := by decide

theorem test_pulse_counts :
    (after (.pulseEdge 0) (channelIn .run total gateOpen)).ccu.channels[(7 : Fin 8)].count = 1 := by decide

theorem test_witness_MillisecondTickSamplesAndCounts :
    let timed := channelIn .afterrun { total with mode := .timer } gateOpen
    timed.pwc.held = false ∧ timed.cal.channels[(7 : Fin 8)].mode = .timer
      ∧ (∀ n : Fin 32, ¬timed.switches[n].disagreement = timed.cal.switches[n].debounce.ms)
      ∧ timed.pwc.ignitionDisagreement ≠ 50
      ∧ (channelIn .run { total with mode := .width } { gateOpen with phase := .measuring }).ccu.channels[
          (7 : Fin 8)].phase = .measuring
      ∧ (run.setPwc { run.pwc with held := true }).pwc.held = true
      ∧ (∀ m : Fin 32, (toggling .run true).switches[m].disagreement
          = (toggling .run true).cal.switches[m].debounce.ms ↔ m = 31)
      ∧ (toggling .run true).pwc.ignitionDisagreement ≠ 50 := by decide

theorem test_full_count_is_taken_before_the_sample :
    (after (.millisecondTick 0 true) (toggling .run false)).switches[(31 : Fin 32)] = ⟨true, 1⟩ := by decide +kernel

theorem test_tick_counts :
    (after (.millisecondTick 0 true) (channelIn .run { total with mode := .timer } gateOpen)).ccu.channels[
      (7 : Fin 8)].count = 1 := by decide

theorem test_witness_ChannelTimersExpire :
    timerDue (some 5000#32) (channelIn .run total { gateOpen with window := some 5000 }).pwc.uptime = true
      ∧ (channelIn .run total { gateOpen with holdOff := some 5000, lastDelivery := some 0 }).ccu.channels[
          (7 : Fin 8)].lastDelivery = some 0
      ∧ (channelIn .run total { gateOpen with holdOff := some 5000 }).ccu.channels[
          (7 : Fin 8)].lastDelivery ≠ some 0 := by decide

/-- A CHANNEL_CONTROL of channel 7 on port B. -/
theorem test_asks (a : Byte) (v : Count) (it : ChannelItem) (x : Channel) :
    Asks (asked .body .channelControl (7 :: a :: (bytes32 v ++ [])) (channelIn .run it x)) .body
      (request .channelControl (7 :: a :: (bytes32 v ++ []))) 7 a v :=
  ⟨.inl rfl, asked_inHand _ _ _ _ rfl, [], rfl⟩

theorem test_controls (a : Byte) (v : Count) (it : ChannelItem) (x : Channel)
    (hb : it.bodyControl = true) (hm : it.mode ≠ .off) (hr : it.role = .noRole) :
    Controls (asked .body .channelControl (7 :: a :: (bytes32 v ++ [])) (channelIn .run it x)) .body
      (request .channelControl (7 :: a :: (bytes32 v ++ []))) 7 a v :=
  ⟨test_asks _ _ _ _, .inl ⟨rfl, hb⟩, hm, hr⟩

/-- A soft gate OFF and ON; a channel in mode OFF, one that port B may not control, short payloads and SLEEP. -/
theorem test_witness_SoftGateTurnsTheGate (a : Byte) (v : Count) :
    let ask (it : ChannelItem) (x : Channel) :=
      asked .body .channelControl (7 :: a :: (bytes32 v ++ [])) (channelIn .run it x)
    let r := request .channelControl (7 :: a :: (bytes32 v ++ []))
    Controls (ask total channelReset) .body r 7 a v ∧ (ask total channelReset).ccu.channels[(7 : Fin 8)].softGate = false
      ∧ Controls (ask total gateOpen) .body r 7 a v ∧ (ask total gateOpen).ccu.channels[(7 : Fin 8)].softGate = true
      ∧ Asks (ask factoryChannel gateOpen) .body r 7 a v ∧ ¬MayControl (ask factoryChannel gateOpen) .body 7
      ∧ (ask factoryChannel gateOpen).cal.channels[(7 : Fin 8)].mode = .off
      ∧ [7, a, 0, 0, 0] = numByte (7 : Fin 8).val :: a :: [0, 0, 0] ∧ [0#8, 0, 0].length < 4
      ∧ 7 < (8#8).toNat ∧ 3 < (4#8).toNat ∧ [7#8].length < 2 ∧ (at5s .sleep).pwc.power = .sleep := by
  refine ⟨test_controls _ _ _ _ rfl (by decide) rfl, rfl, test_controls _ _ _ _ rfl (by decide) rfl, rfl,
    test_asks _ _ _ _, ?_, rfl, rfl, by decide, by decide, by decide, by decide, rfl⟩
  rintro (⟨-, h⟩ | ⟨h, -⟩)
  · cases h
  · cases h

/-- Both gate actions on a role channel, whose soft gate is ON. -/
theorem test_witness_SoftGateOfARole (a : Byte) (v : Count) :
    let s := asked .body .channelControl (7 :: a :: (bytes32 v ++ []))
      (channelIn .run { total with mode := .follow, role := .hours } gateOpen)
    MayControl s .body 7 ∧ s.cal.channels[(7 : Fin 8)].mode ≠ .off ∧ s.cal.channels[(7 : Fin 8)].role ≠ .noRole
      ∧ Asks s .body (request .channelControl (7 :: a :: (bytes32 v ++ []))) 7 a v
      ∧ s.ccu.channels[(7 : Fin 8)].softGate = true :=
  ⟨.inl ⟨rfl, rfl⟩, (by decide : ChannelMode.follow ≠ .off), (by decide : Role.hours ≠ .noRole), test_asks _ _ _ _, rfl⟩

theorem test_witness_CountAndSetPointAreSet (a : Byte) (v : Count) :
    let ask (it : ChannelItem) (x : Channel) :=
      asked .body .channelControl (7 :: a :: (bytes32 v ++ [])) (channelIn .run it x)
    let r := request .channelControl (7 :: a :: (bytes32 v ++ []))
    let follow : ChannelItem := { total with mode := .follow, role := .odometer }
    Controls (ask total gateOpen) .body r 7 a v ∧ (ask total gateOpen).cal.channels[(7 : Fin 8)].mode.counts = true
      ∧ (ask total gateOpen).ccu.channels[(7 : Fin 8)].holdOff = none
      ∧ (ask total { gateOpen with holdOff := some 5001 }).ccu.channels[(7 : Fin 8)].holdOff ≠ none
      ∧ Controls (ask { total with mode := .width } gateOpen) .body r 7 a v
      ∧ MayControl (ask follow gateOpen) .body 7 ∧ Asks (ask follow gateOpen) .body r 7 a v
      ∧ (ask follow gateOpen).cal.channels[(7 : Fin 8)].role ≠ .noRole :=
  ⟨test_controls _ _ _ _ rfl (by decide) rfl, rfl, rfl, Option.some_ne_none _,
    test_controls _ _ _ _ rfl (by decide) rfl, .inl ⟨rfl, rfl⟩, test_asks _ _ _ _,
    (by decide : Role.odometer ≠ .noRole)⟩

/-! ### Warnings -/

/-- Rule 47 with an item, a state and a list. -/
def ruled (it : RuleItem) (x : RuleState) (l : List WarningEntry) : State :=
  { withRule 47 x l run with cal := ruleCal 47 it }

/-- An enabled rule that compares a slot with NOT_VALID, with a fault code. -/
def notValidRule : RuleItem :=
  { factoryRule with enabled := true, comparison := .notValid, faultCode := some 0x1234, reAnnounce := 60 }

/-- The part in RUN with slot 0, which rule 47 watches, VALID. -/
def seen (s : State) : State := s.setSlot 0 (validSlot .network (some 0) 7)

theorem test_witness_NotValidAndQualifier :
    notValidRule.comparison = .notValid ∧ factoryRule.comparison ≠ .notValid
      ∧ (seen run).slots[(0 : Fin 96)].visibleStatus = .valid
      ∧ run.slots[(0 : Fin 96)].visibleStatus = .notAvailable
      ∧ run.wre.rules[(0 : Fin 48)].phase = .disabled ∧ (at5s .afterrun).pwc.power ≠ .run := by decide

/-- Rule 47 in every phase that takes no entry, or with its entry: evaluated in RUN with the condition TRUE while
its slot is NOT_AVAILABLE and FALSE while it is VALID; delays 0 and not. -/
theorem test_witness_EvaluationsOfTable30 :
    let unlisted := [RulePhase.idle, .raising, .suppressed].map fun ph => ruled notValidRule (ruleReset ph) []
    let listed := [RulePhase.active, .clearing, .latched].map fun ph =>
      ruled notValidRule (ruleReset ph) [⟨47, false⟩]
    (∀ s ∈ unlisted ++ listed, s.pwc.power = .run ∧ s.wre.tableTaken = true
      ∧ s.wre.rules[(47 : Fin 48)].phase ≠ .disabled
      ∧ comparisonResult notValidRule false s.slots[(0 : Fin 96)] = true
      ∧ notValidRule.qualified s.slots = true
      ∧ ¬comparisonResult notValidRule false (seen s).slots[(0 : Fin 96)] = true)
      ∧ (∀ s ∈ unlisted, s.wre.list.length < 16 ∧ ⟨47, true⟩ ∉ s.wre.list)
      ∧ notValidRule.raiseDelay = 0 ∧ { notValidRule with raiseDelay := 60000 }.raiseDelay ≠ 0
      ∧ notValidRule.clearDelay = 0 ∧ notValidRule.latching = true := by decide +kernel

theorem test_listed_rule_agrees (ph : RulePhase) (h : ph = .active ∨ ph = .clearing ∨ ph = .latched) :
    ListAgrees (ruled notValidRule (ruleReset ph) [⟨47, false⟩]).wre := by
  rcases h with rfl | rfl | rfl <;> exact ⟨by decide, by decide, by decide⟩

theorem test_unlisted_rule_agrees (ph : RulePhase) (h : ph = .idle ∨ ph = .raising ∨ ph = .suppressed) :
    ListAgrees (ruled notValidRule (ruleReset ph) []).wre := by
  rcases h with rfl | rfl | rfl <;> exact ⟨by decide, by decide, by decide⟩

theorem test_evaluation_latches :
    (wreEvaluate 47 (seen (ruled notValidRule (ruleReset .active) [⟨47, false⟩]))).wre.rules[(47 : Fin 48)].phase
      = .latched := by decide

theorem test_witness_RaiseExpiryConfirmsTheRule :
    let s := ruled notValidRule { ruleReset .raising with raiseTimer := some 5000 } []
    s.supply = true ∧ ListAgrees s.wre ∧ s.wre.rules[(47 : Fin 48)].phase = .raising
      ∧ timerDue s.wre.rules[(47 : Fin 48)].raiseTimer s.pwc.uptime = true ∧ s.wre.list.length < 16
      ∧ s.cal.rules[(47 : Fin 48)].faultCode.isSome = true
      ∧ s.cal.rules[(47 : Fin 48)].substituted s.slots = false :=
  ⟨rfl, ⟨by decide, by decide, by decide⟩, by decide, by decide, by decide, by decide, by decide⟩

theorem test_rule_in_range : InRange (ruleCal 47 notValidRule) := by
  refine ⟨by decide, by decide, by decide, fun i => ⟨?_, ?_, ?_, ?_⟩, by decide⟩
  · revert i; decide
  · revert i; decide
  · revert i; decide
  · have : ∀ i : Fin 48, (ruleCal 47 notValidRule).rules[i].faultCode = if i = 47 then some 0x1234 else none := by
      decide
    intro code h
    rw [this] at h
    split at h <;> cases h
    decide

/-- The fault code of rule 47 with a place in the Fault List, and a substitution that withholds its occurrence. -/
theorem test_witness_RuleFaultIsReported :
    let s := ruled notValidRule { ruleReset .raising with raiseTimer := some 5000 } []
    s.flm.replayDone = true ∧ InRange s.cal ∧ s.cal.rules[(47 : Fin 48)].faultCode = some 0x1234
      ∧ s.cal.rules[(47 : Fin 48)].substituted s.slots = false ∧ HasPlace s.flm.list 0x1234
      ∧ s.cal.rules[(47 : Fin 48)].substituted
          (s.setSlot 0 { validSlot .network (some 0) 7 with substitution := some 1 }).slots = true
      ∧ factoryRule.faultCode = none :=
  ⟨rfl, test_rule_in_range, by decide, by decide, .inr (.inl (by decide)), by decide, rfl⟩

theorem test_rule_fault_is_reported :
    (after (.raiseTimerExpiry 47) (ruled notValidRule { ruleReset .raising with raiseTimer := some 5000 } [])).flm.list.map
        (fun e => (e.code, e.source, e.active)) = [(0x1234, .rule 47, true)] := by decide +kernel

theorem test_rule_fault_is_ended :
    (after (.clearTimerExpiry 47) (withFaults [entry 0x1234 true] (ruled notValidRule
      { ruleReset .clearing with clearTimer := some 5000, faultOpen := true } [⟨47, false⟩]))).flm.list.map
        (fun e => (e.code, e.active)) = [(0x1234, false)] := by decide +kernel

/-- The sixteen rules 0 to 15 ACTIVE and listed, and rule 47 RAISING. -/
def crowded : Wre :=
  ⟨(Vector.ofFn fun r : Fin 48 => (if r.val < 16 then ruleReset .active else ruleReset .idle)).set 47
      { ruleReset .raising with raiseTimer := some 5000 },
    (List.finRange 16).map fun r => ⟨r.castLE (by omega), false⟩, true⟩

theorem test_witness_RaiseExpiryIntoAFullList :
    let s := run.setWre crowded
    s.supply = true ∧ ListAgrees s.wre ∧ s.wre.rules[(47 : Fin 48)].phase = .raising
      ∧ timerDue s.wre.rules[(47 : Fin 48)].raiseTimer s.pwc.uptime = true ∧ s.wre.list.length = 16
      ∧ s.wre.list.getLast? = some ⟨15, false⟩
      ∧ s.cal.rules[(15 : Fin 48)].cls.rank ≤ s.cal.rules[(47 : Fin 48)].cls.rank
      ∧ ({ factoryRule with cls := .stop } : RuleItem).cls.rank < ({ factoryRule with cls := .advise } : RuleItem).cls.rank
      ∧ s.wre.rules[(15 : Fin 48)].phase = .active ∧ Ordered s :=
  ⟨rfl, ⟨by decide, by decide, by decide⟩, by decide, by decide, by decide, by decide, by decide, by decide,
    by decide, by unfold Ordered Before; decide⟩

/-- A CAUTION list at its 16 entries, its last rule CLEARING, and a STOP rule confirmed: the entry is displaced. -/
def displacing : State :=
  { run.setWre { crowded with rules := crowded.rules.set 15 { ruleReset .clearing with faultOpen := true } } with
    cal := { Calibration.factory with
      rules := (Calibration.factory.rules.map fun it => { it with cls := .caution }).set 47 factoryRule } }

theorem test_full_list_displaces :
    let w := (displacing.wre.event.confirm displacing 47).wre
    w.rules[(47 : Fin 48)].phase = .active ∧ w.rules[(15 : Fin 48)].phase = .idle
      ∧ w.list.head? = some ⟨47, false⟩ ∧ w.list.length = 16 := by decide +kernel

/-- The displaced rule 15 is CLEARING with an open fault, and the newcomer's code is another. -/
theorem test_witness_DisplacedFaultIsEnded :
    displacing.wre.list.getLast? = some ⟨15, false⟩ ∧ displacing.wre.rules[(15 : Fin 48)].phase = .clearing
      ∧ displacing.wre.rules[(15 : Fin 48)].faultOpen = true ∧ displacing.flm.replayDone = true
      ∧ displacing.cal.rules[(47 : Fin 48)].cls.rank < displacing.cal.rules[(15 : Fin 48)].cls.rank
      ∧ notValidRule.faultCode = some 0x1234 ∧ displacing.cal.rules[(47 : Fin 48)].faultCode ≠ some 0x1234 := by
  decide +kernel

/-- A CLEARING rule with an acknowledged entry and a SUPPRESSED rule that takes its place. -/
theorem test_witness_ClearExpiryRefills :
    let s := (ruled notValidRule { ruleReset .clearing with clearTimer := some 5000 } [⟨47, true⟩])
    let u := withRule 46 (ruleReset .suppressed) [⟨47, true⟩] s
    ListAgrees u.wre ∧ u.wre.rules[(47 : Fin 48)].phase = .clearing
      ∧ u.wre.rules[(46 : Fin 48)].phase = .suppressed
      ∧ (∀ q : Fin 48, q ≠ 46 → u.wre.rules[q].phase ≠ .suppressed)
      ∧ ∀ q : Fin 48, s.wre.rules[q].phase ≠ .suppressed :=
  ⟨⟨by decide, by decide, by decide⟩, by decide, by decide, by decide, by decide⟩

theorem test_refill_takes_the_suppressed_rule :
    ((withRule 46 (ruleReset .suppressed) [⟨47, true⟩]
      (ruled notValidRule (ruleReset .clearing) [⟨47, true⟩])).wre.event.endClearing run 47).wre.list
      = [⟨46, false⟩] := by decide +kernel

theorem test_witness_ClearExpiryEndsClearing (ack : Bool) :
    let s := ruled notValidRule { ruleReset .clearing with clearTimer := some 5000 } [⟨47, ack⟩]
    s.supply = true ∧ ListAgrees s.wre ∧ s.wre.rules[(47 : Fin 48)].phase = .clearing
      ∧ timerDue s.wre.rules[(47 : Fin 48)].clearTimer s.pwc.uptime = true
      ∧ s.cal.rules[(47 : Fin 48)].latching = true
      ∧ if ack then ∃ x ∈ s.wre.list, x.rule = 47 ∧ x.acknowledged = true
        else ∀ x ∈ s.wre.list, x.rule = 47 → x.acknowledged = false := by
  cases ack <;>
    exact ⟨rfl, ⟨by decide, by decide, by decide⟩, by decide, by decide, by decide, by decide⟩

theorem test_witness_ReAnnounceExpiryUnacknowledges :
    let s := ruled notValidRule { ruleReset .active with reAnnounceTimer := some 5000 } [⟨47, true⟩]
    let u := ruled notValidRule { ruleReset .clearing with reAnnounceTimer := some 5000 } [⟨47, true⟩]
    s.supply = true ∧ timerDue s.wre.rules[(47 : Fin 48)].reAnnounceTimer s.pwc.uptime = true
      ∧ s.wre.rules[(47 : Fin 48)].phase = .active
      ∧ (∃ x ∈ s.wre.list, x.rule = 47 ∧ x.acknowledged = true)
      ∧ u.supply = true ∧ timerDue u.wre.rules[(47 : Fin 48)].reAnnounceTimer u.pwc.uptime = true
      ∧ u.wre.rules[(47 : Fin 48)].phase ≠ .active := by decide

/-- Rule 47, ACTIVE or LATCHED, with an unacknowledged entry; the forms RULE and ALL_OF_CLASS. -/
theorem test_witness_AcknowledgementActsOnTheNamedEntries :
    let s := asked .cluster .ackWarning [0, 47] (ruled notValidRule (ruleReset .latched) [⟨47, false⟩])
    let u := asked .cluster .ackWarning [1, 0] (ruled notValidRule (ruleReset .active) [⟨47, false⟩])
    InHand s .cluster .ackWarning (request .ackWarning [0, 47]) ∧ ListAgrees s.wre
      ∧ (request .ackWarning [0, 47]).payload = 0 :: numByte (47 : Fin 48).val :: [] ∧ ⟨47, false⟩ ∈ s.wre.list
      ∧ s.wre.rules[(47 : Fin 48)].phase = .latched
      ∧ InHand u .cluster .ackWarning (request .ackWarning [1, 0]) ∧ ListAgrees u.wre
      ∧ (request .ackWarning [1, 0]).payload = 1 :: numByte WarningClass.stop.rank :: []
      ∧ u.cal.rules[(47 : Fin 48)].cls = .stop ∧ ⟨47, false⟩ ∈ u.wre.list
      ∧ u.wre.rules[(47 : Fin 48)].phase = .active ∧ u.cal.rules[(47 : Fin 48)].reAnnounce ≠ 0 :=
  ⟨asked_inHand _ _ _ _ rfl, ⟨by decide, by decide, by decide⟩, by decide, by decide, by decide,
    asked_inHand _ _ _ _ rfl, ⟨by decide, by decide, by decide⟩, by decide, by decide, by decide, by decide,
    by decide⟩

/-- No entry, an acknowledged one, and every argument of ACK_WARNING missing and out of range. -/
theorem test_witness_RefusedAcknowledgements (l : List Byte) :
    let ask := asked .cluster .ackWarning
    let empty := ask l (ruled notValidRule (ruleReset .idle) [])
    let done := ask l (ruled notValidRule (ruleReset .active) [⟨47, true⟩])
    InHand empty .cluster .ackWarning (request .ackWarning l) ∧ (∀ x ∈ empty.wre.list, x.rule ≠ 47)
      ∧ InHand done .cluster .ackWarning (request .ackWarning l) ∧ ⟨47, true⟩ ∈ done.wre.list
      ∧ (∀ b more, [48#8] = b :: more → 47 < b.toNat) ∧ (∀ b more, [3#8] = b :: more → 2 < b.toNat)
      ∧ (∀ form rest, [2#8, 0] = form :: rest → 1 < form.toNat) ∧ ∀ (b : Byte) more, [] ≠ b :: more := by
  refine ⟨asked_inHand _ _ _ _ rfl, ?_, asked_inHand _ _ _ _ rfl, List.mem_singleton.mpr rfl, ?_, ?_, ?_, ?_⟩
  · exact fun x h => absurd h List.not_mem_nil
  · intro _ _ h; cases h; decide
  · intro _ _ h; cases h; decide
  · intro _ _ h; cases h; decide
  · intro _ _ h; cases h

/-! ### Outputs and doors -/

theorem test_witness_DoorLampAndDriveInhibitAreDecided :
    (doorKnown.opuEvent id).opu.testTarget = none
      ∧ (doorKnown.opuEvent id).opu.outputs.driveInhibit = false := by decide

theorem test_witness_OutputTimersExpire :
    let s := { run with opu := { run.opu with
      lampStop := ⟨.flashing, true, some 5000⟩, lampCaution := ⟨.flashing, false, some 5000⟩
      chime := ⟨some .cautionNew, 4, some 5000⟩, regime := .holding, fallback := some 5000 } }
    s.supply = true ∧ s.opu.lampStop.mode = .flashing ∧ timerDue s.opu.lampStop.timer s.pwc.uptime = true
      ∧ s.opu.lampCaution.mode = .flashing ∧ timerDue s.opu.lampCaution.timer s.pwc.uptime = true
      ∧ s.opu.chime.granted = some .cautionNew ∧ timerDue s.opu.chime.cadence s.pwc.uptime = true
      ∧ timerDue s.opu.fallback s.pwc.uptime = true ∧ s.opu.power = .run ∧ s.opu.testTarget = none := by
  decide

/-- Door 3 with timers that run out now. -/
def dueDoor : State :=
  run.setDoor 3 { doorReset with openLimit := some 5000, settle := some 5000, closeLimit := some 5000 }

theorem test_witness_DoorTimersExpire :
    timerDue dueDoor.drs.doors[(3 : Fin 4)].openLimit dueDoor.pwc.uptime = true
      ∧ timerDue dueDoor.drs.doors[(3 : Fin 4)].settle dueDoor.pwc.uptime = true
      ∧ timerDue dueDoor.drs.doors[(3 : Fin 4)].closeLimit dueDoor.pwc.uptime = true
      ∧ dueDoor.drs.doors[(3 : Fin 4)].reason = none ∧ dueDoor.flm.replayDone = true
      ∧ (∀ named, Unwatched dueDoor named) ∧ ∀ code, HasPlace dueDoor.flm.list code :=
  ⟨by decide, by decide, by decide, by decide, by decide, fun _ _ => ⟨rfl, fun _ _ r h =>
      absurd h ((by decide : ∀ r : Fin 48, ¬Calibration.factory.rules[r].enabled = true) r)⟩,
    fun _ => .inr (.inl (by decide))⟩

/-- The speed slot and the parking-brake slot as OPU knows them, in each regime and at the edges of the band. -/
theorem test_witness_LiveChangeDecides (regime : Regime) :
    let s := { parked run with opu := { run.opu with speed := ⟨true, 31, .stale⟩, regime := regime } }
    s.cal.general.speedSlot = some 0 ∧ s.cal.general.brakeSlot = some 1 ∧ s.opu.power = .run
      ∧ s.opu.speed.configured = true ∧ s.opu.speed.status ≠ .valid ∧ s.opu.regime = regime
      ∧ run.opu.speed.configured = false ∧ (at5s .sleep).opu.power = .sleep
      ∧ (20#32).toInt ≤ run.opu.openLow.toInt ∧ run.opu.openLow.toInt < (21#32).toInt
      ∧ (30#32).toInt ≤ run.opu.openHigh.toInt ∧ run.opu.openHigh.toInt < (31#32).toInt := by
  cases regime <;> decide

/-! ### Faults and the store -/

theorem test_witness_FaultReportsActOnTheList :
    (withFaults [entry 1 true, entry 0xE2FF false] run).flm.replayDone = true
      ∧ FaultsBounded (withFaults [entry 1 true, entry 0xE2FF false] run)
      ∧ ¬(0xE300 ≤ (0xE2FF#16).toNat ∧ (0xE2FF#16).toNat ≤ 0xE400)
      ∧ (0xE300 ≤ (0xE400#16).toNat ∧ (0xE400#16).toNat ≤ 0xE400)
      ∧ (∃ e ∈ [entry 1 true, entry 0xE2FF false], e.code = 0xE2FF)
      ∧ (∃ e ∈ [entry 1 true, entry 0xE2FF false], e.code = 1 ∧ e.active = true)
      ∧ (∀ e ∈ [entry 1 true, entry 0xE2FF false], e.code = 0xE2FF → e.active = false)
      ∧ (¬∃ e ∈ [entry 1 true, entry 0xE2FF false], e.code = 0xE401)
      ∧ [entry 1 true, entry 0xE2FF false].length < 32
      ∧ ∃ e ∈ [entry 1 true, entry 0xE2FF false], e.active = false := by
  refine ⟨by decide, ⟨by decide, by decide⟩, by decide, by decide, by decide, by decide, by decide, by decide,
    by decide, by decide⟩

/-- A full list with STORED entries of codes 31 and 32 at its end, and one of ACTIVE entries alone. -/
theorem test_witness_FullFaultList :
    let l := fullList.take 30 ++ entry 31 false :: [entry 32 false]
    l.length = 32 ∧ FaultsBounded (withFaults l run) ∧ (entry 31 false).active = false
      ∧ (∀ e ∈ fullList.take 30, e.active = false → e.aging < (entry 31 false).aging)
      ∧ (∀ e ∈ [entry 32 false], e.active = false → e.aging ≤ (entry 31 false).aging)
      ∧ (¬∃ e ∈ l, e.code = 33) ∧ fullList.length = 32 ∧ (∀ e ∈ fullList, e.active = true)
      ∧ (¬∃ e ∈ fullList, e.code = 33) ∧ FaultsBounded (withFaults fullList run) :=
  ⟨by decide, ⟨by decide, by decide⟩, by decide, by decide, by decide, by decide, by decide, by decide,
    by decide, ⟨by decide, by decide⟩⟩

theorem test_full_list_replaces_the_oldest_stored :
    ((flmReport (.occurrence 33 .store)
      (withFaults (fullList.take 30 ++ entry 31 false :: [entry 32 false]) run)).flm.list.map FaultEntry.code).drop 29
      = [30, 32, 33] := by decide +kernel
theorem test_aging_drops_at_the_limit :
    (flmAging (withFaults [{ entry 1 false with aging := 39 }, entry 2 true] run)).flm.list = [entry 2 true] := by
  decide +kernel

theorem test_witness_FullQueueTurnsItsAppends :
    fullQueue.Nodup ∧ fullQueue.length = 8 ∧ Job.faultAppend 7 ∉ fullQueue ∧ Job.faultRewrite ∉ fullQueue
      ∧ ([Job.faultAppend 9, .faultAppend 8] ++ fullQueue.drop 2).Nodup
      ∧ ([Job.faultAppend 9, .faultAppend 8] ++ fullQueue.drop 2).length = 8
      ∧ Job.counterSave ∉ ([Job.faultAppend 9, .faultAppend 8] ++ fullQueue.drop 2)
      ∧ Job.calibWrite ∉ ([Job.faultAppend 9, .faultAppend 8] ++ fullQueue.drop 2) := by decide

/-- The part with jobs queued, the last free slot of block 2 before it, block 6 OPEN and a STALE block 15. -/
def saving (q : List Job) : State :=
  run.setRst { run.rst with
    queue := q
    blocks := ((run.rst.blocks.set 2 ⟨.blockOpen, 62, some 1⟩).set 6 ⟨.blockOpen, 63, some 1⟩).set 15 ⟨.stale, 1, none⟩ }

theorem test_witness_JobsAndErasesStart :
    (saving [.counterSave]).rst.queue = [] ++ .counterSave :: [] ∧ (saving [.counterSave]).rst.controller = .idle
      ∧ (saving [.counterSave]).rst.readOnly.counters = false
      ∧ (saving [.counterSave]).rst.openBlock .counters = some 2
      ∧ (saving [.counterSave]).rst.blocks[(2 : Fin 16)].writePoint ≤ 62
      ∧ (saving []).rst.queue = [] ∧ (saving []).rst.blocks[(15 : Fin 16)].state = .stale
      ∧ (∀ c : Fin 16, c < 15 → (saving []).rst.blocks[c].state ≠ .stale)
      ∧ (at5s .afterrun).pwc.power = .afterrun
      ∧ [Job.faultRewrite, .counterSave] = [.faultRewrite] ++ .counterSave :: []
      ∧ Job.counterSave ∉ [Job.faultRewrite]
      ∧ [Job.calibWrite, .faultAppend 7] = [.calibWrite] ++ .faultAppend 7 :: []
      ∧ (∀ j ∈ [Job.calibWrite], j = .calibWrite)
      ∧ (run.rst.readOnly.close .faults).of (Job.faultAppend 7).area = true := by decide

/-- A FAULT_APPEND with room in block 6, and without: the rewrite takes block 7, or the STALE block 15, or none. -/
theorem test_witness_FaultJobs :
    let room := run.setRst { run.rst with blocks := run.rst.blocks.set 6 ⟨.blockOpen, 0, some 1⟩ }
    let full := saving [.faultAppend 7]
    let worn := run.setRst { run.rst with
      blocks := Vector.ofFn fun b => if b = 15 then ⟨.stale, 1, none⟩ else ⟨.bad, 0, none⟩ }
    room.rst.openBlock .faults = some 6 ∧ room.rst.blocks[(6 : Fin 16)].writePoint ≤ 62
      ∧ full.rst.openBlock .faults = some 6 ∧ 62 < full.rst.blocks[(6 : Fin 16)].writePoint
      ∧ NextBlock full 6 10 6 .erased 7
      ∧ NoBlock worn 6 10 .erased ∧ NextBlock worn 6 10 6 .stale 15 ∧ worn.rst.openBlock .faults = none
      ∧ NoBlock worn 2 4 .erased ∧ NoBlock worn 2 4 .stale ∧ worn.rst.openBlock .counters = none
      ∧ worn.rst.blocks[(0 : Fin 16)].state = .bad ∧ worn.rst.blocks[(1 : Fin 16)].state = .bad
      ∧ run.rst.blocks[(0 : Fin 16)].state ≠ .bad ∧ run.rst.readOnly.calibration = false := by
  refine ⟨by decide, by decide, by decide, by decide, ⟨0, by decide⟩, by unfold NoBlock; decide, ⟨8, by decide⟩,
    by decide, by unfold NoBlock; decide, by unfold NoBlock; decide, by decide, by decide, by decide, by decide,
    by decide⟩

theorem test_calibration_write_begins :
    (after .flashJobTaken (run.setRst { run.rst with queue := [.calibWrite] })).rst.blocks[(0 : Fin 16)]
      = ⟨.filling, 0, none⟩ := by decide +kernel

/-- A job of an append in progress. -/
def appending : RunningJob :=
  ⟨.counterSave, .counter ⟨0, 0, Vector.replicate 4 0, 0⟩, .append, .program 2 62 [1], 2, false⟩

/-- A job with another task and operation. -/
def doing (task : FlashTask) (op : FlashOp) : RunningJob := { appending with task := task, op := op }

theorem test_witness_OperationEndLeavesTheArray :
    (run.setRst { run.rst with controller := .running appending }).rst.controller = .running appending
      ∧ appending.task = .append ∧ appending.op = .program 2 62 [1] ∧ appending.task ≠ .marker
      ∧ (run.setRst { run.rst with controller := .erasing (.erase 15) }).rst.controller
        = .erasing (.erase 15)
      ∧ (run.setRst { run.rst with controller := .erasing (.program 15 63 []) }).rst.controller
        = .erasing (.program 15 63 [])
      ∧ (doing (.header 4) (.program 3 0 [1])).op = .program 3 0 [1]
      ∧ (doing (.header 4) (.program 3 0 [1])).data = .counter ⟨0, 0, Vector.replicate 4 0, 0⟩
      ∧ run.rst.newestCounter = none
      ∧ (doing (.imageRecord 50) (.program 0 51 [5])).task = .imageRecord 50
      ∧ (doing (.imageRecord 0) (.copyBack 3 1 2 62)).op = .copyBack 3 1 2 62
      ∧ { run.rst.blocks[(3 : Fin 16)] with state := .filling }.state = .filling
      ∧ ({ doing .imageEnd (.program 3 2 [4]) with ownFollows := true }).ownFollows = true
      ∧ ({ doing .marker (.program 6 63 []) with job := .faultRewrite, data := .faults [], origin := 6 }).job.area
        = .faults := by decide +kernel

theorem test_failed_marker_leaves_the_array :
    (after (.flashOperationEnd false)
      (run.setRst { run.rst with controller := .erasing (.program 15 63 []) })).rst.flash = run.rst.flash := by
  decide +kernel

/-! ### Service mode -/

theorem on_ne_off : ServiceState.on ≠ .off := by decide

theorem network_ne_unused : SourceKind.network ≠ .unused := by decide

theorem test_witness_ServiceModeIsEnteredAndLeft :
    let s := asked .service .serviceEnter [] (parked run)
    let u := asked .service .serviceExit [] (inRunService.setSvc
      { inRunService.svc with serviceTimer := some 5000, substituted := [95], outputTest := some (.chime, 6000) })
    let moving := asked .service .serviceEnter [] (at5s .afterrun)
    let again := asked .service .serviceEnter [] inRunService
    InHand s .service .serviceEnter (request .serviceEnter []) ∧ s.svc.state = .off ∧ s.pwc.power = .run
      ∧ s.cal.general.speedSlot = some 0 ∧ s.slots[(0 : Fin 96)].liveStatus = .valid
      ∧ s.slots[(0 : Fin 96)].liveValue.toInt ≤ s.cal.general.stationary.toInt
      ∧ s.cal.general.brakeSlot = some 1 ∧ s.slots[(1 : Fin 96)].liveStatus = .valid
      ∧ s.slots[(1 : Fin 96)].liveValue = 1
      ∧ InHand u .service .serviceExit (request .serviceExit []) ∧ u.svc.state ≠ .off
      ∧ timerDue u.svc.serviceTimer u.pwc.uptime = true
      ∧ InHand moving .service .serviceEnter (request .serviceEnter []) ∧ moving.svc.state = .off
      ∧ moving.pwc.power ≠ .run
      ∧ InHand again .service .serviceEnter (request .serviceEnter []) ∧ again.svc.state ≠ .off :=
  ⟨asked_inHand _ _ _ _ rfl, by decide, by decide, by decide, by decide, by decide, by decide, by decide,
    by decide, asked_inHand _ _ _ _ rfl, by decide, by decide, asked_inHand _ _ _ _ rfl, by decide, by decide,
    asked_inHand _ _ _ _ rfl, by decide⟩

/-- The speed slot rises above the stationary threshold, and the brake is released, in service; and a service
request with service mode OFF. -/
theorem test_witness_LiveChangeEndsService (k : RequestKind) (l : List Byte) :
    (parked inRunService).svc.state ≠ .off ∧ (parked inRunService).pwc.power ≠ .start
      ∧ (parked inRunService).slots[(0 : Fin 96)].liveValue ≠ 1
      ∧ (parked inRunService).cal.general.speedSlot = some 0
      ∧ (parked inRunService).cal.general.stationary.toInt < (1#32).toInt
      ∧ (parked inRunService).slots[(1 : Fin 96)].liveValue ≠ 0
      ∧ (parked inRunService).cal.general.brakeSlot = some 1 ∧ (0#32) ≠ 1
      ∧ InHand (asked .service k l run) .service k (request k l) ∧ run.svc.state = .off :=
  ⟨by decide, by decide, by decide, by decide, by decide, by decide, by decide, by decide,
    asked_inHand _ _ _ _ rfl, rfl⟩

theorem test_moving_ends_service : (sgtUpdate 0 .valid 1 (parked inRunService)).svc = svcReset := by
  decide +kernel

theorem test_witness_ReadoutAndLiveDataAnswer :
    let read (generation : BitVec 16) (cursor : Nat) := asked .service .readoutNext [] (withFaults fullList
      (inRunService.setSvc { inRunService.svc with readout := some ⟨generation, cursor⟩ }))
    let closed := asked .service .readoutNext [] inRunService
    let live := asked .service .liveSubscribe [95] ((expiring .valid).setSvc inRunService.svc)
    let fetch := asked .service .liveFetch [] inRunService
    let opening := asked .service .readoutOpen [] inRunService
    InHand opening .service .readoutOpen (request .readoutOpen []) ∧ opening.svc.state ≠ .off
      ∧ (∀ g n, InHand (read g n) .service .readoutNext (request .readoutNext []) ∧ (read g n).svc.state ≠ .off
        ∧ (read g n).svc.readout = some ⟨g, n⟩ ∧ (read g n).flm.generation = 0)
      ∧ (read 0 31).flm.list[31]? = some (entry 32 true) ∧ (read 0 32).flm.list.length ≤ 32 ∧ (1#16) ≠ 0
      ∧ InHand closed .service .readoutNext (request .readoutNext []) ∧ closed.svc.readout = none
      ∧ InHand live .service .liveSubscribe (request .liveSubscribe [95]) ∧ live.svc.state ≠ .off
      ∧ (request .liveSubscribe [95]).payload = [(95 : Fin 96)].map (fun i => numByte i.val)
      ∧ [(95 : Fin 96)].Nodup ∧ live.slots[(95 : Fin 96)].kind ≠ .unused
      ∧ InHand fetch .service .liveFetch (request .liveFetch []) ∧ fetch.svc.state ≠ .off :=
  ⟨asked_inHand _ _ _ _ rfl, by decide,
    fun _ _ => ⟨asked_inHand _ _ _ _ rfl, on_ne_off, rfl, rfl⟩, by decide, by decide, by decide,
    asked_inHand _ _ _ _ rfl, by decide,
    asked_inHand _ _ _ _ rfl, by decide, by decide, by decide, by decide, asked_inHand _ _ _ _ rfl, by decide⟩

/-- More than 12 slots, one named twice, a number above 95, and an UNUSED slot. -/
theorem test_witness_RefusedSubscriptions (l : List Byte) :
    InHand (asked .service .liveSubscribe l inRunService) .service .liveSubscribe (request .liveSubscribe l)
      ∧ 12 < (List.replicate 13 0#8).length ∧ ¬[5#8, 5].Nodup ∧ (∃ b ∈ [96#8], 95 < b.toNat)
      ∧ numByte (95 : Fin 96).val ∈ [95#8] ∧ inRunService.slots[(95 : Fin 96)].kind = .unused :=
  ⟨asked_inHand _ _ _ _ rfl, by decide, by decide, by decide, by decide, by decide⟩

/-- Fields cut short, a slot above 95, an UNUSED slot, a ninth slot, and a release outside the set. -/
theorem test_witness_RefusedSubstitutions (k : RequestKind) (l : List Byte) :
    let full := (expiring .valid).setSvc { inRunService.svc with substituted := [0, 1, 2, 3, 4, 5, 6, 7] }
    InHand (asked .service k l full) .service k (request k l) ∧ full.svc.state ≠ .off
      ∧ [95#8, 0, 0, 0].length < 5 ∧ 95 < (96#8).toNat ∧ full.slots[(0 : Fin 96)].kind = .unused
      ∧ (95 : Fin 96) ∉ full.svc.substituted ∧ 8 ≤ full.svc.substituted.length :=
  ⟨asked_inHand _ _ _ _ rfl, on_ne_off, by decide, by decide, by decide, by decide, by decide⟩

theorem test_witness_SubstitutionIsSetAndReleased (v : Value) :
    let s := asked .service .substitute (95 :: (bytes32 v ++ [])) ((expiring .valid).setSvc inRunService.svc)
    let u := asked .service .releaseSubstitute [95] ((expiring .valid).setSvc
      { inRunService.svc with substituted := [95] })
    s.svc.state ≠ .off
      ∧ InHand s .service .substitute (request .substitute (95 :: (bytes32 v ++ [])))
      ∧ (request .substitute (95 :: (bytes32 v ++ []))).payload = numByte (95 : Fin 96).val :: (bytes32 v ++ [])
      ∧ s.slots[(95 : Fin 96)].kind ≠ .unused ∧ s.svc.substituted.length < 8
      ∧ u.svc.state ≠ .off ∧ InHand u .service .releaseSubstitute (request .releaseSubstitute [95])
      ∧ (request .releaseSubstitute [95]).payload = numByte (95 : Fin 96).val :: []
      ∧ (95 : Fin 96) ∈ u.svc.substituted :=
  ⟨on_ne_off, asked_inHand _ _ _ _ rfl, rfl, network_ne_unused, Nat.zero_lt_succ 7, by decide,
    asked_inHand _ _ _ _ rfl, by decide, by decide⟩

theorem test_witness_OutputTestRunsAndEnds :
    let testing := inRunService.setSvc { inRunService.svc with state := .test, outputTest := some (.chime, 5000) }
    let ask (l : List Byte) (s : State) := asked .service .outputTest l s
    (∀ l s, s.supply = true → InHand (ask l s) .service .outputTest (request .outputTest l))
      ∧ (ask [5, 30] inRunService).svc.state ≠ .off ∧ (30 : Fin 31) ≠ 0
      ∧ (request .outputTest [5, 30]).payload = numByte (5 : Fin 6).val :: numByte (30 : Fin 31).val :: []
      ∧ (request .outputTest [6, 0]).payload = 6 :: 0 :: [] ∧ (ask [6, 0] testing).svc.state = .test
      ∧ (ask [6, 255] inRunService).svc.state = .on ∧ (request .outputTest [6]).payload = [6]
      ∧ (request .outputTest [7, 1]).payload = 7 :: 1 :: [] ∧ 5 < (7#8).toNat ∧ 30 < (31#8).toNat
      ∧ [7#8, 1].head? ≠ some 6 ∧ [0#8].length < 2
      ∧ testing.svc.outputTest = some (.chime, 5000) ∧ timerDue (some 5000#32) testing.pwc.uptime = true :=
  ⟨fun _ _ h => asked_inHand _ _ _ _ h, by decide, by decide, by decide, by decide, by decide, by decide,
    by decide, by decide, by decide, by decide, by decide, by decide, by decide, by decide⟩

/-- ALL_LAMPS lights the four lamps, and each lamp target its own. -/
theorem test_lamps_under_test_are_lit :
    [0, 1, 2, 3, 4].map (fun target =>
      let o := (after .outputTest (asked .service .outputTest [target, 30] inRunService)).opu.outputs
      [o.lampStop, o.lampCaution, o.lampDoor, o.lampStopReq])
      = [[true, false, false, false], [false, true, false, false], [false, false, true, false],
        [false, false, false, true], [true, true, true, true]] := by decide +kernel

theorem test_stop_without_a_duration_is_refused :
    ((after .outputTestStop (asked .service .outputTest [6] inRunService)).port .service).state
      = .ready ⟨0x55, .badArgument, []⟩ := by decide

theorem test_witness_FaultListIsClearedInTwoSteps :
    let s := asked .service .clearPrepare [] inRunService
    let u := asked .service .clearConfirm [] (inRunService.setSvc
      { inRunService.svc with confirmation := some (.clear, 5000) })
    InHand s .service .clearPrepare (request .clearPrepare []) ∧ s.svc.state ≠ .off
      ∧ InHand u .service .clearConfirm (request .clearConfirm []) ∧ u.svc.state ≠ .off
      ∧ u.svc.confirmation = some (.clear, 5000) ∧ timerDue (some 5000#32) u.pwc.uptime = true :=
  ⟨asked_inHand _ _ _ _ rfl, by decide, asked_inHand _ _ _ _ rfl, by decide, by decide, by decide⟩

theorem test_witness_CalibrationIsStagedReadAndPrepared :
    let bytes := Calibration.factory.itemBytes .doors 3
    let s := asked .service .calibLoad (7 :: 3 :: bytes) inRunService
    let u := asked .service .calibRead [1, 7, 3] (inRunService.setSvc
      { inRunService.svc with staging := some Calibration.factory })
    let w := asked .service .calibCommitPrepare [] (inRunService.setSvc
      { inRunService.svc with staging := some Calibration.factory })
    InHand s .service .calibLoad (request .calibLoad (7 :: 3 :: bytes)) ∧ s.svc.state ≠ .off
      ∧ InRange Calibration.factory ∧ 3 < CalibSection.doors.count
      ∧ (request .calibLoad (7 :: 3 :: bytes)).payload
        = numByte CalibSection.doors.code :: numByte 3 :: Calibration.factory.itemBytes .doors 3
      ∧ InHand u .service .calibRead (request .calibRead [1, 7, 3])
      ∧ (request .calibRead [1, 7, 3]).payload = 1 :: numByte CalibSection.doors.code :: numByte 3 :: []
      ∧ u.svc.staging = some Calibration.factory
      ∧ InHand w .service .calibCommitPrepare (request .calibCommitPrepare []) ∧ w.svc.state ≠ .off
      ∧ w.svc.staging = some Calibration.factory ∧ Job.calibWrite ∉ w.rst.queue
      ∧ w.rst.controller = .idle :=
  ⟨asked_inHand _ _ _ _ rfl, on_ne_off, test_factory_in_range, by decide, rfl, asked_inHand _ _ _ _ rfl,
    by decide, rfl, asked_inHand _ _ _ _ rfl, by decide, rfl, by decide, by decide⟩

/-- Each confirmation without its preparation, and with one of the other kind. -/
theorem test_witness_UnpreparedConfirmations (k : RequestKind) (t : Time) :
    let s := inRunService.setSvc { inRunService.svc with confirmation := some (.calibCommit, t) }
    InHand (asked .service k [] s) .service k (request k []) ∧ s.svc.state ≠ .off
      ∧ (∀ e, s.svc.confirmation ≠ some (.clear, e)) ∧ ∀ e, inRunService.svc.confirmation ≠ some (.calibCommit, e) := by
  refine ⟨asked_inHand _ _ _ _ rfl, on_ne_off, ?_, ?_⟩
  · intro _ h; cases h
  · intro _ h; cases h

/-- In each section an item with a field one above its range, and one cut short; a section and an index above theirs. -/
theorem test_witness_RefusedItems (k : RequestKind) (l : List Byte) :
    let with' (sec : CalibSection) (n : Nat) (b : Byte) : List Byte := (Calibration.factory.itemBytes sec 0).set n b
    InHand (asked .service k l inRunService) .service k (request k l) ∧ inRunService.svc.state ≠ .off
      ∧ Misfits .general (with' .general 0 96) ∧ Misfits .slots (with' .slots 1 32)
      ∧ Misfits .switches (with' .switches 1 6) ∧ Misfits .senders (with' .senders 5 9)
      ∧ Misfits .channels (with' .channels 17 3) ∧ Misfits .filters (with' .filters 10 64)
      ∧ Misfits .rules (with' .rules 23 61) ∧ Misfits .doors (with' .doors 11 8) ∧ Misfits .doors []
      ∧ 7 < (8#8).toNat ∧ CalibSection.doors.count ≤ (4#8).toNat ∧ 1 < (2#8).toNat ∧ [0#8].length < 2
      ∧ inRunService.svc.staging = none ∧ 3 < CalibSection.doors.count :=
  ⟨asked_inHand _ _ _ _ rfl, on_ne_off, .inr (.inl ⟨0, by decide, by decide⟩), .inr (.inr (by decide)),
    .inr (.inr (by decide)), .inr (.inr (.inr (.inl (by decide)))),
    by simp only [Misfits]; decide, by simp only [Misfits]; decide, by simp only [Misfits]; decide,
    by simp only [Misfits]; decide, .inl (by decide), by decide, by decide, by decide, by decide, rfl, by decide⟩

/-- A staging calibration whose slot 95, SWITCH without an index, is the first item at fault; a CALIB_WRITE queued. -/
theorem test_witness_RefusedPreparation :
    let c := { Calibration.factory with slots := Calibration.factory.slots.set 95 ⟨.switch, none⟩ }
    let s := asked .service .calibCommitPrepare [] (inRunService.setSvc { inRunService.svc with staging := some c })
    InHand s .service .calibCommitPrepare (request .calibCommitPrepare []) ∧ s.svc.staging = some c
      ∧ c.itemValid .slots 95 = false ∧ c.firstFault = some (.slots, 95) ∧ 95 < CalibSection.slots.count
      ∧ Job.calibWrite ∉ s.rst.queue ∧ s.rst.controller = .idle ∧ inRunService.svc.staging = none
      ∧ Job.calibWrite ∈ fullQueue :=
  ⟨asked_inHand _ _ _ _ rfl, rfl, by decide, by decide +kernel, by decide, by decide, rfl, rfl, by decide⟩

/-- The factory default meets every condition of its sections. -/
theorem test_factory_is_valid (sec : CalibSection) (i : Nat) (h : i < sec.count) :
    Calibration.factory.itemValid sec i = true := by
  cases sec
  · rfl
  · exact (by decide : ∀ k : Fin 96, Calibration.factory.itemValid .slots k = true) ⟨i, h⟩
  · rfl
  · exact (by decide : ∀ k : Fin 8, Calibration.factory.itemValid .senders k = true) ⟨i, h⟩
  · exact (by decide : ∀ k : Fin 8, Calibration.factory.itemValid .channels k = true) ⟨i, h⟩
  · exact (by decide : ∀ k : Fin 32, Calibration.factory.itemValid .filters k = true) ⟨i, h⟩
  · exact (by decide : ∀ k : Fin 48, Calibration.factory.itemValid .rules k = true) ⟨i, h⟩
  · exact (by decide : ∀ k : Fin 4, Calibration.factory.itemValid .doors k = true) ⟨i, h⟩

theorem test_witness_CommitMakesTheStagingCalibrationActive :
    let s := asked .service .calibCommitConfirm [] (inRunService.setSvc { inRunService.svc with
      confirmation := some (.calibCommit, 9000), staging := some filterCal })
    InHand s .service .calibCommitConfirm (request .calibCommitConfirm []) ∧ s.svc.state ≠ .off
      ∧ s.svc.confirmation = some (.calibCommit, 9000) ∧ s.svc.staging = some filterCal :=
  ⟨asked_inHand _ _ _ _ rfl, by decide, by decide, rfl⟩

/-- The part standing, with channel 7 of role ODOMETER. -/
def odometerState : State :=
  { parked inRunService with
    cal := { roleCal with
      channels := roleCal.channels.set 7 { factoryChannel with mode := .follow, role := .odometer } } }

theorem test_witness_OdometerIsSetUpwards (v : Count) :
    let s := asked .service .odometerSet (bytes32 v ++ []) odometerState
    InHand s .service .odometerSet (request .odometerSet (bytes32 v ++ [])) ∧ s.svc.state ≠ .off
      ∧ s.cal.general.speedSlot = some 0 ∧ s.slots[(0 : Fin 96)].liveStatus = .valid
      ∧ s.slots[(0 : Fin 96)].liveValue.toInt ≤ s.cal.general.stationary.toInt
      ∧ s.cal.roleChannel .odometer = some 7 ∧ s.ccu.odometer.count ≤ v
      ∧ s.ccu.channels[(7 : Fin 8)].holdOff = none
      ∧ (s.setChannel 7 { channelReset with holdOff := some 5001 }).ccu.channels[(7 : Fin 8)].holdOff ≠ none := by
  refine ⟨asked_inHand _ _ _ _ rfl, on_ne_off, rfl, rfl, ?_, ?_, ?_, rfl, Option.some_ne_none _⟩
  · exact (by decide : odometerState.slots[(0 : Fin 96)].liveValue.toInt
      ≤ odometerState.cal.general.stationary.toInt)
  · exact (by decide : odometerState.cal.roleChannel .odometer = some 7)
  · exact BitVec.le_def.mpr (Nat.zero_le _)

/-- The speed of no VALID slot; no channel of role ODOMETER; a value below the count; and a value cut short. -/
theorem test_witness_RefusedOdometer (l : List Byte) :
    let moving := asked .service .odometerSet l inRunService
    let plain := asked .service .odometerSet l (parked inRunService)
    InHand moving .service .odometerSet (request .odometerSet l)
      ∧ (¬∃ i, moving.cal.general.speedSlot = some i ∧ moving.slots[i].liveStatus = .valid
        ∧ moving.slots[i].liveValue.toInt ≤ moving.cal.general.stationary.toInt)
      ∧ InHand plain .service .odometerSet (request .odometerSet l)
      ∧ (∀ d : Fin 8, plain.cal.channels[d].role ≠ .odometer)
      ∧ (∃ d : Fin 8, odometerState.cal.channels[d].role = .odometer)
      ∧ 0#32 < (odometerState.putOdometer ⟨1, 0⟩).ccu.odometer.count ∧ [0#8, 0, 0].length < 4 := by
  refine ⟨asked_inHand _ _ _ _ rfl, ?_, asked_inHand _ _ _ _ rfl, ?_, by decide, by decide, by decide⟩
  · rintro ⟨_, h, -⟩
    cases h
  · exact (by decide : ∀ d : Fin 8, (parked inRunService).cal.channels[d].role ≠ .odometer)

/-! ### Power -/

theorem test_witness_PowerOnRestoresTheCounts : run.supply = true := by decide

/-- A sender in use takes its first sample in START, in range whatever the level. -/
theorem test_first_sample_in_start :
    (senderSample 7 4095 { sampling senderReset with pwc := { run.pwc with power := .start } }).senders[
      (7 : Fin 8)] = ⟨some 4095, false, some 5000, some (.valid 4095)⟩ := by decide +kernel

theorem test_witness_PowerLossKeepsTheFlash :
    run.supply = true ∧ run.rst.controller = .idle
      ∧ (run.setRst { run.rst with controller := .erasing (.erase 15) }).rst.controller = .erasing (.erase 15)
      ∧ (run.setPwc { run.pwc with held := true }).pwc.held = true := by decide

/-- The part with the count of IGN full. -/
def ignitionFull (p : PowerState) (on : Bool) : State :=
  (at5s p).setPwc { (at5s p).pwc with ignition := on, ignitionDisagreement := 50 }

theorem test_witness_IgnitionTurnsThePowerState :
    (ignitionFull .afterrun false).pwc.ignitionDisagreement = 50
      ∧ (ignitionFull .afterrun false).pwc.power = .afterrun
      ∧ (ignitionFull .afterrun false).pwc.ignition = false
      ∧ (ignitionFull .sleep false).pwc.power = .sleep ∧ (ignitionFull .sleep false).pwc.ignition = false
      ∧ (ignitionFull .run true).pwc.power = .run ∧ (ignitionFull .run true).pwc.ignition = true := by decide

theorem test_witness_QuietExpiryLeadsToSleep :
    let s := (at5s .afterrun).setPwc { (at5s .afterrun).pwc with quietTimer := some 5000 }
    let u := (at5s .afterrun).setPwc { (at5s .afterrun).pwc with quietTimer := some 5000, storeIdle := false }
    s.supply = true ∧ timerDue s.pwc.quietTimer s.pwc.uptime = true ∧ s.pwc.power = .afterrun
      ∧ s.pwc.storeIdle = true
      ∧ u.supply = true ∧ timerDue u.pwc.quietTimer u.pwc.uptime = true ∧ u.pwc.storeIdle = false := by
  decide

/-! ### Witnesses of single clauses: the shared words, the signals and inputs, the store and START -/

/-- No rule SUPPRESSED, and one SUPPRESSED beside a full list. -/
theorem test_witness_PlacesAreRefilled :
    PlacesRefilled warned.wre
      ∧ PlacesRefilled { crowded with rules := crowded.rules.set 46 (ruleReset .suppressed) }
      ∧ (∃ r : Fin 48, (crowded.rules.set 46 (ruleReset .suppressed))[r].phase = .suppressed) := by
  unfold PlacesRefilled; decide +kernel

/-- Four frames, the last extended and of 8 bytes; an identifier of 7FFh, and one above it. -/
theorem test_witness_FramesOfAPayload :
    let frames : List (BitVec 32 × List Byte) :=
      [(0x7FF, [42]), (1, []), (2, [1]), (0xFFFFFFFF, [1, 2, 3, 4, 5, 6, 7, 8])]
    frames.length ≤ 4 ∧ (∀ w ∈ frames, w.2.length ≤ 8 ∧ (w.1.msb = true ∨ w.1.setWidth 29 ≤ 0x7FF#29))
      ∧ (netFramesOf (numByte frames.length ::
          (frames.flatMap fun w => bytes32 w.1 ++ numByte w.2.length :: w.2) ++ [9])).map (fun l => l.map NetFrame.identifier)
        = some [0x7FF, 1, 2, 0x1FFFFFFF]
      ∧ (filterCal.filters[(31 : Fin 32)]).takes ⟨1, false, [42]⟩ = true
      ∧ (filterCal.filters[(31 : Fin 32)]).takes ⟨1, true, [42]⟩ = false
      ∧ (filterCal.filters[(31 : Fin 32)]).update ⟨1, false, [42]⟩ = some ⟨5, .valid, 42⟩ := by decide +kernel

/-- Switch 31 with its count full as the hardware gate of channel 7 and as the acknowledge input. -/
def watching (it : ChannelItem) (x : Channel) (l : List WarningEntry) : State :=
  { toggling .run false with
    cal := { channelCal 7 { it with hardwareGate := some 31 } with
      general := { factoryGeneral with ackInput := some 31 } }
    ccu := (withCh 7 x run).ccu
    wre := { (withRule 47 (ruleReset .active) l run).wre with tableTaken := true } }

theorem test_witness_GateAndAcknowledgeInput :
    let s := watching { total with clearOnOpen := true } { channelReset with softGate := true } [⟨47, false⟩]
    s.cal.channels[(7 : Fin 8)].hardwareGate = some 31 ∧ s.cal.channels[(7 : Fin 8)].mode.counts = true
      ∧ s.ccu.channels[(7 : Fin 8)].gateOpen = false ∧ s.ccu.channels[(7 : Fin 8)].softGate = true
      ∧ s.ccu.channels[(7 : Fin 8)].holdOff = none ∧ s.cal.general.ackInput = some 31
      ∧ (s.wre.list.find? fun x => !x.acknowledged) = some ⟨47, false⟩
      ∧ ListAgrees s.wre ∧ PlacesRefilled s.wre ∧ (∀ named, Unwatched s named) :=
  ⟨by decide, by decide, by decide, by decide, by decide, by decide, by decide, ⟨by decide, by decide, by decide⟩,
    by unfold PlacesRefilled; decide, fun _ _ => ⟨rfl, fun _ _ r h =>
      absurd h ((by decide : ∀ r : Fin 48, ¬Calibration.factory.rules[r].enabled = true) r)⟩⟩

/-- Door 0, whose open input is switch 31: it is OPENING and becomes OPEN with the latch set, or is OPEN and stays. -/
theorem test_witness_DoorOpensWithTheLatch (st : DoorState) (h : st = .opening ∨ st = .doorOpen) :
    let s := { (toggling .run true).setDoor 0 { doorReset with state := st } with
      cal := doorCal 0 { factoryDoor with present := true, openInput := some 31 } }
    s.cal.doors[(0 : Fin 4)].present = true ∧ s.cal.doors[(0 : Fin 4)].openInput = some 31
      ∧ s.drs.doors[(0 : Fin 4)].state = st
      ∧ (doorAfter s.cal.doors[(0 : Fin 4)] s.drs.doors[(0 : Fin 4)] 31 (fun n => n == 31) 5000).state
        = .doorOpen := by
  rcases h with rfl | rfl <;> unfold doorAfter rederivedDoor <;> decide +kernel

/-- Continuous claims present and absent, and every claim that STOP_DING and CAUTION_NEW find granted. -/
theorem test_witness_SummaryAndClaims :
    run.opu.power = .run ∧ (at5s .sleep).opu.power = .sleep ∧ continuousClaim run.opu = none
      ∧ continuousClaim { run.opu with summary := ⟨true, true, false, false⟩ } = some .stopAlarm
      ∧ run.opu.chime.granted = none ∧ run.opu.lampStop.mode ≠ .flashing := by
  unfold continuousClaim; decide +kernel

theorem test_summary_lights_and_sounds :
    let o := (opuSummary ⟨true, true, true, false⟩ run).opu
    o.lampStop = ⟨.flashing, true, some 5500⟩ ∧ o.lampCaution = ⟨.steady, true, none⟩
      ∧ o.chime = ⟨some .stopAlarm, 0, some 5250⟩ ∧ o.outputs.chime = true := by decide +kernel

/-- Before the replay; two held members; and 33 entries of which the first gives way. -/
theorem test_witness_HeldAndReplayed :
    let held : List HeldReport := [⟨1, some .store, 2, false⟩, ⟨2, none, 0, true⟩]
    let u := run.setFlm { run.flm with replayDone := false, held := held }
    let l := entry 33 false :: fullList
    u.flm.replayDone = false ∧ u.flm.held = [⟨1, some .store, 2, false⟩] ++ [⟨2, none, 0, true⟩]
      ∧ 32 < l.length ∧ (l.map FaultEntry.code).Nodup
      ∧ GivesWay l [] fullList (entry 33 false) (fun _ => True)
      ∧ ((flmApplyHeld u).flm.list.map fun e => (e.code, e.active, e.occurrences)) = [(1, true, 2)]
      ∧ trimReplay 33 l = fullList :=
  ⟨rfl, rfl, by decide, by decide +kernel, ⟨rfl, trivial, by decide, fun e h _ => by revert e h; decide +kernel⟩,
    by decide +kernel, by decide +kernel⟩

/-- The part with a job of a kind, its data, task, operation and origin. -/
def working (job : Job) (data : JobData) (task : FlashTask) (op : FlashOp) (origin : Fin 16) : State :=
  run.setRst { run.rst with controller := .running ⟨job, data, task, op, origin, false⟩, newestCounter := some (4, 9) }

/-- Erases within a rewrite and within a calibration write, and the markers of COUNTERS and CALIB_WRITE. -/
theorem test_witness_ErasesAndMarkersWithinAJob :
    let save := JobData.counter ⟨0, 0, Vector.replicate 4 0, 0⟩
    let image := JobData.image Calibration.factory
    (working .counterSave save .staleErase (.erase 4) 2).rst.newestCounter = some (4, 9)
      ∧ (Job.counterSave).area = .counters
      ∧ (working .counterSave save .marker (.program 5 63 []) 5).rst.controller
        = .running ⟨.counterSave, save, .marker, .program 5 63 [], 5, false⟩ ∧ 2 ≤ (5 : Fin 16).val
      ∧ (working .calibWrite image .marker (.program 0 63 []) 0).rst.blocks[(0 : Fin 16)].state ≠ .bad :=
  ⟨by decide, rfl, rfl, by decide, by decide⟩

theorem test_job_erase_is_followed_by_its_header :
    (after (.flashOperationEnd true)
      (working .counterSave (.counter ⟨0, 0, Vector.replicate 4 0, 0⟩) .staleErase (.erase 4) 2)).rst.controller
      = .running ⟨.counterSave, .counter ⟨0, 0, Vector.replicate 4 0, 0⟩, .header 1,
        .program 4 0 [1, 1, 0, 0, 0], 2, false⟩ := by decide +kernel

theorem test_failed_calibration_block_gives_way :
    let s := working .calibWrite (.image Calibration.factory) .marker (.program 0 63 []) 0
    (after (.flashOperationEnd false) (s.setRst { s.rst with
      blocks := s.rst.blocks.set 0 ⟨.bad, 0, none⟩ })).rst.blocks[(1 : Fin 16)] = ⟨.filling, 0, none⟩ := by
  decide +kernel

/-- A subscribed slot, with a queue of 32 samples. -/
def subscribed (q : List LiveSample) : State :=
  { run.setSlot 95 (validSlot .network (some 31) 7) with
    svc := { inRunService.svc with subscription := [95], liveQueue := q } }

theorem test_witness_LiveSampleIsAppended :
    let sample : LiveSample := ⟨95, 7, .valid, 0, false⟩
    let s := subscribed (List.replicate 32 sample)
    s.pwc.power ≠ .start ∧ 95 ∈ s.svc.subscription ∧ s.slots[(95 : Fin 96)].substitution = none
      ∧ s.slots[(95 : Fin 96)].liveValue ≠ 8 ∧ s.cal.general.speedSlot = none ∧ s.cal.general.brakeSlot = none
      ∧ s.svc.liveQueue = sample :: sample :: List.replicate 30 sample ∧ s.svc.liveQueue.length = 32 := by
  decide +kernel

/-- Rule 47, in RUN, refers to the slot that is released. -/
def releasing (delay : Nat) : State :=
  asked .service .releaseSubstitute [0] { seen (ruled { notValidRule with raiseDelay := delay } (ruleReset .active)
    [⟨47, false⟩]) with svc := { inRunService.svc with substituted := [0] } }

theorem test_witness_ReleaseReachesARule (delay : Nat) :
    InHand (releasing delay) .service .releaseSubstitute (request .releaseSubstitute [0])
      ∧ (releasing delay).svc.state ≠ .off ∧ (0 : Fin 96) ∈ (releasing delay).svc.substituted
      ∧ (releasing delay).pwc.power = .run ∧ ListAgrees (releasing delay).wre ∧ PlacesRefilled (releasing delay).wre
      ∧ (releasing delay).cal.rules[(47 : Fin 48)].enabled = true
      ∧ (releasing delay).cal.rules[(47 : Fin 48)].signalSlot = 0
      ∧ (releasing delay).wre.rules[(47 : Fin 48)].phase ≠ .disabled
      ∧ (releasing delay).cal.rules[(47 : Fin 48)].raiseDelay = delay
      ∧ ∃ y ∈ (releasing delay).wre.list, y.rule = 47 :=
  ⟨asked_inHand _ _ _ _ rfl, on_ne_off, List.mem_singleton.mpr rfl, rfl,
    test_listed_rule_agrees .active (.inl rfl),
    (by unfold PlacesRefilled; decide : PlacesRefilled (ruled notValidRule (ruleReset .active) [⟨47, false⟩]).wre),
    rfl, rfl, RulePhase.noConfusion, rfl, ⟨47, false⟩, List.mem_singleton.mpr rfl, rfl⟩

theorem test_release_returns_the_rule :
    (wreRelease 0 (releasing 100)).wre.rules[(47 : Fin 48)].phase = .idle
      ∧ (wreRelease 0 (releasing 100)).wre.list = [] := by decide +kernel

theorem test_witness_IgnitionOnAgesAndRestarts (rstrun : Bool) :
    let s := (ignitionFull .afterrun false).setPwc { (ignitionFull .afterrun false).pwc with rstrun := rstrun }
    s.pwc.ignitionDisagreement = 50 ∧ s.pwc.rstrun = rstrun
      ∧ (∀ r : Fin 48, s.cal.rules[r].faultCode = none) ∧ (∀ d : Fin 4, s.cal.doors[d].present = false)
      ∧ (doorKnown.cal.doors[(3 : Fin 4)].present = true) := by
  cases rstrun <;> decide +kernel

/-- The last erase, and the last append, of a store that then is idle. -/
def finishing (quiet : Bool) (c : Controller) : State :=
  { (at5s .afterrun).setPwc { (at5s .afterrun).pwc with quiet := quiet, storeIdle := false } with
    rst := { run.rst with controller := c, blocks := run.rst.blocks.set 15 ⟨.stale, 0, none⟩ } }

theorem test_witness_StoreBecomesIdle (quiet : Bool) :
    let s := finishing quiet (.erasing (.erase 15))
    s.supply = true ∧ s.pwc.storeIdle = false ∧ s.rst.queue = [] ∧ s.rst.controller = .erasing (.erase 15)
      ∧ (∀ c : Fin 16, c ≠ 15 → s.rst.blocks[c].state ≠ .stale) ∧ s.pwc.power = .afterrun ∧ s.pwc.quiet = quiet
      ∧ appending.task = .append ∧ ∀ c : Fin 16, run.rst.blocks[c].state ≠ .stale := by
  cases quiet <;> decide +kernel

theorem test_sleep_follows_the_last_erase :
    (after (.flashOperationEnd true) (finishing true (.erasing (.erase 15)))).pwc.power = .sleep
      ∧ (after (.flashOperationEnd true) (finishing false (.erasing (.erase 15)))).pwc.power = .afterrun := by
  decide +kernel

/-- A flash array whose blocks 2 and 3 hold a COUNTER record of sequence 5 each, block 3 of the later block sequence. -/
def counted : Flash :=
  let v : CounterValues := ⟨41, 7, Vector.replicate 4 0, 3⟩
  [(128, slotOf (1#8 :: bytes32 8)), (129, slotOf (counterContent 5 v)), (192, slotOf (1#8 :: bytes32 9)),
    (193, slotOf (counterContent 5 v)), (194, slotOf (counterContent 4 v))]

theorem test_witness_CountersInTheArray :
    CounterAt counted 3 1 5 ⟨41, 7, Vector.replicate 4 0, 3⟩ ∧ HeaderOf counted 3 1 9
      ∧ counted.counters.length = 3
      ∧ (newestOf counted counted.counters).map (fun x => (x.block, x.slot, x.sequence)) = some (3, 1, 5) := by
  refine ⟨⟨by decide, by decide, by decide, by decide, padded (counterContent 5 ⟨41, 7, Vector.replicate 4 0, 3⟩),
    by decide +kernel, by decide +kernel, by decide +kernel⟩,
    ⟨padded (1#8 :: bytes32 9), by decide +kernel, by decide +kernel, by decide +kernel⟩, by decide +kernel,
    by decide +kernel⟩

/-- A calibration block written in full, before the COUNTER records. -/
def imaged (image : List Byte) : Flash :=
  (0, slotOf [0, 1, 0, 0, 0])
    :: ((List.range 51).map fun k => (k + 1, slotOf (5 :: numByte k :: (image.drop (57 * k)).take 57)))
    ++ (52, slotOf [4]) :: counted

/-- A slot programmed passes its check. -/
theorem test_programmed_slot_passes (f : Flash) (b : Fin 16) (k : Nat) (bs : List Byte)
    (h : f.read (64 * b.val + k) = some (slotOf bs)) : recordAt f b k = some (padded bs) := by
  rw [recordAt, h]
  exact if_pos rfl

theorem test_imaged_reads (image : List Byte) (k : Fin 51) :
    recordAt (imaged image) 0 (k + 1) = some (padded (5 :: numByte k :: (image.drop (57 * k)).take 57)) :=
  test_programmed_slot_passes _ _ _ _ (by fin_cases k <;> rfl)

theorem test_factory_slots (k : Fin 96) : Calibration.factory.slots[k] = ⟨.unused, none⟩ := by revert k; decide

theorem test_factory_senders (k : Fin 8) : Calibration.factory.senders[k] = factorySender := by revert k; decide

theorem test_factory_points : ∀ a b : Fin 8, a < b → b.val < factorySender.pointCount.val →
    factorySender.points[a].raw < factorySender.points[b].raw := by decide

theorem test_factory_channels (k : Fin 8) : Calibration.factory.channels[k] = factoryChannel := by revert k; decide

theorem test_factory_filters (k : Fin 32) : Calibration.factory.filters[k] = factoryFilter := by revert k; decide

theorem test_factory_rules (k : Fin 48) : Calibration.factory.rules[k] = factoryRule := by revert k; decide

theorem test_factory_doors (k : Fin 4) : Calibration.factory.doors[k] = factoryDoor := by revert k; decide

theorem test_factory_meets (sec : CalibSection) (i : Nat) : MeetsConditions Calibration.factory sec i := by
  cases sec <;> simp only [MeetsConditions, test_factory_slots, test_factory_senders,
    test_factory_channels, test_factory_filters, test_factory_rules, test_factory_doors]
  · decide
  · exact fun _ _ => trivial
  · exact fun _ _ => ⟨by decide, test_factory_points, nofun⟩
  · exact fun k _ => ⟨nofun, fun _ => nofun, fun h => absurd rfl h⟩
  · exact fun _ _ => ⟨nofun, by decide, fun _ => by decide, nofun⟩
  · exact fun _ _ => nofun
  · exact fun _ _ => nofun

/-- The parts of an image, as its records hold them, joined again. -/
def joined (image : List Byte) : List Byte :=
  ((List.range 51).flatMap fun k =>
    ((padded (5 :: numByte k :: (image.drop (57 * k)).take 57)).drop 2).take 57).take 2872

theorem test_factory_parts :
    Calibration.ofImage (joined Calibration.factory.image) = some Calibration.factory := by decide +kernel

theorem test_part_numbers : ∀ k : Fin 51, (numByte k).toNat = k := by decide +kernel

theorem test_image_stands (image : List Byte) (c : Calibration) (h : Calibration.ofImage (joined image) = some c)
    (valid : ∀ sec i, MeetsConditions c sec i) : ImageIn (imaged image) 0 c :=
  ⟨⟨1, padded [0, 1, 0, 0, 0], test_programmed_slot_passes _ _ _ _ rfl, by decide +kernel, by decide +kernel⟩,
    ⟨padded [4], test_programmed_slot_passes _ _ _ _ rfl, by decide +kernel⟩,
    ⟨_, fun k h => ⟨_, test_imaged_reads _ ⟨k, h⟩, rfl, test_part_numbers ⟨k, h⟩, rfl⟩, h⟩,
    fun sec i _ => valid sec i⟩

theorem test_witness_ImageInTheArray : ImageIn (imaged Calibration.factory.image) 0 Calibration.factory :=
  test_image_stands _ _ test_factory_parts test_factory_meets

/-- A START that reports nothing: calibration and COUNTER record found, no area READ_ONLY. -/
theorem test_witness_QuietStart :
    let t := { run with calLoaded := true }
    (∃ b k n v, CounterAt counted b k n v) ∧ t.rst.readOnly = ⟨false, false, false⟩
      ∧ (∀ r : Fin 48, t.cal.rules[r].faultCode = none) ∧ (∀ d : Fin 4, t.cal.doors[d].present = false) :=
  ⟨⟨3, 1, 5, _, test_witness_CountersInTheArray.1⟩, by decide, by decide, by decide⟩

end Sys2Proof.Tests
end

section
/-! SUPPORT. Requests carried out for a port, and what a change of slots leaves of the state, in the words of the
statements. -/

namespace Sys2Proof.Machine

open Sys2Proof.Claims

/-! ## Requests in hand -/

theorem act_supplied {s : State} (h : s.supply = true) (f : State → State) : act s f = .next (f s) := by
  simp [act, h]

theorem carryOut_inHand {s : State} {p : Port} {k : RequestKind} {r : Request} {work : List Byte → State → Reply}
    (h : InHand s p k r) : carryOut k p work s = handBack p r (work r.payload s) := by
  obtain ⟨-, working, code⟩ := h
  exact carryOut_eq working code

theorem supply_of_inHand {s : State} {p : Port} {k : RequestKind} {r : Request} (h : InHand s p k r) :
    s.supply = true := h.1

theorem handBack_reply (s : State) (p : Port) (r : Request) (result : Result) (payload : List Byte) :
    handBack p r ⟨s, result, payload⟩ = answering s p r result payload := rfl

theorem handBack_refuse (s : State) (p : Port) (r : Request) (result : Result) :
    handBack p r (refuse s result) = answering s p r result [] := rfl

theorem handBack_accept (s : State) (p : Port) (r : Request) (payload : List Byte) :
    handBack p r (accept s payload) = answering s p r .ok payload := rfl

/-- A service request that is no confirmation works on the state without a pending confirmation (R183). -/
theorem serviceRequest_inHand {s : State} {k : RequestKind} {r : Request} {work : List Byte → State → Reply}
    (h : InHand s .service k r) :
    serviceRequest k work s = handBack .service r (work r.payload (unconfirmed s)) := carryOut_inHand h

/-- In service the work of a request is done (R174). -/
theorem inService_on {s : State} (h : s.svc.state ≠ .off) (work : List Byte → State → Reply) (bs : List Byte) :
    inService work bs s = work bs s := if_neg h

theorem flags_added (x f : Notices) : (x ||| f) &&& f = f := by
  ext k hk
  simp only [BitVec.getElem_and, BitVec.getElem_or]
  cases x[k] <;> cases f[k] <;> rfl

/-- The port gets the answer; every other port, and whatever the work left of the port, stands. -/
theorem answering_answered {s u : State} (h : SamePorts s u) (p : Port) (r : Request) (result : Result)
    (payload : List Byte) : Answered s (answering u p r result payload) p r result payload := by
  have hp := State.port_setPort_same u p { u.port p with
    state := .ready ⟨r.tag, result, payload⟩, flags := (u.port p).flags ||| flagAnswer }
  refine ⟨?_, ?_, fun q hq => ?_⟩
  · rw [answering, hp, h p]
  · rw [answering, hp]
    exact flags_added _ _
  · rw [answering, State.port_setPort_ne _ hq]
    exact h q

/-! ## Arguments of a request -/

theorem toIndex_val {n : Nat} (i : Fin n) : toIndex n i.val = some i := by simp [toIndex]

theorem toIndex_eq_none {n k : Nat} (h : n ≤ k) : toIndex n k = none := by
  simp [toIndex]; omega

theorem numByte_toNat {n : Nat} (h : n < 256) : (numByte n).toNat = n := by
  simp [numByte]; omega

theorem indexArgs_map {n : Nat} (hn : n ≤ 256) (is : List (Fin n)) :
    indexArgs n (is.map fun i => numByte i.val) = some is := by
  unfold indexArgs
  induction is with
  | nil => rfl
  | cons i is ih =>
    rw [List.map_cons, List.mapM_cons, ih, numByte_toNat (by omega), toIndex_val]
    rfl

theorem indexArgs_eq_none {n : Nat} {bs : List Byte} (h : ∃ b ∈ bs, n ≤ b.toNat) : indexArgs n bs = none := by
  obtain ⟨b, hb, hn⟩ := h
  unfold indexArgs
  induction bs with
  | nil => simp at hb
  | cons c bs ih =>
    rw [List.mapM_cons]
    rcases List.mem_cons.mp hb with rfl | hb
    · rw [toIndex_eq_none hn]; rfl
    · rw [ih hb]
      cases toIndex n c.toNat <;> rfl

theorem indexArgs_length {n : Nat} {bs : List Byte} {is : List (Fin n)} (h : indexArgs n bs = some is) :
    is.length = bs.length := by
  unfold indexArgs at h
  induction bs generalizing is with
  | nil => simp at h; subst h; rfl
  | cons c bs ih =>
    rw [List.mapM_cons] at h
    cases hc : toIndex n c.toNat with
    | none => rw [hc] at h; simp at h
    | some i =>
      cases hr : bs.mapM fun b => toIndex n b.toNat with
      | none => rw [hc, hr] at h; simp at h
      | some is' =>
        rw [hc, hr] at h
        simp at h
        subst h
        simp [ih hr]

theorem indexArg_zero {n : Nat} (hn : n ≤ 256) (i : Fin n) (rest : List Byte) :
    indexArg n (numByte i.val :: rest) 0 = some i := by
  simp [indexArg, numByte_toNat (show i.val < 256 by omega), toIndex_val]

theorem indexArg_zero_eq_none {n : Nat} {bs : List Byte}
    (h : bs = [] ∨ ∃ b rest, bs = b :: rest ∧ n ≤ b.toNat) : indexArg n bs 0 = none := by
  rcases h with rfl | ⟨b, rest, rfl, hb⟩
  · rfl
  · exact toIndex_eq_none hb

/-! ## Frames of the state, from the part outside the signals -/

theorem sameBase_of_outside {s t : State} (h : t.outsideSignals = s.outsideSignals) : SameBase s t :=
  ⟨(congrArg State.cal h :), (congrArg State.calLoaded h :), (congrArg State.pins h :), (congrArg State.supply h :),
    (congrArg State.pending h :)⟩

theorem sameStore_of_outside {s t : State} (h : t.outsideSignals = s.outsideSignals) : SameStore s t :=
  (congrArg (fun u : State => { u.rst with queue := t.rst.queue }) h :)

theorem samePower_of_outside {s t : State} (h : t.outsideSignals = s.outsideSignals) : SamePower s t :=
  (congrArg (fun u : State => { u.pwc with storeIdle := t.pwc.storeIdle }) h :)

theorem sameButFlags_of_unflagged {x y : PortRecord} (h : y.unflagged = x.unflagged) : SameButFlags x y :=
  (congrArg (fun z : PortRecord => { z with flags := y.flags }) h :)

theorem samePorts_of_unflagged {s t : State} (h : t.ptu.unflagged = s.ptu.unflagged) : SamePorts s t := by
  intro p
  refine sameButFlags_of_unflagged ?_
  cases p
  · exact (congrArg Ptu.cluster h :)
  · exact (congrArg Ptu.body h :)
  · exact (congrArg Ptu.service h :)

theorem samePorts_of_outside {s t : State} (h : t.outsideSignals = s.outsideSignals) : SamePorts s t :=
  samePorts_of_unflagged (congrArg State.ptu h :)

theorem signalFrame_of_outside {s t : State} (h : t.outsideSignals = s.outsideSignals) : SignalFrame s t :=
  ⟨sameBase_of_outside h, sameStore_of_outside h, samePower_of_outside h, (congrArg State.switches h :),
    (congrArg State.senders h :), (congrArg State.ccu h :), (congrArg State.drs h :)⟩

theorem uptime_of_outside {s t : State} (h : t.outsideSignals = s.outsideSignals) :
    t.pwc.uptime = s.pwc.uptime := (congrArg (fun u : State => u.pwc.uptime) h :)

end Sys2Proof.Machine

open Sys2Proof Sys2Proof.Machine Sys2Proof.Claims in
/-- Settles O23: the payload is decoded to indices, or to none where a number is out of range. -/
theorem readSignalsAnswersTheRecords : Obligations.ReadSignalsAnswersTheRecords := by
  intro s p r h
  have run : exec (.readSignals p) s = .next (handBack p r (readSignalsWork r.payload s)) := by
    rw [← carryOut_inHand h]
    exact act_supplied (supply_of_inHand h) _
  rw [run]
  refine ⟨fun bad => ?_, fun is nonempty short payload => ?_⟩
  · have refused : readSignalsWork r.payload s = refuse s .badArgument := by
      unfold readSignalsWork
      split
      · rfl
      · next is decoded =>
        have length := indexArgs_length decoded
        rcases bad with empty | long | outOfRange
        · simp_all
        · simp [length, long]
        · rw [indexArgs_eq_none outOfRange] at decoded
          simp at decoded
    rw [refused, handBack_refuse]
  · have answered : readSignalsWork r.payload s
        = accept s (numByte (is.take 8).length :: (is.take 8).flatMap (signalRecord s)) := by
      unfold readSignalsWork
      rw [payload, indexArgs_map (by omega)]
      simp [nonempty, short]
    rw [answered, handBack_accept, List.length_take, Nat.min_comm]
    congr 4
    funext i
    unfold signalRecord
    by_cases unbound : s.slots[i].kind = .unused
    · simp only [unbound, Slot.bound, bne_self_eq_false, Bool.false_eq_true, if_false, if_true]
      decide
    · simp only [unbound, Slot.bound, bne_iff_ne, ne_eq, not_false_eq_true, if_true, if_false]
      unfold Slot.visibleValue Slot.visibleStatus Slot.age elapsed
      congr 3
      cases s.slots[i].substitution with
      | some v => rfl
      | none => cases s.slots[i].liveStatus <;> rfl
end

section
/-! SUPPORT. What a change of slots makes of the slots themselves, and what an event at WRE leaves of OPU. -/

namespace Sys2Proof.Machine

open Sys2Proof.Claims

/-! ## What a part outside keeps -/

theorem slots_of_outsideWarnings {s t : State} (h : t.outsideWarnings = s.outsideWarnings) :
    t.slots = s.slots := (congrArg State.slots h :)

theorem svc_of_outsideWarnings {s t : State} (h : t.outsideWarnings = s.outsideWarnings) :
    t.svc = s.svc := (congrArg State.svc h :)

/-! ## The slots without their substitutions -/

/-- A slot as its source left it: its contents without the substitution. -/
def State.source (s : State) (j : Fin 96) : Slot := s.slots[j].released

theorem State.source_setSlot (s : State) (i : Fin 96) (x : Slot) :
    (s.setSlot i x).source = Function.update s.source i x.released := by
  funext j
  unfold State.source
  by_cases h : j = i
  · subst h
    simp [State.setSlot]
  · rw [Function.update_of_ne h, State.setSlot_slots, Fin.getElem_fin, Fin.getElem_fin,
      Vector.getElem_set_ne _ _ (fun e => h (Fin.ext e.symm))]

/-- The release of a slot leaves what its source left. -/
theorem State.source_release (s : State) (i : Fin 96) : (s.setSlot i s.slots[i].released).source = s.source := by
  rw [State.source_setSlot]
  exact Function.update_eq_self i s.source

theorem State.source_of_slots {s t : State} (h : t.slots = s.slots) : t.source = s.source := by
  unfold State.source; rw [h]

/-! ## The receivers of a change -/

theorem svcSample_slots (i : Fin 96) (v : Value) (st : Status) (s : State) :
    (svcSample i v st s).slots = s.slots := by
  unfold svcSample
  split
  · dsimp only
    split <;> rfl
  · rfl

theorem visibleReceivers_slots {i : Fin 96} {x : Slot} {u : State} :
    ∀ d ∈ visibleReceivers i x u, ∀ s, (d s).slots = s.slots := by
  intro d hd s
  unfold visibleReceivers at hd
  rcases List.mem_append.mp hd with hd | hd
  · split at hd
    · obtain ⟨r, -, rfl⟩ := List.mem_map.mp hd
      exact slots_of_outsideWarnings (wreEvaluate_outside r s)
    · simp at hd
  · split at hd
    · rw [List.mem_singleton.mp hd]
      exact svcSample_slots _ _ _ s
    · simp at hd

theorem releases_source (l : List (Fin 96)) (s : State) :
    (l.foldl (fun t i => t.setSlot i t.slots[i].released) s).source = s.source :=
  foldl_keeps State.source (f := fun t i => t.setSlot i t.slots[i].released)
    (fun i _ t => State.source_release t i) s

/-- Service mode exit releases slots, and leaves what their sources left (R177). -/
theorem svcExit_source (s : State) : (svcExit s).source = s.source := by
  unfold svcExit
  dsimp only
  refine (deliverAll_keeps State.source (fun _ => rfl) ?_ _).trans ?_
  · intro d hd t
    obtain ⟨i, -, rfl⟩ := List.mem_map.mp hd
    exact State.source_of_slots (slots_of_outsideWarnings (wreRelease_outside i t))
  · refine (State.source_of_slots rfl).trans ((releases_source _ _).trans (State.source_of_slots ?_))
    split <;> rfl

theorem svcLiveChange_source (i : Fin 96) (v : Value) (st : LiveStatus) (s : State) :
    (svcLiveChange i v st s).source = s.source := by
  unfold svcLiveChange
  split
  · exact svcExit_source s
  · rfl

theorem liveReceivers_source {i : Fin 96} {x : Slot} {u : State} :
    ∀ d ∈ liveReceivers i x u, ∀ s, (d s).source = s.source := by
  intro d hd s
  unfold liveReceivers at hd
  split at hd
  · rw [List.mem_singleton.mp hd]
    exact svcLiveChange_source _ _ _ s
  · simp at hd

/-- The receivers of a change of a slot, in one list. -/
theorem changeEvents_receivers (i : Fin 96) (old x : Slot) (s : State) :
    ∃ (ds : List Delivery) (u : State), changeEvents i old x s = deliverAll ds u
      ∧ u.slots = s.slots
      ∧ ∀ d ∈ ds, (d ∈ visibleReceivers i x u) ∨ (old.liveDiffers x = true ∧ d ∈ liveReceivers i x u) := by
  refine ⟨_, _, rfl, ?_, ?_⟩
  · have live (u : State) : (opuLiveChange i x.liveValue x.liveStatus u).slots = u.slots :=
      slots_of_outsideWarnings (opuLiveChange_outside i x.liveValue x.liveStatus u)
    split <;> split <;> simp [live]
  · intro d hd
    rcases List.mem_append.mp hd with hd | hd
    · split at hd
      · exact .inl hd
      · simp at hd
    · split at hd
      · next differs =>
        rw [if_pos differs]
        exact .inr ⟨differs, hd⟩
      · simp at hd

theorem changeEvents_source (i : Fin 96) (old x : Slot) (s : State) :
    (changeEvents i old x s).source = s.source := by
  obtain ⟨ds, u, changes, same, receivers⟩ := changeEvents_receivers i old x s
  rw [changes]
  refine (deliverAll_keeps State.source (fun _ => rfl) ?_ u).trans (State.source_of_slots same)
  intro d hd t
  rcases receivers d hd with visible | ⟨-, live⟩
  · exact State.source_of_slots (visibleReceivers_slots d visible t)
  · exact liveReceivers_source d live t

/-- A change that does not end service mode leaves the slots as they are. -/
theorem changeEvents_slots {i : Fin 96} {old x : Slot} {s : State}
    (h : old.liveDiffers x = false ∨ x.liveStatus ≠ .valid) : (changeEvents i old x s).slots = s.slots := by
  obtain ⟨ds, u, changes, same, receivers⟩ := changeEvents_receivers i old x s
  rw [changes]
  refine (deliverAll_keeps State.slots (fun _ => rfl) ?_ u).trans same
  intro d hd t
  rcases receivers d hd with visible | ⟨differs, live⟩
  · exact visibleReceivers_slots d visible t
  · rcases h with same | invalid
    · simp [same] at differs
    · simp [liveReceivers, State.endsService, invalid] at live

/-! ## A slot given new contents -/

/-- The slot takes the contents, and what the other sources left stands. -/
theorem sgtAlter_source (i : Fin 96) (x : Slot) (s : State) :
    (sgtAlter i x s).source = Function.update s.source i x.released := by
  unfold sgtAlter
  split
  · exact State.source_setSlot s i x
  · exact (changeEvents_source i _ x _).trans (State.source_setSlot s i x)

theorem sgtAlter_slots {i : Fin 96} {x : Slot} {s : State}
    (h : s.slots[i].liveDiffers x = false ∨ x.liveStatus ≠ .valid) :
    (sgtAlter i x s).slots = s.slots.set i x := by
  unfold sgtAlter
  split
  · rfl
  · exact changeEvents_slots h

theorem Slot.released_updated (x : Slot) (st : LiveStatus) (v : Value) (stamp now : Time) :
    (x.updated st v stamp now).released = x.released.updated st v stamp now := rfl

/-- An update reaches its slot and no other (R5). -/
theorem sgtUpdate_source (i : Fin 96) (st : LiveStatus) (v : Value) (s : State) :
    (sgtUpdate i st v s).source
      = Function.update s.source i ((s.source i).updated st v s.pwc.uptime s.pwc.uptime) :=
  sgtAlter_source i _ s

theorem sgtUpdate_outside (i : Fin 96) (st : LiveStatus) (v : Value) (s : State) :
    (sgtUpdate i st v s).outsideSignals = s.outsideSignals := sgtAlter_outside i _ s

/-! ## What an event at WRE leaves of OPU -/

/-- OPU without what it shows of warnings: lamps, chime and outputs. -/
def Opu.unlit (o : Opu) : Opu :=
  { o with lampStop := lampReset, lampCaution := lampReset, chime := chimeReset, outputs := outputsReset }

/-- The arbiter decides the chime alone (R104). -/
theorem Opu.regrant_unlit (o : Opu) (now : Time) : (o.regrant now).unlit = o.unlit := by
  unfold Opu.regrant
  split
  · split <;> rfl
  · split
    · split <;> rfl
    · rfl

/-- Lamps and chime decided again: nothing else changes (R101, R104). -/
theorem Opu.redecide_unlit (o : Opu) (now : Time) : (o.redecide now).unlit = o.unlit := by
  unfold Opu.redecide
  split
  · exact Opu.regrant_unlit _ now
  · rfl

/-- A once claim reaches the chime alone (R104). -/
theorem Opu.onceClaim_unlit (o : Opu) (claim : Claim) (now : Time) : (o.onceClaim claim now).unlit = o.unlit := by
  unfold Opu.onceClaim
  split
  · split
    · rfl
    · split <;> rfl
  · rfl

theorem opuSummary_unlit (sm : Summary) (s : State) :
    (opuSummary sm s).opu.unlit = { s.opu.unlit with summary := sm } :=
  Opu.redecide_unlit { s.opu with summary := sm } s.now

theorem opuCautionNew_unlit (s : State) : (opuCautionNew s).opu.unlit = s.opu.unlit :=
  Opu.onceClaim_unlit s.opu .cautionNew s.now

/-- An event at WRE keeps what the replacing of its state, its two handings and the reports keep. -/
theorem wreFinish_induct {P : State → Prop} (draw : ∀ s, P s → P s.drawn)
    (summary : ∀ sm s, P s → P (opuSummary sm s)) (caution : ∀ s, P s → P (opuCautionNew s))
    (notice : ∀ f s, P s → P (s.notice f)) (report : ∀ r s, P s → P (flmReport r s)) {e : WreEvent} {s : State}
    (hs : P (s.setWre e.wre)) : P (wreFinish e s) := by
  unfold wreFinish
  refine foldl_induct (fun r _ t ht => report r t ht) ?_
  split
  · refine deliverAll_induct draw ?_ (notice _ _ hs)
    intro d hm t ht
    unfold wreHandings at hm
    rcases List.mem_cons.mp hm with rfl | hm
    · exact summary _ t ht
    · split at hm
      · rw [List.mem_singleton.mp hm]
        exact caution t ht
      · simp at hm
  · exact hs

/-- OPU without what an event at WRE alters: the summary besides. -/
def Opu.outsideWarnings (o : Opu) : Opu := { o.unlit with summary := summaryReset }

theorem Opu.outsideWarnings_of {o p : Opu} (h : o.unlit = p.unlit) : o.outsideWarnings = p.outsideWarnings := by
  unfold Opu.outsideWarnings; rw [h]

theorem opu_of_outsideFaults {s t : State} (h : t.outsideFaults = s.outsideFaults) : t.opu = s.opu :=
  (congrArg State.opu h :)

theorem wreFinish_opu (e : WreEvent) (s : State) :
    (wreFinish e s).opu.outsideWarnings = s.opu.outsideWarnings := by
  refine wreFinish_induct (P := fun t => t.opu.outsideWarnings = s.opu.outsideWarnings) (fun _ h => h)
    ?_ ?_ (fun _ _ h => h) ?_ rfl
  · intro sm t h
    rw [← h, Opu.outsideWarnings, opuSummary_unlit]
    rfl
  · intro t h
    rw [← h]
    exact Opu.outsideWarnings_of (opuCautionNew_unlit t)
  · intro r t h
    rw [opu_of_outsideFaults (flmReport_outside r t)]
    exact h

theorem wreEvaluate_opu (r : Fin 48) (s : State) :
    (wreEvaluate r s).opu.outsideWarnings = s.opu.outsideWarnings := by
  unfold wreEvaluate
  split
  · exact wreFinish_opu _ s
  · rfl

theorem wreRelease_opu (i : Fin 96) (s : State) :
    (wreRelease i s).opu.outsideWarnings = s.opu.outsideWarnings := by
  unfold wreRelease
  split
  · exact wreFinish_opu _ s
  · rfl

theorem svcSample_opu (i : Fin 96) (v : Value) (st : Status) (s : State) : (svcSample i v st s).opu = s.opu := by
  unfold svcSample
  split
  · dsimp only
    split <;> rfl
  · rfl

theorem visibleReceivers_opu {i : Fin 96} {x : Slot} {u : State} :
    ∀ d ∈ visibleReceivers i x u, ∀ s, (d s).opu.outsideWarnings = s.opu.outsideWarnings := by
  intro d hd s
  unfold visibleReceivers at hd
  rcases List.mem_append.mp hd with hd | hd
  · split at hd
    · obtain ⟨r, -, rfl⟩ := List.mem_map.mp hd
      exact wreEvaluate_opu r s
    · simp at hd
  · split at hd
    · rw [List.mem_singleton.mp hd, svcSample_opu]
    · simp at hd

/-- OPU decides before any other receiver of a change that is not VALID is told. -/
theorem changeEvents_opu {i : Fin 96} {old x : Slot} {s : State} (invalid : x.liveStatus ≠ .valid)
    (differs : old.liveDiffers x = true) : ∃ u : State, u.pwc = s.pwc ∧ u.cal = s.cal ∧ u.opu = s.opu
      ∧ (changeEvents i old x s).opu.outsideWarnings
        = (opuLiveChange i x.liveValue x.liveStatus u).opu.outsideWarnings := by
  refine ⟨if entersFailure old.liveStatus x.liveStatus then s.notice flagSignal else s, ?_, ?_, ?_, ?_⟩
  · split <;> rfl
  · split <;> rfl
  · split <;> rfl
  · unfold changeEvents
    simp only [differs, if_true]
    refine deliverAll_keeps (fun t => t.opu.outsideWarnings) (fun _ => rfl) ?_ _
    intro d hd t
    rcases List.mem_append.mp hd with hd | hd
    · split at hd
      · exact visibleReceivers_opu d hd t
      · simp at hd
    · simp [liveReceivers, State.endsService, invalid] at hd

/-- A slot that enters STALE or OUT_OF_RANGE sets the SIGNAL notice on all ports (R8). -/
theorem changeEvents_notice {i : Fin 96} {old x : Slot} {s : State}
    (enters : entersFailure old.liveStatus x.liveStatus = true) :
    NoticeOnAll flagSignal (changeEvents i old x s) := by
  intro p
  have closed := holdsFlags_closed p flagSignal
  have noticed : holdsFlags p flagSignal (s.notice flagSignal) := by
    unfold holdsFlags
    rw [State.port_notice]
    exact flags_added _ _
  show holdsFlags p flagSignal _
  unfold changeEvents
  simp only [enters, if_true]
  refine deliverAll_induct closed.drawn ?_ ?_
  · intro d hd t ht
    rcases List.mem_append.mp hd with hd | hd
    · split at hd
      · exact closed.visible d hd t ht
      · simp at hd
    · split at hd
      · exact closed.live d hd t ht
      · simp at hd
  · split
    · exact closed.liveOpu noticed
    · exact noticed

/-- The loss of the speed while OPEN_ENABLE tracks it: its state is held, and the fallback timer starts (R108). -/
theorem opuLiveChange_loss {i : Fin 96} {v : Value} {st : LiveStatus} {s : State} (invalid : st ≠ .valid)
    (speed : s.cal.general.speedSlot = some i) (power : s.opu.power = .run ∨ s.opu.power = .afterrun)
    (tracking : s.opu.regime = .tracking) :
    let o := (opuLiveChange i v st s).opu
    o.regime = .holding ∧ o.fallback = startTimer s.pwc.uptime 2000 ∧ o.openEnable = s.opu.openEnable := by
  have deciding : s.opu.deciding = true := by
    rcases power with run | afterrun <;> simp [Opu.deciding, *]
  have loses (o : Opu) (decides : o.deciding = s.opu.deciding) (configured : o.speed.configured = true)
      (lost : o.speed.status = st) (regime : o.regime = s.opu.regime) :
      let p := (o.decideOpen s.now).settle
      p.regime = .holding ∧ p.fallback = startTimer s.pwc.uptime 2000 ∧ p.openEnable = o.openEnable := by
    simp [Opu.decideOpen, decides, deciding, configured, lost, invalid, regime, tracking, Opu.settle]
  unfold opuLiveChange
  simp only [speed, beq_self_eq_true, Bool.true_or, if_true]
  unfold State.opuEvent State.onOpu
  dsimp only
  by_cases brake : (s.cal.general.brakeSlot == some i) = true
  · rw [if_pos brake]
    exact loses _ rfl rfl rfl rfl
  · rw [if_neg brake]
    exact loses _ rfl rfl rfl rfl

/-- Contents that differ in nothing visible or live raise no event (R6). -/
theorem changeEvents_same {i : Fin 96} {old x : Slot} {s : State} (live : old.liveDiffers x = false)
    (visible : old.visibleDiffers x = false) : changeEvents i old x s = s := by
  have status : entersFailure old.liveStatus x.liveStatus = false := by
    simp_all [Slot.liveDiffers, entersFailure]
  simp [changeEvents, live, visible, status, deliverAll_nil]

theorem Slot.liveDiffers_timer (x : Slot) (t : Timer) : x.liveDiffers { x with refreshTimer := t } = false := by
  simp [Slot.liveDiffers]

theorem Slot.visibleDiffers_timer (x : Slot) (t : Timer) : x.visibleDiffers { x with refreshTimer := t } = false := by
  simp [Slot.visibleDiffers, Slot.visibleValue, Slot.visibleStatus]

theorem Slot.expired_of_valid {x : Slot} (h : x.liveStatus = .valid) : x.expired.liveStatus = .stale := if_pos h

theorem Slot.expired_of_not_valid {x : Slot} (h : x.liveStatus ≠ .valid) :
    x.expired = { x with refreshTimer := none } := by
  unfold Slot.expired; rw [if_neg h]

end Sys2Proof.Machine

open Sys2Proof Sys2Proof.Machine Sys2Proof.Claims in
/-- Settles O27: a slot that is not VALID makes no change event, and a VALID one that turns STALE ends no service
mode and is decided on at OPU before WRE and SVC are told. -/
theorem refreshExpiryMakesAValidSlotStale : Obligations.RefreshExpiryMakesAValidSlotStale := by
  intro s i supply due
  have run : exec (.refreshTimerExpiry i) s = .next (sgtAlter i s.slots[i].expired s) := by
    rw [show exec (.refreshTimerExpiry i) s = act s (refreshExpiry i) from rfl, act_supplied supply,
      refreshExpiry, State.now_eq, if_pos due]
  have outside := sgtAlter_outside i s.slots[i].expired s
  refine ⟨_, run, ?_, ?_, ?_, ?_, signalFrame_of_outside outside, samePorts_of_outside outside⟩
  · refine sgtAlter_slots ?_
    by_cases valid : s.slots[i].liveStatus = .valid
    · exact .inr (by rw [Slot.expired_of_valid valid]; decide)
    · exact .inl (by rw [Slot.expired_of_not_valid valid]; exact Slot.liveDiffers_timer _ _)
  · intro valid started p
    rw [sgtAlter, if_neg started]
    exact changeEvents_notice (by rw [Slot.expired_of_valid valid, valid]; rfl) p
  · intro valid started speed power tracking
    rw [sgtAlter, if_neg started]
    have stale := Slot.expired_of_valid valid
    have invalid : s.slots[i].expired.liveStatus ≠ .valid := by rw [stale]; decide
    have differs : s.slots[i].liveDiffers s.slots[i].expired = true := by
      unfold Slot.liveDiffers
      rw [stale, valid]
      exact Bool.or_true _
    obtain ⟨u, sameTime, sameCal, sameOpu, told⟩ :=
      changeEvents_opu (i := i) (s := s.setSlot i s.slots[i].expired) invalid differs
    obtain ⟨regime, fallback, openEnable⟩ := opuLiveChange_loss (v := s.slots[i].expired.liveValue) (s := u) invalid
      (by rw [sameCal]; exact speed) (by rw [sameOpu]; exact power) (by rw [sameOpu]; exact tracking)
    refine ⟨(congrArg Opu.regime told :).trans regime, (congrArg Opu.fallback told :).trans ?_,
      (congrArg Opu.openEnable told :).trans ?_⟩
    · exact fallback.trans (by rw [sameTime]; rfl)
    · exact openEnable.trans (by rw [sameOpu]; rfl)
  · intro invalid
    have same : sgtAlter i s.slots[i].expired s = s.setSlot i s.slots[i].expired := by
      unfold sgtAlter
      split
      · rfl
      · rw [Slot.expired_of_not_valid invalid]
        exact changeEvents_same (Slot.liveDiffers_timer _ _) (Slot.visibleDiffers_timer _ _)
    rw [same]
    rfl
end

section
/-! SUPPORT. The Network Intake (chapter 4): the updates of a request one after another at the slots, the frames it
matches, and the payloads it refuses. -/

namespace Sys2Proof.Machine

open Sys2Proof.Claims

/-! ## The updates of a request at the slots -/

/-- A slot without what an update of its source alters: contents, update time, and a refresh timer that starts. -/
def Slot.unsourced (x : Slot) : Slot :=
  { x with
    liveStatus := .notAvailable, liveValue := 0, updateTime := 0
    refreshTimer := if x.kind = .network ∧ x.refreshTimeout ≠ 0 then none else x.refreshTimer }

theorem Slot.updated_unsourced (x : Slot) (st : LiveStatus) (v : Value) (stamp now : Time) :
    (x.updated st v stamp now).unsourced = x.unsourced := by
  unfold Slot.unsourced Slot.updated
  dsimp only
  split <;> rfl

/-- Two slots alike but for earlier updates give the same refresh timer at the next (R9). -/
theorem Slot.updated_refreshTimer {x y : Slot} (h : y.unsourced = x.unsourced) (st : LiveStatus) (v : Value)
    (stamp now : Time) : (y.updated st v stamp now).refreshTimer
      = if x.kind = .network ∧ x.refreshTimeout ≠ 0 then startTimer now x.refreshTimeout else x.refreshTimer := by
  have kind : y.kind = x.kind := (congrArg Slot.kind h :)
  have timeout : y.refreshTimeout = x.refreshTimeout := (congrArg Slot.refreshTimeout h :)
  have timer := congrArg Slot.refreshTimer h
  unfold Slot.unsourced at timer
  unfold Slot.updated
  dsimp only at timer ⊢
  rw [kind, timeout] at timer ⊢
  split
  · rfl
  · next still =>
    rw [if_neg still, if_neg still] at timer
    exact timer

theorem NetUpdate.deliver_source (u : NetUpdate) (s : State) :
    (u.deliver s).source
      = Function.update s.source u.slot ((s.source u.slot).updated u.status u.value s.pwc.uptime s.pwc.uptime) :=
  sgtUpdate_source u.slot u.status u.value s

theorem netUpdates_outside (us : List NetUpdate) (s : State) :
    (deliverInOrder (us.map NetUpdate.deliver) s).outsideSignals = s.outsideSignals :=
  (signals_closed _).netUpdates rfl

/-- A slot that no update names keeps what its source left. -/
theorem netUpdates_source_ne {us : List NetUpdate} {j : Fin 96} (h : ∀ u ∈ us, u.slot ≠ j) (s : State) :
    (deliverInOrder (us.map NetUpdate.deliver) s).source j = s.source j := by
  refine deliverInOrder_keeps (fun t => t.source j) ?_ s
  intro d hd t
  obtain ⟨u, hu, rfl⟩ := List.mem_map.mp hd
  rw [u.deliver_source, Function.update_of_ne (h u hu).symm]

theorem netUpdates_unsourced (us : List NetUpdate) (j : Fin 96) (s : State) :
    ((deliverInOrder (us.map NetUpdate.deliver) s).source j).unsourced = (s.source j).unsourced := by
  refine deliverInOrder_keeps (fun t => (t.source j).unsourced) ?_ s
  intro d hd t
  obtain ⟨u, -, rfl⟩ := List.mem_map.mp hd
  rw [u.deliver_source]
  by_cases h : j = u.slot
  · subst h
    rw [Function.update_self, Slot.updated_unsourced]
  · rw [Function.update_of_ne h]

/-- The last update of a slot decides its contents. -/
theorem netUpdates_source_last (pre post : List NetUpdate) (u : NetUpdate) (last : ∀ v ∈ post, v.slot ≠ u.slot)
    (s : State) : ∃ y : Slot, y.unsourced = (s.source u.slot).unsourced
      ∧ (deliverInOrder ((pre ++ u :: post).map NetUpdate.deliver) s).source u.slot
        = y.updated u.status u.value s.pwc.uptime s.pwc.uptime := by
  have split : deliverInOrder ((pre ++ u :: post).map NetUpdate.deliver) s
      = deliverInOrder (post.map NetUpdate.deliver)
          (u.deliver (deliverInOrder (pre.map NetUpdate.deliver) s)) := by
    unfold deliverInOrder
    rw [List.map_append, List.foldl_append]
    rfl
  refine ⟨(deliverInOrder (pre.map NetUpdate.deliver) s).source u.slot, netUpdates_unsourced pre u.slot s, ?_⟩
  rw [split, netUpdates_source_ne last, u.deliver_source, Function.update_self,
    uptime_of_outside (netUpdates_outside pre s)]

/-! ## The frames that match -/

theorem matching_isEmpty (c : Calibration) (f : NetFrame) :
    (!(matching c f).isEmpty) = (List.finRange 32).any fun e : Fin 32 => c.filters[e].takes f := by
  rw [Bool.eq_iff_iff]
  simp only [matching, Bool.not_eq_true', List.isEmpty_eq_false_iff_exists_mem, List.mem_filter, List.any_eq_true,
    List.mem_finRange, true_and, Vector.mem_toList_iff]
  constructor
  · rintro ⟨e, member, takes⟩
    obtain ⟨k, hk, rfl⟩ := Vector.getElem_of_mem member
    exact ⟨⟨k, hk⟩, takes⟩
  · rintro ⟨e, takes⟩
    exact ⟨_, Vector.getElem_mem e.isLt, takes⟩

theorem matchedCount_eq (c : Calibration) (fs : List NetFrame) :
    matchedCount c fs = fs.countP fun f => (List.finRange 32).any fun e : Fin 32 => c.filters[e].takes f := by
  unfold matchedCount
  rw [← List.countP_eq_length_filter]
  exact List.countP_congr fun f _ => by rw [matching_isEmpty]

/-! ## Frames of a payload -/

/-- The field that four bytes of a word begin. -/
theorem field32_bytes32 (x : BitVec 32) (rest : List Byte) : field32 (bytes32 x ++ rest) 0 = x :=
  field32_of_append (pre := []) rfl

theorem byteAt_append_bytes32 (x : BitVec 32) (n : Byte) (rest : List Byte) :
    byteAt (bytes32 x ++ n :: rest) 4 = n := rfl

theorem drop_append_bytes32 (x : BitVec 32) (n : Byte) (rest : List Byte) :
    (bytes32 x ++ n :: rest).drop 5 = rest := rfl

/-- A whole frame at the front is taken, and its length is that of its bytes (Table 78). -/
theorem frameAt_whole {f : List Byte} (h : WholeFrame f) (rest : List Byte) :
    ∃ g, frameAt (f ++ rest) = some g ∧ (f ++ rest).drop (5 + g.data.length) = rest := by
  obtain ⟨word, data, rfl, short, permitted⟩ := h
  have length : (numByte data.length).toNat = data.length := numByte_toNat (by omega)
  have shape : bytes32 word ++ numByte data.length :: data ++ rest
      = bytes32 word ++ numByte data.length :: (data ++ rest) := by simp
  have data_eq : ((bytes32 word ++ numByte data.length :: (data ++ rest)).drop 5).take data.length = data := by
    rw [drop_append_bytes32]
    exact List.take_left
  refine ⟨⟨word.setWidth 29, word.msb, data⟩, ?_, ?_⟩
  · unfold frameAt
    rw [shape, field32_bytes32, byteAt_append_bytes32, length]
    simp only [data_eq]
    have fits : ¬((bytes32 word ++ numByte data.length :: (data ++ rest)).length < 5 + data.length
        || decide (8 < data.length)) = true := by
      simp [bytes32, leBytes_length]
      omega
    have known : ¬(!word.msb && decide (0x7FF#29 < word.setWidth 29)) = true := by
      rcases permitted with extended | small
      · simp [extended]
      · simp [BitVec.not_lt.mpr small]
    rw [if_neg fits, if_neg known]
  · rw [shape, ← List.drop_drop, drop_append_bytes32]
    exact List.drop_left

theorem frameAt_none {bs : List Byte} (h : NoFrame bs) : frameAt bs = none := by
  unfold frameAt
  rcases h with cut | ⟨word, n, rest, rfl, bad⟩
  · simp only
    rw [if_pos (by simp; omega)]
  · rw [field32_bytes32, byteAt_append_bytes32]
    dsimp only
    by_cases refused : (decide ((bytes32 word ++ n :: rest).length < 5 + n.toNat) || decide (8 < n.toNat)) = true
    · rw [if_pos refused]
    · rw [if_neg refused, if_pos]
      simp [bytes32, leBytes_length] at refused
      rcases bad with long | cut | ⟨standard, large⟩
      · omega
      · omega
      · simp [standard, large]

/-- Bytes that begin with fewer whole frames than declared, and then with none, give no frames (R65). -/
theorem framesAt_none {n : Nat} {whole : List (List Byte)} {tail : List Byte} (few : whole.length < n)
    (all : ∀ f ∈ whole, WholeFrame f) (ends : NoFrame tail) : framesAt n (whole.flatten ++ tail) = none := by
  induction whole generalizing n with
  | nil =>
    obtain ⟨m, rfl⟩ : ∃ m, n = m + 1 := ⟨n - 1, by simp at few; omega⟩
    rw [framesAt, List.flatten_nil, List.nil_append, frameAt_none ends]
    rfl
  | cons f whole ih =>
    obtain ⟨m, rfl⟩ : ∃ m, n = m + 1 := ⟨n - 1, by simp at few; omega⟩
    obtain ⟨g, taken, remaining⟩ := frameAt_whole (all f List.mem_cons_self) (whole.flatten ++ tail)
    rw [framesAt, List.flatten_cons, List.append_assoc, taken]
    simp only [Option.bind_eq_bind, Option.bind_some, remaining]
    rw [ih (by simpa using few) fun e he => all e (List.mem_cons_of_mem _ he)]
    rfl

theorem netFramesOf_none {bs : List Byte}
    (h : bs = [] ∨ ∃ n rest, bs = n :: rest ∧ (n = 0 ∨ 4 < n.toNat ∨ ∃ (whole : List (List Byte)) (tail : List Byte),
      whole.length < n.toNat ∧ (∀ f ∈ whole, WholeFrame f) ∧ rest = whole.flatten ++ tail ∧ NoFrame tail)) :
    netFramesOf bs = none := by
  rcases h with rfl | ⟨n, rest, rfl, zero | many | ⟨whole, tail, few, all, rfl, ends⟩⟩
  · rfl
  · subst zero; rfl
  · rw [netFramesOf, if_neg (by omega)]
  · rw [netFramesOf]
    split
    · exact framesAt_none few all ends
    · rfl

end Sys2Proof.Machine

open Sys2Proof Sys2Proof.Machine Sys2Proof.Claims in
/-- Settles O28: the updates reach their slots one after another, each leaves the other slots, and a payload with a
bad frame anywhere decodes to no frames at all. -/
theorem netFramesUpdateTheirSlots : Obligations.NetFramesUpdateTheirSlots := by
  intro s r h power
  have working : s.pwc.power.working = true := by rcases power with run | afterrun <;> simp [*, PowerState.working]
  have run : exec .netFrames s = .next (handBack .body r (netFramesWork r.payload s)) := by
    rw [show exec .netFrames s = act s netFrames from rfl, act_supplied (supply_of_inHand h), netFrames,
      if_pos working, carryOut_inHand h]
  rw [run]
  refine ⟨fun fs decoded => ?_, fun bad => ?_⟩
  · have work : netFramesWork r.payload s
        = accept (deliverInOrder ((netUpdates s.cal fs).map NetUpdate.deliver) s) [numByte (matchedCount s.cal fs)] := by
      unfold netFramesWork
      rw [decoded]
    have outside := netUpdates_outside (netUpdates s.cal fs) s
    rw [work, handBack_accept, matchedCount_eq]
    have frame := signalFrame_of_outside outside
    refine ⟨_, rfl, answering_answered (samePorts_of_outside outside) _ _ _ _, ?_, ?_, frame⟩
    · intro pre u post updates last
      obtain ⟨y, alike, contents⟩ := netUpdates_source_last pre post u last s
      rw [← updates] at contents
      refine ⟨(congrArg Slot.liveStatus contents :), fun valid => (congrArg Slot.liveValue contents :).trans ?_,
        (congrArg Slot.updateTime contents :), (congrArg Slot.refreshTimer contents :).trans ?_⟩
      · exact if_pos valid
      · exact Slot.updated_refreshTimer alike _ _ _ _
    · intro j untouched
      exact netUpdates_source_ne untouched s
  · have refused : netFramesWork r.payload s = refuse s .badArgument := by
      unfold netFramesWork
      rw [netFramesOf_none bad]
    rw [refused, handBack_refuse]
end

section
/-! SUPPORT. SLEEP entry (R206, R207): what it makes of each block, and when the Record Store brings it about. -/

namespace Sys2Proof.Machine

open Sys2Proof.Claims

/-! ## Slots at SLEEP entry -/

theorem Slot.unavailable_idem (x : Slot) (now : Time) : (x.unavailable now).unavailable now = x.unavailable now := by
  unfold Slot.unavailable
  by_cases bound : x.bound = true
  · rw [if_pos bound, if_pos (show Slot.bound { x with
      liveStatus := .notAvailable, updateTime := now, substitution := none, refreshTimer := none } = true from bound)]
  · rw [if_neg bound, if_neg bound]

theorem Slot.released_unavailable (x : Slot) (now : Time) :
    (x.unavailable now).released = x.released.unavailable now := by
  unfold Slot.unavailable
  by_cases bound : x.bound = true
  · rw [if_pos bound, if_pos (show x.released.bound = true from bound)]
    rfl
  · rw [if_neg bound, if_neg (show ¬x.released.bound = true from bound)]

/-- A slot made unavailable ends no service mode: its status is not VALID, or it is not bound and stays. -/
theorem Slot.unavailable_silent (x : Slot) (now : Time) :
    x.liveDiffers (x.unavailable now) = false ∨ (x.unavailable now).liveStatus ≠ .valid := by
  unfold Slot.unavailable
  split
  · exact .inr nofun
  · exact .inl (by simp [Slot.liveDiffers])

theorem sgtSleep_outside (s : State) : (sgtSleep s).outsideSignals = s.outsideSignals :=
  (signals_closed _).sgtSleep rfl

/-- Every slot is made unavailable (R17). -/
theorem sgtSleep_source (s : State) (j : Fin 96) :
    (sgtSleep s).source j = (s.source j).unavailable s.pwc.uptime := by
  have fold (l : List (Fin 96)) (t : State) :
      (l.foldl (fun t i => sgtAlter i (t.slots[i].unavailable t.now) t) t).source j
        = if j ∈ l then (t.source j).unavailable t.pwc.uptime else t.source j := by
    induction l generalizing t with
    | nil => rfl
    | cons i l ih =>
      rw [List.foldl_cons, ih, uptime_of_outside (sgtAlter_outside i _ t), sgtAlter_source,
        Slot.released_unavailable]
      by_cases here : j = i
      · subst here
        rw [Function.update_self]
        simp only [List.mem_cons, true_or, if_true]
        split
        · exact Slot.unavailable_idem _ _
        · rfl
      · rw [Function.update_of_ne here]
        simp [here]
  rw [sgtSleep, fold, if_pos (show j ∈ allSlots from List.mem_finRange j)]

/-! ## Outputs at rest -/

/-- OPU in SLEEP, with the outputs at rest (Table 39). -/
def Opu.asleep (o : Opu) : Prop :=
  o.power = .sleep ∧ o.outputs = ⟨false, false, false, false, false, true, false⟩

theorem Opu.asleep_settle {o : Opu} (h : o.power = .sleep) : o.settle.asleep :=
  ⟨h, by simp [Opu.settle, Opu.drives, Opu.deciding, h]⟩

theorem Opu.decideOpen_power (o : Opu) (now : Time) : (o.decideOpen now).power = o.power := by
  unfold Opu.decideOpen
  split
  · rfl
  · split
    · rfl
    · split
      · rfl
      · split <;> rfl

theorem opuLiveChange_asleep {i : Fin 96} {v : Value} {st : LiveStatus} {s : State} (h : s.opu.asleep) :
    (opuLiveChange i v st s).opu.asleep := by
  unfold opuLiveChange
  dsimp only
  split
  · refine Opu.asleep_settle ((Opu.decideOpen_power _ _).trans ?_)
    obtain ⟨power, -⟩ := h
    split <;> split <;> exact power
  · exact h

/-- While no rules are evaluated, a visible change reaches SVC alone. -/
theorem visibleReceivers_opu_quiet {i : Fin 96} {x : Slot} {u : State} (h : u.evaluating = false) :
    ∀ d ∈ visibleReceivers i x u, ∀ s, (d s).opu = s.opu := by
  intro d hd s
  unfold visibleReceivers at hd
  rw [h, if_neg Bool.false_ne_true, List.nil_append] at hd
  split at hd
  · rw [List.mem_singleton.mp hd]
    exact svcSample_opu _ _ _ s
  · simp at hd

/-- In SLEEP a change of a slot that is not VALID reaches neither WRE nor the service mode, and leaves the outputs. -/
theorem sgtAlter_asleep {i : Fin 96} {x : Slot} {s : State} (silent : s.slots[i].liveDiffers x = false ∨
    x.liveStatus ≠ .valid) (power : s.pwc.power = .sleep) (h : s.opu.asleep) : (sgtAlter i x s).opu.asleep := by
  unfold sgtAlter
  rw [if_neg (by rw [power]; decide)]
  unfold changeEvents
  dsimp only
  generalize s.slots[i] = old at silent
  have told (u : State) (hu : u.opu.asleep) :
      (if old.liveDiffers x then opuLiveChange i x.liveValue x.liveStatus u else u).opu.asleep := by
    split
    · exact opuLiveChange_asleep hu
    · exact hu
  have power' (u : State) (hu : u.pwc.power = .sleep) :
      (if old.liveDiffers x then opuLiveChange i x.liveValue x.liveStatus u else u).evaluating = false := by
    have unchanged : (opuLiveChange i x.liveValue x.liveStatus u).pwc.power = u.pwc.power :=
      (congrArg (fun t : State => t.pwc.power) (opuLiveChange_outside i x.liveValue x.liveStatus u) :)
    split <;> simp [State.evaluating, unchanged, hu]
  refine deliverAll_induct (P := fun t => t.opu.asleep) (fun _ ht => ht) ?_ (told _ ?_)
  · intro d hd t ht
    rcases List.mem_append.mp hd with hd | hd
    · split at hd
      · rw [visibleReceivers_opu_quiet (power' _ (by split <;> exact power)) d hd]
        exact ht
      · simp at hd
    · split at hd
      · next differs =>
        rcases silent with same | invalid
        · rw [same] at differs
          simp at differs
        · simp [liveReceivers, State.endsService, invalid] at hd
      · simp at hd
  · split <;> exact h

theorem sgtSleep_asleep {s : State} (power : s.pwc.power = .sleep) (h : s.opu.asleep) : (sgtSleep s).opu.asleep := by
  unfold sgtSleep
  refine (foldl_induct (P := fun t => t.pwc.power = .sleep ∧ t.opu.asleep) ?_ ⟨power, h⟩).2
  rintro i - t ⟨slept, rest⟩
  refine ⟨?_, sgtAlter_asleep (Slot.unavailable_silent _ _) slept rest⟩
  exact (congrArg (fun u : State => u.pwc.power) (sgtAlter_outside i (t.slots[i].unavailable t.now) t) :).trans slept

/-! ## SLEEP entry -/

theorem wakeInput_iff (c : Calibration) (n : Fin 32) :
    c.wakeInput n = true ↔ ∃ d : Fin 4, c.doors[d].present = true ∧ c.doors[d].closedInput = n := by
  simp [Calibration.wakeInput, allDoors]

/-- The state as PWC, OPU and SGT leave it at SLEEP entry. -/
def tableAsleep (s : State) : State :=
  sgtSleep (opuPower .sleep (powerTo .sleep (s.setPwc { s.pwc with quietTimer := none })))

/-- The inputs, senders, channels and doors at SLEEP entry, on the state as the others leave it. -/
theorem enterSleep_eq (s : State) : enterSleep s = { tableAsleep s with
    switches := (swiSleep (tableAsleep s)).switches
    senders := (tableAsleep s).senders.map fun x =>
      { x with filtered := none, pendingTime := none, lastPublication := none }
    ccu := { (tableAsleep s).ccu with channels := Vector.ofFn fun c =>
      { (tableAsleep s).ccu.channels[c] with holdOff := none, window := none, phase := .idle } }
    drs := { (tableAsleep s).drs with doors := (tableAsleep s).drs.doors.map DoorRecord.stopped } } := by
  have entered : enterSleep s = drsSleep (ccuSleep (sniSleep (swiSleep (tableAsleep s)))) := by
    unfold enterSleep tableAsleep
    rfl
  rw [entered]
  generalize tableAsleep s = w
  unfold drsSleep ccuSleep sniSleep swiSleep State.mapSenders State.mapChannels
  dsimp only

theorem swiSleep_switch (s : State) (n : Fin 32) : (swiSleep s).switches[n]
    = if ∃ d : Fin 4, s.cal.doors[d].present = true ∧ s.cal.doors[d].closedInput = n then s.switches[n]
      else { s.switches[n] with disagreement := 0 } := by
  rw [swiSleep, Fin.getElem_fin, Vector.getElem_ofFn]
  simp only [wakeInput_iff]

theorem tableAsleep_outside (s : State) : (tableAsleep s).outsideSignals
    = { s.outsideSignals with pwc := { s.outsideSignals.pwc with power := .sleep, quietTimer := none } } :=
  sgtSleep_outside _

theorem tableAsleep_pwc (s : State) : (tableAsleep s).pwc
    = { s.pwc with power := .sleep, quietTimer := none, storeIdle := (tableAsleep s).pwc.storeIdle } := by
  have outside := tableAsleep_outside s
  generalize tableAsleep s = w at outside ⊢
  exact (congrArg (fun u : State => { u.pwc with storeIdle := w.pwc.storeIdle }) outside :)

theorem tableAsleep_opu (s : State) : (tableAsleep s).opu.asleep :=
  sgtSleep_asleep rfl (Opu.asleep_settle rfl)

theorem tableAsleep_slot (s : State) (i : Fin 96) :
    (tableAsleep s).slots[i].released = s.slots[i].released.unavailable s.pwc.uptime := sgtSleep_source _ i

theorem powerTo_notice (power : PowerState) (s : State) (p : Port) : holdsFlags p flagPower (powerTo power s) := by
  unfold holdsFlags powerTo
  rw [State.port_notice]
  exact flags_added _ _

theorem tableAsleep_notice (s : State) (p : Port) : holdsFlags p flagPower (tableAsleep s) := by
  unfold tableAsleep opuPower
  have closed := holdsFlags_closed p flagPower
  exact closed.sgtSleep (closed.opu _ _ (powerTo_notice .sleep _ p))

/-- Each block takes the SLEEP entry (R17, R24, R34, R60, R111, R133, R207). -/
theorem enterSleep_asleep {s : State} (quiet : s.pwc.quiet = true) :
    Asleep s (enterSleep s) ∧ SameStore s (enterSleep s) := by
  have outside := tableAsleep_outside s
  have pwc := tableAsleep_pwc s
  obtain ⟨-, outputs⟩ := tableAsleep_opu s
  have slots := tableAsleep_slot s
  have notices := tableAsleep_notice s
  rw [enterSleep_eq]
  generalize tableAsleep s = w at outside pwc outputs slots notices
  have cal : w.cal = s.cal := (congrArg State.cal outside :)
  have switches : w.switches = s.switches := (congrArg State.switches outside :)
  have senders : w.senders = s.senders := (congrArg State.senders outside :)
  have ccu : w.ccu = s.ccu := (congrArg State.ccu outside :)
  have drs : w.drs = s.drs := (congrArg State.drs outside :)
  have base : SameBase s w := ⟨cal, (congrArg State.calLoaded outside :), (congrArg State.pins outside :),
    (congrArg State.supply outside :), (congrArg State.pending outside :)⟩
  have ports : SamePorts s w := samePorts_of_unflagged (congrArg State.ptu outside :)
  have store : SameStore s w := (congrArg (fun u : State => { u.rst with queue := w.rst.queue }) outside :)
  unfold Asleep SameBase SameStore NoticeOnAll SamePorts State.port
  dsimp only
  refine ⟨⟨?_, outputs, ?_, ?_, ?_, ?_, ?_, ?_, ?_, ?_, notices, base, ports⟩, store⟩
  · rw [← quiet]
    exact pwc
  · intro i bound
    have slot := slots i
    rw [Slot.unavailable, if_pos (by simpa [Slot.bound, Slot.released] using bound)] at slot
    exact ⟨(congrArg Slot.liveStatus slot :), (congrArg Slot.liveValue slot :), (congrArg Slot.refreshTimer slot :),
      (congrArg Slot.updateTime slot :)⟩
  · intro n
    rw [swiSleep_switch, cal, switches]
  · intro n
    rw [senders, Fin.getElem_fin, Vector.getElem_map]
    rfl
  · intro c
    rw [ccu, Fin.getElem_fin, Vector.getElem_ofFn]
  · intro d
    rw [drs, Fin.getElem_fin, Vector.getElem_map]
    rfl
  · rw [drs]
  · rw [ccu]
  · rw [ccu]

/-! ## The SLEEP decision -/

theorem sleepDecision_sleeps {s : State} (power : s.pwc.power = .afterrun) (quiet : s.pwc.quiet = true)
    (idle : s.pwc.storeIdle = true) : sleepDecision s = enterSleep s := by
  simp [sleepDecision, power, quiet, idle]

theorem sleepDecision_stays {s : State}
    (h : s.pwc.power ≠ .afterrun ∨ s.pwc.quiet = false ∨ s.pwc.storeIdle = false) : sleepDecision s = s := by
  rcases h with power | quiet | busy <;> simp [sleepDecision, *]

/-- The controller becomes IDLE with nothing queued and nothing to erase: the store is idle, and SLEEP is decided
(R162, R206). -/
theorem controllerIdle_idle {s : State} (was : s.pwc.storeIdle = false) (queue : s.rst.queue = [])
    (fresh : ∀ c : Fin 16, s.rst.blocks[c].state ≠ .stale) : controllerIdle s
      = sleepDecision ((s.setRst { s.rst with controller := .idle }).setPwc { s.pwc with storeIdle := true }) := by
  have none_stale : s.rst.hasStale = false := by
    simp only [Rst.hasStale, allBlocks, List.any_eq_false]
    intro c _
    simpa using fresh c
  have idle : (s.setRst { s.rst with controller := .idle }).storeIdle = true := by
    show (Controller.idle == .idle && s.rst.queue.isEmpty && !(s.pwc.power.working && s.rst.hasStale)) = true
    rw [queue, none_stale, Bool.and_false]
    decide
  unfold controllerIdle handStoreIdle
  rw [idle]
  simp only [State.setRst_pwc, was, Bool.true_eq_false, if_false, if_true]

theorem Rst.erased_not_stale {r : Rst} {b : Fin 16} (h : ∀ c : Fin 16, c ≠ b → r.blocks[c].state ≠ .stale)
    (c : Fin 16) : (r.erased b).blocks[c].state ≠ .stale := by
  show (r.blocks.set b blockReset)[c.val].state ≠ .stale
  by_cases same : c = b
  · subst same
    rw [Vector.getElem_set_self]
    decide
  · rw [Vector.getElem_set_ne _ _ fun e => same (Fin.ext e.symm)]
    exact h c same

theorem Rst.advance_not_stale {r : Rst} (h : ∀ c : Fin 16, r.blocks[c].state ≠ .stale) (b c : Fin 16) :
    (r.advance b).blocks[c].state ≠ .stale := by
  show (r.blocks.set b { r.blocks[b] with writePoint := r.blocks[b].writePoint + 1 })[c.val].state ≠ .stale
  by_cases same : c = b
  · subst same
    rw [Vector.getElem_set_self]
    exact h c
  · rw [Vector.getElem_set_ne _ _ fun e => same (Fin.ext e.symm)]
    exact h c

theorem Rst.noteCounter_keeps (r : Rst) (j : RunningJob) (b : Fin 16) (k : Fin 64) :
    (r.noteCounter j b k).blocks = r.blocks ∧ (r.noteCounter j b k).queue = r.queue := by
  unfold Rst.noteCounter
  split <;> exact ⟨rfl, rfl⟩

/-- The last operation of an idle store with PASS: the Record Store's own work, and the controller IDLE. -/
theorem operationEnd_idle {s : State} {b : Fin 16} (queue : s.rst.queue = [])
    (last : (s.rst.controller = .erasing (.erase b) ∧ ∀ c : Fin 16, c ≠ b → s.rst.blocks[c].state ≠ .stale)
      ∨ ((∃ j k content, s.rst.controller = .running j ∧ j.task = .append ∧ j.op = .program b k content)
        ∧ ∀ c : Fin 16, s.rst.blocks[c].state ≠ .stale)) :
    ∃ r : Rst, operationEnd true s = controllerIdle (s.setRst r) ∧ r.queue = []
      ∧ ∀ c : Fin 16, r.blocks[c].state ≠ .stale := by
  unfold operationEnd
  rcases last with ⟨erasing, fresh⟩ | ⟨⟨j, k, content, running, append, op⟩, fresh⟩
  · rw [erasing]
    exact ⟨_, rfl, queue, Rst.erased_not_stale (r := { s.rst with flash := _ }) fresh⟩
  · rw [running]
    simp only [Bool.true_or, if_true]
    unfold jobPasses
    rw [append]
    let r : Rst := { s.rst with flash := s.rst.flash.passed j.op }
    obtain ⟨blocks, kept⟩ := r.noteCounter_keeps j j.op.block (r.writeSlot j.op.block)
    exact ⟨_, rfl, kept.trans queue, Rst.advance_not_stale (fun c => blocks ▸ fresh c) _⟩

end Sys2Proof.Machine

open Sys2Proof Sys2Proof.Machine Sys2Proof.Claims in
/-- Settles O60: both events come down to the SLEEP decision, at the quiet timer's expiry and where the controller
becomes IDLE. -/
theorem quietExpiryLeadsToSleep : Obligations.QuietExpiryLeadsToSleep := by
  refine ⟨fun s supply due => ?_, fun s b supply was queue last => ?_⟩
  · let u := s.setPwc { s.pwc with quiet := true, quietTimer := none }
    have run : exec .quietTimerExpiry s = .next (sleepDecision u) := by
      rw [show exec .quietTimerExpiry s = act s quietExpiry from rfl, act_supplied supply, quietExpiry,
        State.now_eq, if_pos due]
    rw [run]
    refine ⟨fun power idle => ?_, fun stays => ?_⟩
    · rw [sleepDecision_sleeps (s := u) power rfl idle]
      obtain ⟨asleep, store⟩ := enterSleep_asleep (s := u) rfl
      exact ⟨_, rfl, asleep, store⟩
    · rw [sleepDecision_stays (s := u) (stays.imp_right .inr)]
      rfl
  · obtain ⟨r, ends, empty, fresh⟩ := operationEnd_idle queue last
    let u := (s.setRst { r with controller := .idle }).setPwc { s.pwc with storeIdle := true }
    have run : exec (.flashOperationEnd true) s = .next (sleepDecision u) := by
      rw [show exec (.flashOperationEnd true) s = act s (operationEnd true) from rfl, act_supplied supply, ends,
        controllerIdle_idle (s := s.setRst r) was empty fresh]
      rfl
    refine ⟨_, run, fun power quiet => ?_, fun stays => ?_⟩
    · rw [sleepDecision_sleeps (s := u) power quiet rfl]
      exact (enterSleep_asleep (s := u) quiet).1
    · rw [sleepDecision_stays (s := u) (stays.imp_right .inl)]
      exact ⟨rfl, rfl⟩
end

section
/-! SUPPORT. Events at WRE (chapter 5): what every step of an event keeps, and rules and list after an event's
elementary changes. -/

namespace Sys2Proof.Machine

open Sys2Proof.Claims

/-! ## Elementary changes -/

namespace WreEvent

variable (e : WreEvent) (r k : Fin 48) (x : RuleState)

theorem setRule_rule : (e.setRule r x).wre.rules[k] = if k = r then x else e.wre.rules[k] := by
  show (e.wre.rules.set r x)[k.val] = _
  rw [Vector.getElem_set]
  by_cases h : k = r
  · rw [if_pos h, if_pos (by rw [h])]
  · rw [if_neg h, if_neg fun v => h (Fin.ext v.symm)]
    rfl

@[simp] theorem setRule_list : (e.setRule r x).wre.list = e.wre.list := rfl
@[simp] theorem setRule_changed : (e.setRule r x).changed = e.changed := rfl
@[simp] theorem setList_rules (l : List WarningEntry) : (e.setList l).wre.rules = e.wre.rules := rfl
@[simp] theorem setList_list (l : List WarningEntry) : (e.setList l).wre.list = l := rfl

/-- The end of an open fault leaves it closed, and nothing else of the rules or the list changes (R84). -/
theorem endFault_rule (s : State) : (e.endFault s r).wre.rules[k]
    = if k = r then { e.wre.rules[r] with faultOpen := false } else e.wre.rules[k] := by
  unfold endFault
  dsimp only
  split
  · split <;> exact setRule_rule e r k _
  · next closed =>
    split
    · next h =>
      rw [h, ← Bool.eq_false_iff.mpr closed]
    · rfl

theorem endFault_list (s : State) : (e.endFault s r).wre.list = e.wre.list := by
  unfold endFault
  dsimp only
  split
  · split <;> rfl
  · rfl

/-- An occurrence opens the fault, and nothing else of the rules or the list changes (R84). -/
theorem occur_rule (s : State) : (e.occur s r).wre.rules[k] = e.wre.rules[k]
    ∨ (k = r ∧ (e.occur s r).wre.rules[k] = { e.wre.rules[r] with faultOpen := true }) := by
  unfold occur
  split
  · exact .inl rfl
  · split
    · exact .inl rfl
    · by_cases h : k = r
      · refine .inr ⟨h, (setRule_rule e r k _).trans (if_pos h)⟩
      · exact .inl ((setRule_rule e r k _).trans (if_neg h))

theorem occur_list (s : State) : (e.occur s r).wre.list = e.wre.list := by
  unfold occur
  split
  · rfl
  · split <;> rfl

theorem enter_rule (s : State) : (e.enter s r).wre.rules[k]
    = if k = r then { e.wre.rules[r] with phase := .active, reAnnounceTimer := none } else e.wre.rules[k] :=
  setRule_rule e r k _

theorem mem_insertEntry {before : Fin 48 → Fin 48 → Bool} {y z : WarningEntry} {l : List WarningEntry} :
    z ∈ insertEntry before y l ↔ z = y ∨ z ∈ l := by
  induction l with
  | nil => simp [insertEntry]
  | cons a l ih =>
    unfold insertEntry
    split
    · simp
    · simp only [List.mem_cons, ih]
      tauto

theorem insertEntry_length (before : Fin 48 → Fin 48 → Bool) (y : WarningEntry) (l : List WarningEntry) :
    (insertEntry before y l).length = l.length + 1 := by
  induction l with
  | nil => rfl
  | cons a l ih =>
    unfold insertEntry
    split
    · rfl
    · simp [ih]

theorem mem_enter_list (s : State) (y : WarningEntry) :
    y ∈ (e.enter s r).wre.list ↔ y = ⟨r, false⟩ ∨ y ∈ e.wre.list := mem_insertEntry

theorem enter_length (s : State) : (e.enter s r).wre.list.length = e.wre.list.length + 1 :=
  insertEntry_length _ _ _

end WreEvent

/-! ## What every step of an event keeps -/

/-- A property of an event that its elementary changes keep: a rule or the list replaced, a change noted, and a
report of a rule that has a fault code. -/
structure EventClosed (s : State) (Q : WreEvent → Prop) : Prop where
  setRule : ∀ r x e, Q e → Q (e.setRule r x)
  setList : ∀ l e, Q e → Q (e.setList l)
  touch : ∀ e, Q e → Q e.touch
  caution : ∀ b e, Q e → Q { e with cautionNew := b }
  report : ∀ (r : Fin 48) code x e, s.cal.rules[r].faultCode = some code → Q e →
    Q { e with reports := e.reports ++ [x] }

namespace EventClosed

theorem fold {Q : WreEvent → Prop} {α : Type} {f : WreEvent → α → WreEvent} {l : List α} {e : WreEvent}
    (step : ∀ a e, Q e → Q (f e a)) (he : Q e) : Q (l.foldl f e) := by
  induction l generalizing e with
  | nil => exact he
  | cons a l ih => exact ih (step a e he)

variable {s : State} {Q : WreEvent → Prop} (h : EventClosed s Q) {e : WreEvent} {r : Fin 48}
include h

theorem endFault (he : Q e) : Q (e.endFault s r) := by
  unfold WreEvent.endFault
  dsimp only
  split
  · split
    · next code known => exact h.report r code _ _ known (h.setRule _ _ _ he)
    · exact h.setRule _ _ _ he
  · exact he

theorem occur (he : Q e) : Q (e.occur s r) := by
  unfold WreEvent.occur
  split
  · exact he
  · next code known =>
    split
    · exact he
    · exact h.report r code _ _ known (h.setRule _ _ _ he)

theorem toIdle (he : Q e) : Q (e.toIdle r) := h.setRule _ _ _ he

theorem remove (he : Q e) : Q (e.remove r) := h.setList _ _ he

theorem enter (he : Q e) : Q (e.enter s r) := h.caution _ _ (h.setList _ _ (h.setRule _ _ _ he))

theorem refill (he : Q e) : Q (e.refill s) := by
  unfold WreEvent.refill
  split
  · split
    · exact he
    · exact h.enter he
  · exact he

theorem refillAll (he : Q e) : Q (e.refillAll s) := fold (fun _ _ => h.refill) he

theorem displace (he : Q e) : Q (e.displace s r) := by
  unfold WreEvent.displace
  dsimp only
  split
  · exact h.setRule _ _ _ (h.remove he)
  · exact h.endFault (h.toIdle (h.remove he))

theorem intoFullList (he : Q e) : Q (e.intoFullList s r) := by
  unfold WreEvent.intoFullList
  dsimp only
  split
  · exact h.setRule _ _ _ he
  · split
    · exact h.enter (h.displace he)
    · exact h.setRule _ _ _ he

theorem confirm (he : Q e) : Q (e.confirm s r) := by
  unfold WreEvent.confirm
  dsimp only
  refine h.occur ?_
  split
  · exact h.enter (h.setRule _ _ _ he)
  · exact h.intoFullList (h.setRule _ _ _ he)

theorem endClearing (he : Q e) : Q (e.endClearing s r) := by
  unfold WreEvent.endClearing
  split
  · exact h.endFault (h.touch _ (h.setRule _ _ _ he))
  · exact h.refill (h.endFault (h.remove (h.toIdle he)))

theorem conditionTrue (he : Q e) : Q (e.conditionTrue s r) := by
  unfold WreEvent.conditionTrue
  dsimp only
  split
  · split
    · exact h.confirm he
    · exact h.setRule _ _ _ he
  · exact h.touch _ (h.setRule _ _ _ he)
  · exact h.occur (h.touch _ (h.setRule _ _ _ he))
  all_goals exact he

theorem conditionFalse (he : Q e) : Q (e.conditionFalse s r) := by
  unfold WreEvent.conditionFalse
  dsimp only
  split
  · exact h.toIdle he
  · split
    · exact h.endClearing (h.setRule _ _ _ he)
    · exact h.touch _ (h.setRule _ _ _ he)
  · exact h.endFault (h.toIdle he)
  all_goals exact he

theorem evaluate (he : Q e) : Q (e.evaluate s r) := by
  unfold WreEvent.evaluate
  dsimp only
  split
  · exact he
  · split
    · exact h.conditionTrue (h.setRule _ _ _ he)
    · exact h.conditionFalse (h.setRule _ _ _ he)

theorem allIdle (he : Q e) : Q (e.allIdle s) := by
  unfold WreEvent.allIdle
  dsimp only
  have idled (r : Fin 48) (e : WreEvent) (he : Q e) : Q (if e.wre.rules[r].phase = .disabled then e
      else (e.endFault s r).setRule r (ruleReset .idle)) := by
    split
    · exact he
    · exact h.setRule _ _ _ (h.endFault he)
  split
  · exact fold idled he
  · exact h.setList _ _ (fold idled he)

theorem releaseRule (he : Q e) : Q (e.releaseRule s r) := by
  unfold WreEvent.releaseRule
  dsimp only
  split
  · exact he
  · refine h.setRule _ _ _ (h.endFault (h.toIdle ?_))
    split
    · exact h.remove he
    · exact he

theorem release {i : Fin 96} (he : Q e) : Q (e.release s i) := by
  unfold WreEvent.release
  exact fold (fun _ _ => h.evaluate) (h.refillAll (fold (fun _ _ => h.releaseRule) he))

end EventClosed

/-- Once the list has changed, the event stands as a change of the list (R86). -/
theorem eventClosed_changed (s : State) : EventClosed s fun e => e.changed = true where
  setRule _ _ _ he := he
  setList _ _ _ := rfl
  touch _ _ := rfl
  caution _ _ he := he
  report _ _ _ _ _ he := he

/-- The mark of the table event stands through every step but its own (R96). -/
theorem eventClosed_tableTaken (s : State) (b : Bool) : EventClosed s fun e => e.wre.tableTaken = b where
  setRule _ _ _ he := he
  setList _ _ he := he
  touch _ he := he
  caution _ _ he := he
  report _ _ _ _ _ he := he

/-- Rules without fault codes report nothing (R84). -/
theorem eventClosed_noReports {s : State} (h : ∀ r : Fin 48, s.cal.rules[r].faultCode = none) :
    EventClosed s fun e => e.reports = [] where
  setRule _ _ _ he := he
  setList _ _ he := he
  touch _ he := he
  caution _ _ he := he
  report r code _ _ known _ := by rw [h r] at known; simp at known

/-! ## The engine after an event -/

/-- A delivery that establishes a property brings it about, whatever the order, where every delivery keeps it. -/
theorem Delivered.establishes {I P : State → Prop} {d : Delivery} {l : List Delivery} {s t : State}
    (run : Delivered l s t) (hd : d ∈ l) (drawI : ∀ u, I u → I u.drawn) (drawP : ∀ u, P u → P u.drawn)
    (keepI : ∀ e ∈ l, ∀ u, I u → I (e u)) (makes : ∀ u, I u → P (d u))
    (keepP : ∀ e ∈ l, ∀ u, I u → P u → P (e u)) (hs : I s) : P t := by
  induction run with
  | done => simp at hd
  | draw _ ih => exact ih hd keepI keepP (drawI _ hs)
  | @take e l u v rest ih =>
    have tail : ∀ {b : Delivery}, b ∈ l → b ∈ e :: l := List.mem_cons_of_mem _
    rcases List.mem_cons.mp hd with rfl | hd
    · exact (rest.induct (P := fun u => I u ∧ P u) (fun u ⟨i, p⟩ => ⟨drawI u i, drawP u p⟩)
        (fun b hb u ⟨i, p⟩ => ⟨keepI b (tail hb) u i, keepP b (tail hb) u i p⟩)
        ⟨keepI _ List.mem_cons_self _ hs, makes _ hs⟩).2
    · exact ih hd (fun b hb => keepI b (tail hb)) (fun b hb => keepP b (tail hb))
        (keepI _ List.mem_cons_self _ hs)

theorem wre_of_outsideFaults {s t : State} (h : t.outsideFaults = s.outsideFaults) : t.wre = s.wre :=
  (congrArg State.wre h :)

/-- The engine's state stands as the event left it. -/
theorem wreFinish_wre (e : WreEvent) (s : State) : (wreFinish e s).wre = e.wre :=
  wreFinish_induct (P := fun t => t.wre = e.wre) (fun _ h => h) (fun _ _ h => h) (fun _ h => h) (fun _ _ h => h)
    (fun r t h => (wre_of_outsideFaults (flmReport_outside r t)).trans h) rfl

/-- A change of the list hands OPU the summary of the list (R86). -/
theorem wreFinish_summary {e : WreEvent} {s : State} (h : e.changed = true) :
    (wreFinish e s).opu.summary = e.wre.summary s.cal := by
  unfold wreFinish
  rw [opu_of_outsideFaults (flmReports_outside _ _)]
  simp only [h, if_true]
  obtain ⟨l, perm, run⟩ := deliverAll_delivered (wreHandings e (s.setWre e.wre)) ((s.setWre e.wre).notice flagWarnings)
  have sent : opuSummary (e.wre.summary s.cal) ∈ l := perm.mem_iff.mpr (by simp [wreHandings])
  have handing {d : Delivery} (hd : d ∈ l) : d = opuSummary (e.wre.summary s.cal) ∨ d = opuCautionNew := by
    have := perm.mem_iff.mp hd
    unfold wreHandings at this
    rcases List.mem_cons.mp this with rfl | hd
    · exact .inl rfl
    · split at hd
      · exact .inr (List.mem_singleton.mp hd)
      · simp at hd
  have summary (t : State) : (opuSummary (e.wre.summary s.cal) t).opu.summary = e.wre.summary s.cal :=
    (congrArg Opu.summary (opuSummary_unlit (e.wre.summary s.cal) t) :)
  refine run.establishes (I := fun _ => True) (P := fun t => t.opu.summary = e.wre.summary s.cal) sent
    (fun _ _ => trivial) (fun _ ht => ht) (fun _ _ _ _ => trivial) (fun t _ => summary t) ?_ trivial
  intro d hd t _ ht
  rcases handing hd with rfl | rfl
  · exact summary t
  · exact (congrArg Opu.summary (opuCautionNew_unlit t) :).trans ht

/-- A change of the list sets the WARNINGS notice on all ports (R86). -/
theorem wreFinish_notice {e : WreEvent} {s : State} (h : e.changed = true) (p : Port) :
    holdsFlags p flagWarnings (wreFinish e s) := by
  unfold wreFinish
  refine foldl_induct (fun r _ _ ht => holdsFlags_report p _ r ht) ?_
  simp only [h, if_true]
  refine deliverAll_induct (fun _ ht => ht) ?_ ?_
  · intro d hd t ht
    unfold wreHandings at hd
    rcases List.mem_cons.mp hd with rfl | hd
    · exact ht
    · split at hd
      · rw [List.mem_singleton.mp hd]
        exact ht
      · simp at hd
  · unfold holdsFlags
    rw [State.port_notice]
    exact flags_added _ _

/-- The summary handed is that of the list as it stands (Table 31). -/
theorem summaryHanded_of_eq {t : State} (h : t.opu.summary = t.wre.summary t.cal) : SummaryHanded t := by
  unfold SummaryHanded
  rw [h]
  simp [Wre.summary, Wre.anyEntry]

end Sys2Proof.Machine
end

section
/-! SUPPORT. The release event at WRE (R97) in its three stages: the rules returned to IDLE, the places refilled in
list order, and the rules evaluated anew. -/

namespace Sys2Proof.Machine

open Sys2Proof.Claims

/-! ## The first stage: the rules that refer to the slot return to IDLE -/

/-- A rule that an event finds without an entry and without timers. -/
def RuleState.resting (x : RuleState) : Prop := x.phase = .disabled ∨ x.phase = .idle

/-- A rule as the first stage of a release leaves it. -/
def RuleState.afterRelease (x : RuleState) : RuleState :=
  if x.phase = .disabled ∨ x.phase = .idle then x else { x.idled with comparison := false, faultOpen := false }

theorem RuleState.afterRelease_resting (x : RuleState) : x.afterRelease.resting := by
  unfold RuleState.afterRelease
  split
  · next resting => exact resting
  · exact .inr rfl

theorem RuleState.afterRelease_of_resting {x : RuleState} (h : x.resting) : x.afterRelease = x := if_pos h

theorem RuleState.resting_not_suppressed {x : RuleState} (h : x.resting) : x.phase ≠ .suppressed := by
  rcases h with disabled | idle <;> simp [*]

/-- What a release makes of a rule that is not DISABLED, in the words of R97. -/
theorem RuleState.afterRelease_eq {x : RuleState} (h : x.phase ≠ .disabled) : x.afterRelease
    = if x.phase = .idle then x else { returned x with comparison := false, faultOpen := false } := by
  unfold RuleState.afterRelease
  by_cases idle : x.phase = .idle
  · rw [if_pos idle, if_pos (.inr idle)]
  · rw [if_neg idle, if_neg (by tauto)]
    rfl

namespace WreEvent

variable (s : State) (e : WreEvent) (r k : Fin 48)

theorem remove_list (y : WarningEntry) : y ∈ (e.remove r).wre.list ↔ y ∈ e.wre.list ∧ y.rule ≠ r := by
  simp [remove]

theorem releaseRule_of_resting (h : e.wre.rules[r].resting) : e.releaseRule s r = e := by
  unfold releaseRule
  dsimp only
  rw [if_pos (by rcases h with disabled | idle <;> simp only [Fin.getElem_fin] at * <;> simp [*])]

/-- A rule that does not rest loses its entry, its timers, its open fault and its comparison result. -/
theorem releaseRule_of_not_resting (h : ¬e.wre.rules[r].resting) : ∃ e' : WreEvent, e'.wre.rules = e.wre.rules
    ∧ (∀ y, y ∈ e'.wre.list ↔ y ∈ e.wre.list ∧ y.rule ≠ r)
    ∧ ((∃ y ∈ e.wre.list, y.rule = r) → e'.changed = true)
    ∧ e.releaseRule s r = ((e'.toIdle r).endFault s r).setRule r
        { ((e'.toIdle r).endFault s r).wre.rules[r] with comparison := false } := by
  refine ⟨if (e.wre.list.any fun y => y.rule == r) then e.remove r else e, ?_, fun y => ?_, ?_, ?_⟩
  · split <;> rfl
  · split
    · exact e.remove_list r y
    · next absent =>
      simp only [List.any_eq_true, beq_iff_eq, not_exists, not_and] at absent
      exact ⟨fun listed => ⟨listed, absent y listed⟩, fun ⟨listed, _⟩ => listed⟩
  · rintro ⟨y, listed, named⟩
    have found : (e.wre.list.any fun y => y.rule == r) = true := List.any_eq_true.mpr ⟨y, listed, by simpa using named⟩
    rw [if_pos found]
    rfl
  · unfold releaseRule
    dsimp only
    rw [if_neg]
    intro rests
    apply h
    simpa [RuleState.resting] using rests

theorem releaseRule_rule : (e.releaseRule s r).wre.rules[k]
    = if k = r then e.wre.rules[r].afterRelease else e.wre.rules[k] := by
  by_cases resting : e.wre.rules[r].resting
  · rw [e.releaseRule_of_resting s r resting, RuleState.afterRelease_of_resting resting]
    split
    · next h => rw [h]
    · rfl
  · obtain ⟨e', rules, -, -, released⟩ := e.releaseRule_of_not_resting s r resting
    have left : e.wre.rules[r].afterRelease = { e.wre.rules[r].idled with comparison := false, faultOpen := false } :=
      if_neg resting
    rw [released, setRule_rule, endFault_rule, endFault_rule, toIdle, setRule_rule, setRule_rule, rules, left]
    simp only [if_true]
    split
    · rfl
    · rfl

theorem mem_releaseRule_list (y : WarningEntry) : y ∈ (e.releaseRule s r).wre.list
    ↔ y ∈ e.wre.list ∧ (y.rule ≠ r ∨ e.wre.rules[r].resting) := by
  by_cases resting : e.wre.rules[r].resting
  · rw [e.releaseRule_of_resting s r resting]
    simp only [resting, or_true, and_true]
  · obtain ⟨e', -, list, -, released⟩ := e.releaseRule_of_not_resting s r resting
    rw [released, setRule_list, endFault_list, toIdle, setRule_list, list]
    simp only [resting, or_false, ne_eq]

theorem releaseRule_list_length : (e.releaseRule s r).wre.list.length ≤ e.wre.list.length := by
  unfold releaseRule
  dsimp only
  split
  · exact le_rfl
  · rw [setRule_list, endFault_list, toIdle, setRule_list]
    split
    · exact List.length_filter_le _ _
    · exact le_rfl

theorem releaseRule_changed (h : ∃ y ∈ e.wre.list, y.rule = r) (busy : ¬e.wre.rules[r].resting) :
    (e.releaseRule s r).changed = true := by
  obtain ⟨e', -, -, changed, released⟩ := e.releaseRule_of_not_resting s r busy
  rw [released]
  have closed := eventClosed_changed s
  exact closed.setRule _ _ _ (closed.endFault (closed.toIdle (changed h)))

/-- The first stage (R97). -/
def releaseRules (l : List (Fin 48)) : WreEvent := l.foldl (fun e r => e.releaseRule s r) e

theorem releaseRules_rule (l : List (Fin 48)) : (e.releaseRules s l).wre.rules[k]
    = if k ∈ l then e.wre.rules[k].afterRelease else e.wre.rules[k] := by
  induction l generalizing e with
  | nil => rfl
  | cons r l ih =>
    show ((e.releaseRule s r).releaseRules s l).wre.rules[k] = _
    rw [ih, releaseRule_rule]
    by_cases h : k = r
    · subst h
      simp only [if_true, List.mem_cons, true_or]
      split
      · exact RuleState.afterRelease_of_resting (RuleState.afterRelease_resting _)
      · rfl
    · simp [h]

theorem mem_releaseRules_list (l : List (Fin 48)) (y : WarningEntry) : y ∈ (e.releaseRules s l).wre.list
    ↔ y ∈ e.wre.list ∧ (y.rule ∉ l ∨ e.wre.rules[y.rule].resting) := by
  induction l generalizing e with
  | nil => simp [releaseRules]
  | cons r l ih =>
    show y ∈ ((e.releaseRule s r).releaseRules s l).wre.list ↔ _
    rw [ih, mem_releaseRule_list, releaseRule_rule]
    by_cases h : y.rule = r
    · have rests := RuleState.afterRelease_resting e.wre.rules[r]
      subst h
      simp only [if_true, List.mem_cons, true_or, not_true, false_or, ne_eq]
      tauto
    · simp only [h, if_false, List.mem_cons, false_or, ne_eq, not_false_eq_true, true_or, and_true]

theorem releaseRules_list_length (l : List (Fin 48)) : (e.releaseRules s l).wre.list.length ≤ e.wre.list.length := by
  induction l generalizing e with
  | nil => exact le_rfl
  | cons r l ih => exact (ih (e.releaseRule s r)).trans (e.releaseRule_list_length s r)

theorem releaseRules_changed {l : List (Fin 48)} {y : WarningEntry} (listed : y ∈ e.wre.list) (named : y.rule ∈ l)
    (busy : ¬e.wre.rules[y.rule].resting) : (e.releaseRules s l).changed = true := by
  have closed := eventClosed_changed s
  induction l generalizing e with
  | nil => simp at named
  | cons r l ih =>
    show ((e.releaseRule s r).releaseRules s l).changed = true
    by_cases h : y.rule = r
    · subst h
      exact EventClosed.fold (Q := fun e => e.changed = true) (fun _ _ => closed.releaseRule)
        (e.releaseRule_changed s y.rule ⟨y, listed, rfl⟩ busy)
    · refine ih _ ((e.mem_releaseRule_list s r y).mpr ⟨listed, .inl h⟩) ?_ ?_
      · exact (List.mem_cons.mp named).resolve_left h
      · rw [releaseRule_rule, if_neg h]
        exact busy

end WreEvent

/-! ## List order -/

theorem precedes_iff (s : State) (w : Wre) (a b : Fin 48) : precedes s w a b = true ↔
    s.cal.rules[a].cls.rank < s.cal.rules[b].cls.rank ∨ (s.cal.rules[a].cls.rank = s.cal.rules[b].cls.rank
      ∧ (w.confirmedAge s.now b < w.confirmedAge s.now a
        ∨ (w.confirmedAge s.now a = w.confirmedAge s.now b ∧ a.val < b.val))) := by
  unfold precedes
  dsimp only
  split
  · simp only [decide_eq_true_eq]
    omega
  · split
    · simp only [decide_eq_true_eq]
      omega
    · simp only [decide_eq_true_eq, Fin.lt_def]
      omega

theorem not_precedes_trans {s : State} {w : Wre} {a b c : Fin 48} (h : precedes s w a b ≠ true)
    (g : precedes s w b c ≠ true) : precedes s w a c ≠ true := by
  rw [ne_eq, precedes_iff] at *
  omega

theorem not_precedes_of_precedes {s : State} {w : Wre} {a b : Fin 48} (h : precedes s w a b = true) :
    precedes s w b a ≠ true := by
  rw [ne_eq, precedes_iff] at *
  omega

theorem precedes_irrefl (s : State) (w : Wre) (a : Fin 48) : precedes s w a a ≠ true := by
  rw [ne_eq, precedes_iff]
  omega

theorem precedes_congr (s : State) {w v : Wre} {a b : Fin 48}
    (ha : w.rules[a].confirmedTime = v.rules[a].confirmedTime)
    (hb : w.rules[b].confirmedTime = v.rules[b].confirmedTime) : precedes s w a b = precedes s v a b := by
  unfold precedes Wre.confirmedAge
  rw [ha, hb]

/-- The better candidate of two in list order, where the second is SUPPRESSED (R88). -/
def betterOf (s : State) (w : Wre) (best : Option (Fin 48)) (r : Fin 48) : Option (Fin 48) :=
  if w.rules[r].phase = .suppressed then
    match best with
    | none => some r
    | some b => if precedes s w r b then some r else some b
  else best

theorem bestSuppressed_eq (s : State) (w : Wre) : bestSuppressed s w = allRules.foldl (betterOf s w) none := rfl

/-- A SUPPRESSED rule or the candidate before is the better one, and neither precedes it. -/
theorem betterOf_some {s : State} {w : Wre} {r : Fin 48} (suppressed : w.rules[r].phase = .suppressed)
    (best : Option (Fin 48)) : ∃ b, betterOf s w best r = some b ∧ (b = r ∨ best = some b)
      ∧ precedes s w r b ≠ true ∧ ∀ c, best = some c → precedes s w c b ≠ true := by
  unfold betterOf
  rw [if_pos suppressed]
  cases best with
  | none => exact ⟨r, rfl, .inl rfl, precedes_irrefl s w r, by simp⟩
  | some c =>
    by_cases before : precedes s w r c = true
    · refine ⟨r, if_pos before, .inl rfl, precedes_irrefl s w r, fun d same => ?_⟩
      rw [← Option.some.inj same]
      exact not_precedes_of_precedes before
    · refine ⟨c, if_neg before, .inr rfl, before, fun d same => ?_⟩
      rw [← Option.some.inj same]
      exact precedes_irrefl s w c

/-- The choice among the rules of a list and a candidate: one that neither precedes. -/
theorem betterOf_fold (s : State) (w : Wre) (l : List (Fin 48)) (best : Option (Fin 48)) :
    let found := l.foldl (betterOf s w) best
    (found = none → best = none ∧ ∀ r ∈ l, w.rules[r].phase ≠ .suppressed)
      ∧ ∀ m, found = some m → (best = some m ∨ w.rules[m].phase = .suppressed)
        ∧ (∀ r ∈ l, w.rules[r].phase = .suppressed → precedes s w r m ≠ true)
        ∧ ∀ b, best = some b → precedes s w b m ≠ true := by
  induction l generalizing best with
  | nil =>
    refine ⟨fun h => ⟨h, by simp⟩, fun m h => ⟨.inl h, by simp, fun b hb => ?_⟩⟩
    obtain rfl : b = m := Option.some.inj (hb.symm.trans h)
    exact precedes_irrefl s w b
  | cons r l ih =>
    dsimp only at ih ⊢
    rw [List.foldl_cons]
    by_cases suppressed : w.rules[r].phase = .suppressed
    · obtain ⟨b, better, source, least, first⟩ := betterOf_some suppressed best
      rw [better]
      obtain ⟨absent, found⟩ := ih (some b)
      refine ⟨fun h => absurd (absent h).1 (by simp), fun m h => ?_⟩
      obtain ⟨chosen, rest, last⟩ := found m h
      refine ⟨?_, fun k hk k_suppressed => ?_, fun c hc => not_precedes_trans (first c hc) (last b rfl)⟩
      · rcases chosen with same | m_suppressed
        · rcases source with rfl | before
          · exact .inr (Option.some.inj same ▸ suppressed)
          · exact .inl (before.trans same)
        · exact .inr m_suppressed
      · rcases List.mem_cons.mp hk with rfl | hk
        · exact not_precedes_trans least (last b rfl)
        · exact rest k hk k_suppressed
    · rw [show betterOf s w best r = best from if_neg suppressed]
      obtain ⟨absent, found⟩ := ih best
      refine ⟨fun h => ?_, fun m h => ?_⟩
      · obtain ⟨none, rest⟩ := absent h
        exact ⟨none, List.forall_mem_cons.mpr ⟨suppressed, rest⟩⟩
      · obtain ⟨chosen, rest, last⟩ := found m h
        exact ⟨chosen, List.forall_mem_cons.mpr ⟨fun h => absurd h suppressed, rest⟩, last⟩

theorem bestSuppressed_none {s : State} {w : Wre} (h : bestSuppressed s w = none) (r : Fin 48) :
    w.rules[r].phase ≠ .suppressed :=
  ((betterOf_fold s w allRules none).1 h).2 r (List.mem_finRange r)

/-- The rule chosen is SUPPRESSED, and list order puts none before it (R88). -/
theorem bestSuppressed_some {s : State} {w : Wre} {m : Fin 48} (h : bestSuppressed s w = some m) :
    w.rules[m].phase = .suppressed
      ∧ ∀ r : Fin 48, w.rules[r].phase = .suppressed → precedes s w r m ≠ true := by
  obtain ⟨source, least, -⟩ := (betterOf_fold s w allRules none).2 m h
  exact ⟨source.resolve_left (by simp), fun r => least r (List.mem_finRange r)⟩

/-! ## The second stage: the places refilled -/

/-- What refills make of an event: SUPPRESSED rules enter in list order, and everything else stands (R88). -/
structure Refills (s : State) (e e' : WreEvent) : Prop where
  rule : ∀ k : Fin 48, e'.wre.rules[k] = e.wre.rules[k] ∨ (e.wre.rules[k].phase = .suppressed
    ∧ e'.wre.rules[k] = { e.wre.rules[k] with phase := .active, reAnnounceTimer := none }
    ∧ ⟨k, false⟩ ∈ e'.wre.list)
  keeps : ∀ y ∈ e.wre.list, y ∈ e'.wre.list
  adds : ∀ y ∈ e'.wre.list, y ∈ e.wre.list ∨ (e.wre.rules[y.rule].phase = .suppressed ∧ y.acknowledged = false)
  first : ∀ a b : Fin 48, e.wre.rules[a].phase = .suppressed → e.wre.rules[b].phase = .suppressed →
    precedes s e.wre a b = true → e'.wre.rules[b].phase = .active → e'.wre.rules[a].phase = .active

namespace Refills

variable {s : State} {e e' e'' : WreEvent}

theorem refl (s : State) (e : WreEvent) : Refills s e e where
  rule _ := .inl rfl
  keeps _ h := h
  adds _ h := .inl h
  first a b _ hb _ active := by rw [hb] at active; cases active

theorem of_not_suppressed (h : Refills s e e') {k : Fin 48} (hk : e.wre.rules[k].phase ≠ .suppressed) :
    e'.wre.rules[k] = e.wre.rules[k] := by
  rcases h.rule k with same | ⟨suppressed, -⟩
  · exact same
  · exact absurd suppressed hk

theorem confirmedTime (h : Refills s e e') (k : Fin 48) :
    e'.wre.rules[k].confirmedTime = e.wre.rules[k].confirmedTime := by
  rcases h.rule k with same | ⟨-, entered, -⟩
  · rw [same]
  · rw [entered]

/-- A SUPPRESSED rule is still SUPPRESSED or has become ACTIVE. -/
theorem of_suppressed (h : Refills s e e') {k : Fin 48} (hk : e.wre.rules[k].phase = .suppressed) :
    e'.wre.rules[k].phase = .suppressed ∨ e'.wre.rules[k].phase = .active := by
  rcases h.rule k with same | ⟨-, entered, -⟩
  · exact .inl (same ▸ hk)
  · exact .inr (by rw [entered])

theorem trans (h : Refills s e e') (g : Refills s e' e'') : Refills s e e'' where
  rule k := by
    rcases h.rule k with same | ⟨suppressed, entered, listed⟩
    · rw [← same]
      exact g.rule k
    · refine .inr ⟨suppressed, ?_, g.keeps _ listed⟩
      rw [g.of_not_suppressed (by rw [entered]; exact nofun), entered]
  keeps y hy := g.keeps y (h.keeps y hy)
  adds y hy := by
    rcases g.adds y hy with old | ⟨suppressed, fresh⟩
    · exact h.adds y old
    · refine .inr ⟨?_, fresh⟩
      rcases h.rule y.rule with same | ⟨before, -⟩
      · exact same ▸ suppressed
      · exact before
  first a b ha hb before active := by
    have stays {k : Fin 48} (hk : e'.wre.rules[k].phase = .active) : e''.wre.rules[k].phase = .active := by
      rw [g.of_not_suppressed (by rw [hk]; decide)]
      exact hk
    rcases h.of_suppressed hb with b_waits | b_entered
    · rcases h.of_suppressed ha with a_waits | a_entered
      · refine g.first a b a_waits b_waits ?_ active
        rw [precedes_congr s (h.confirmedTime a) (h.confirmedTime b)]
        exact before
      · exact stays a_entered
    · exact stays (h.first a b ha hb before b_entered)

end Refills

namespace WreEvent

variable (s : State) (e : WreEvent)

/-- A refill finds no SUPPRESSED rule, or no place, or lets the first SUPPRESSED rule enter (R88). -/
theorem refill_cases : (e.refill s = e ∧ ((∀ k : Fin 48, e.wre.rules[k].phase ≠ .suppressed)
      ∨ 16 ≤ e.wre.list.length))
    ∨ ∃ m, bestSuppressed s e.wre = some m ∧ e.wre.list.length < 16 ∧ e.refill s = e.enter s m := by
  unfold refill
  split
  · next place =>
    split
    · next best => exact .inl ⟨rfl, .inl (bestSuppressed_none best)⟩
    · next m best => exact .inr ⟨m, best, place, rfl⟩
  · exact .inl ⟨rfl, .inr (by omega)⟩

theorem enter_refills {m : Fin 48} (best : bestSuppressed s e.wre = some m) : Refills s e (e.enter s m) := by
  obtain ⟨suppressed, least⟩ := bestSuppressed_some best
  refine ⟨fun k => ?_, fun y hy => (e.mem_enter_list m s y).mpr (.inr hy), fun y hy => ?_, ?_⟩
  · rw [enter_rule]
    by_cases h : k = m
    · subst h
      exact .inr ⟨suppressed, if_pos rfl, (e.mem_enter_list k s _).mpr (.inl rfl)⟩
    · exact .inl (if_neg h)
  · rcases (e.mem_enter_list m s y).mp hy with rfl | old
    · exact .inr ⟨suppressed, rfl⟩
    · exact .inl old
  · intro a b ha hb before active
    rw [enter_rule] at active
    by_cases h : b = m
    · exact absurd before (h ▸ least a ha)
    · rw [if_neg h, hb] at active
      cases active

theorem refill_refills : Refills s e (e.refill s) := by
  rcases e.refill_cases s with ⟨same, -⟩ | ⟨m, best, -, entered⟩
  · rw [same]
    exact Refills.refl s e
  · rw [entered]
    exact e.enter_refills s best

theorem refills_fold (l : List Nat) : Refills s e (l.foldl (fun e _ => e.refill s) e) := by
  induction l generalizing e with
  | nil => exact Refills.refl s e
  | cons _ l ih => exact (e.refill_refills s).trans (ih (e.refill s))

theorem refillAll_refills : Refills s e (e.refillAll s) := e.refills_fold s (List.range 16)

/-- Each refill takes a place, until the list is full or no rule is SUPPRESSED (R88). -/
theorem refills_fold_full (l : List Nat) (bound : e.wre.list.length ≤ 16) :
    (l.foldl (fun e _ => e.refill s) e).wre.list.length ≤ 16
      ∧ (min 16 (e.wre.list.length + l.length) ≤ (l.foldl (fun e _ => e.refill s) e).wre.list.length
        ∨ ∀ k : Fin 48, (l.foldl (fun e _ => e.refill s) e).wre.rules[k].phase ≠ .suppressed) := by
  induction l generalizing e with
  | nil => exact ⟨bound, .inl (by simp)⟩
  | cons n l ih =>
    rw [List.foldl_cons, List.length_cons]
    rcases e.refill_cases s with ⟨same, none | full⟩ | ⟨m, -, place, entered⟩
    · rw [same]
      refine ⟨(ih e bound).1, .inr fun k => ?_⟩
      rw [(e.refills_fold s l).of_not_suppressed (none k)]
      exact none k
    · rw [same]
      obtain ⟨short, filled⟩ := ih e bound
      exact ⟨short, filled.imp_left fun enough => by omega⟩
    · rw [entered]
      have one := e.enter_length m s
      obtain ⟨short, filled⟩ := ih (e.enter s m) (by omega)
      exact ⟨short, filled.imp_left fun enough => by omega⟩

/-- After as many refills as there are places, the list is full or no rule is SUPPRESSED (R88). -/
theorem refillAll_full (bound : e.wre.list.length ≤ 16) :
    (e.refillAll s).wre.list.length = 16 ∨ ∀ k : Fin 48, (e.refillAll s).wre.rules[k].phase ≠ .suppressed := by
  unfold refillAll
  obtain ⟨short, filled⟩ := e.refills_fold_full s (List.range 16) bound
  rw [List.length_range] at filled
  exact filled.imp_left fun enough => Nat.le_antisymm short (by omega)

end WreEvent

end Sys2Proof.Machine
end

section
/-! SUPPORT. The third stage of a release (R97): rules without entries are evaluated in turn, and the release as a
whole. -/

namespace Sys2Proof.Machine

open Sys2Proof.Claims

namespace WreEvent

/-! ## A rule that other rules' confirmations pass by -/

/-- No entry of the list is of the rule. -/
def Unlisted (k : Fin 48) (e : WreEvent) : Prop := ∀ y ∈ e.wre.list, y.rule ≠ k

/-- The rule has been confirmed in this event: it is ACTIVE, or the full list holds no entry of it. -/
def ConfirmedNow (s : State) (k : Fin 48) (e : WreEvent) : Prop :=
  e.wre.rules[k].confirmedTime = some s.now
    ∧ (e.wre.rules[k].phase = .active ∨ (e.wre.rules[k].phase = .suppressed ∧ e.Unlisted k))

/-- A change that passes a rule by: without an entry it stays as it is, and confirmed it stays confirmed, though it
may lose its place in a full list. -/
structure Spares (s : State) (k : Fin 48) (e e' : WreEvent) : Prop where
  unlisted : e.Unlisted k → e'.Unlisted k ∧ e'.wre.rules[k] = e.wre.rules[k]
  confirmed : e.ConfirmedNow s k → e'.ConfirmedNow s k

namespace Spares

variable {s : State} {k : Fin 48} {e e' e'' : WreEvent}

theorem refl (s : State) (k : Fin 48) (e : WreEvent) : Spares s k e e := ⟨fun h => ⟨h, rfl⟩, id⟩

theorem trans (h : Spares s k e e') (g : Spares s k e' e'') : Spares s k e e'' := by
  refine ⟨fun absent => ?_, fun now => g.confirmed (h.confirmed now)⟩
  obtain ⟨absent', same⟩ := h.unlisted absent
  obtain ⟨absent'', same'⟩ := g.unlisted absent'
  exact ⟨absent'', same'.trans same⟩

/-- A change that keeps the rule and makes no entry of it. -/
theorem of_rule (rule : e'.wre.rules[k] = e.wre.rules[k]) (list : e.Unlisted k → e'.Unlisted k) : Spares s k e e' := by
  refine ⟨fun absent => ⟨list absent, rule⟩, fun ⟨time, phase⟩ => ⟨by rw [rule]; exact time, ?_⟩⟩
  rw [rule]
  exact phase.imp_right (And.imp_right list)

end Spares

variable (s : State) (e : WreEvent) {r k : Fin 48}

theorem setRule_spares (h : k ≠ r) (x : RuleState) : Spares s k e (e.setRule r x) :=
  Spares.of_rule ((setRule_rule e r k x).trans (if_neg h)) id

theorem enter_spares (h : k ≠ r) : Spares s k e (e.enter s r) := by
  refine Spares.of_rule ((e.enter_rule r k s).trans (if_neg h)) fun absent y hy => ?_
  rcases (e.mem_enter_list r s y).mp hy with rfl | old
  · exact h.symm
  · exact absent y old

theorem occur_spares (h : k ≠ r) : Spares s k e (e.occur s r) := by
  refine Spares.of_rule ?_ fun absent => ?_
  · exact (e.occur_rule r k s).resolve_right fun ⟨same, _⟩ => h same
  · unfold Unlisted
    rw [occur_list]
    exact absent

theorem remove_unlisted : (e.remove r).Unlisted r := fun y hy => ((e.remove_list r y).mp hy).2

theorem unlisted_remove (h : e.Unlisted k) : (e.remove r).Unlisted k := fun y hy => h y ((e.remove_list r y).mp hy).1

/-- What gives way in a full list: an ACTIVE rule becomes SUPPRESSED and keeps its confirmed time, any other rule goes
to IDLE (R87). -/
theorem displace_cases : ((e.wre.rules[r].phase = .active ∧ e.displace s r
      = (e.remove r).setRule r { e.wre.rules[r] with phase := .suppressed, reAnnounceTimer := none })
    ∨ e.wre.rules[r].phase ≠ .active ∧ e.displace s r = ((e.remove r).toIdle r).endFault s r) := by
  unfold displace
  dsimp only
  split
  · next active => exact .inl ⟨active, rfl⟩
  · next other => exact .inr ⟨other, rfl⟩

theorem displace_list : (e.displace s r).wre.list = (e.remove r).wre.list := by
  rcases e.displace_cases s (r := r) with ⟨-, displaced⟩ | ⟨-, displaced⟩ <;> rw [displaced]
  · rfl
  · exact endFault_list _ r s

theorem displace_spares (listed : ∃ y ∈ e.wre.list, y.rule = r) : Spares s k e (e.displace s r) := by
  have shorter (absent : e.Unlisted k) : (e.displace s r).Unlisted k := by
    unfold Unlisted
    rw [displace_list]
    exact e.unlisted_remove absent
  by_cases h : k = r
  · subst h
    obtain ⟨y, hy, named⟩ := listed
    have not_absent : ¬e.Unlisted k := fun absent => absent y hy named
    refine ⟨fun absent => absurd absent not_absent, fun ⟨time, phase⟩ => ?_⟩
    have active := phase.resolve_right fun ⟨_, absent⟩ => not_absent absent
    obtain ⟨-, displaced⟩ := (e.displace_cases s).resolve_right fun ⟨other, _⟩ => other active
    rw [displaced]
    unfold ConfirmedNow
    rw [setRule_rule, if_pos rfl]
    exact ⟨time, .inr ⟨rfl, e.remove_unlisted⟩⟩
  · refine Spares.of_rule ?_ shorter
    rcases e.displace_cases s (r := r) with ⟨-, displaced⟩ | ⟨-, displaced⟩ <;> rw [displaced]
    · exact (setRule_rule _ r k _).trans (if_neg h)
    · rw [endFault_rule, if_neg h]
      exact (setRule_rule _ r k _).trans (if_neg h)

/-- A newcomer finds no place: it becomes SUPPRESSED, or enters in the place of a listed rule (R87). -/
theorem intoFullList_cases : e.intoFullList s r = e.setRule r { e.wre.rules[r] with phase := .suppressed }
    ∨ ∃ y ∈ e.wre.list, e.intoFullList s r = (e.displace s y.rule).enter s r := by
  unfold intoFullList
  dsimp only
  split
  · exact .inl rfl
  · next last final =>
    split
    · exact .inr ⟨last, List.mem_of_getLast? final, rfl⟩
    · exact .inl rfl

/-! ## A confirmation -/

/-- The event after a confirmation's rule has its confirmed time (R80). -/
def stamp (r : Fin 48) : WreEvent := e.setRule r { e.wre.rules[r] with
  raiseTimer := none
  confirmedTime := some s.now
  confirmedOdometer := some s.odometer }

theorem confirm_cases : e.confirm s r = ((e.stamp s r).enter s r).occur s r
    ∨ e.confirm s r = ((e.stamp s r).setRule r { (e.stamp s r).wre.rules[r] with phase := .suppressed }).occur s r
    ∨ ∃ y ∈ e.wre.list, e.confirm s r = (((e.stamp s r).displace s y.rule).enter s r).occur s r := by
  have confirmed : e.confirm s r = (if (e.stamp s r).wre.list.length < 16 then (e.stamp s r).enter s r
      else (e.stamp s r).intoFullList s r).occur s r := rfl
  rw [confirmed]
  split
  · exact .inl rfl
  · rcases (e.stamp s r).intoFullList_cases s (r := r) with refused | ⟨y, hy, entered⟩
    · exact .inr (.inl (by rw [refused]))
    · exact .inr (.inr ⟨y, hy, by rw [entered]⟩)

theorem confirm_spares (h : k ≠ r) : Spares s k e (e.confirm s r) := by
  have stamped : Spares s k e (e.stamp s r) := e.setRule_spares s h _
  rcases e.confirm_cases s (r := r) with done | done | ⟨y, hy, done⟩ <;> rw [done]
  · exact (stamped.trans (enter_spares s _ h)).trans (occur_spares s _ h)
  · exact (stamped.trans (setRule_spares s _ h _)).trans (occur_spares s _ h)
  · exact ((stamped.trans (displace_spares s _ ⟨y, hy, rfl⟩)).trans (enter_spares s _ h)).trans (occur_spares s _ h)

/-- An occurrence leaves its own rule confirmed. -/
theorem occur_confirmedNow {e : WreEvent} (h : e.ConfirmedNow s k) : (e.occur s r).ConfirmedNow s k := by
  obtain ⟨time, phase⟩ := h
  unfold ConfirmedNow Unlisted
  rw [occur_list]
  rcases e.occur_rule r k s with same | ⟨rfl, opened⟩
  · rw [same]
    exact ⟨time, phase⟩
  · rw [opened]
    exact ⟨time, phase⟩

/-- A confirmed rule is ACTIVE or SUPPRESSED and bears the time of the event (R80, R87). -/
theorem confirm_confirmedNow (absent : e.Unlisted r) : (e.confirm s r).ConfirmedNow s r := by
  have stamped : (e.stamp s r).wre.rules[r].confirmedTime = some s.now := by
    unfold stamp
    rw [setRule_rule, if_pos rfl]
  rcases e.confirm_cases s (r := r) with done | done | ⟨y, hy, done⟩ <;> rw [done] <;> apply occur_confirmedNow
    <;> unfold ConfirmedNow
  · rw [enter_rule, if_pos rfl]
    exact ⟨stamped, .inl rfl⟩
  · rw [setRule_rule, if_pos rfl]
    exact ⟨stamped, .inr ⟨rfl, absent⟩⟩
  · rw [enter_rule, if_pos rfl]
    obtain ⟨-, same⟩ := ((e.stamp s r).displace_spares s (k := r) ⟨y, hy, rfl⟩).unlisted absent
    exact ⟨by rw [same]; exact stamped, .inl rfl⟩

/-! ## Evaluations of rules at rest -/

/-- The comparison result that an evaluation of a rule in a state gives. -/
def resultOf (s : State) (r : Fin 48) (x : RuleState) : Bool :=
  comparisonResult s.cal.rules[r] x.comparison s.slots[s.cal.rules[r].signalSlot]

/-- The condition that an evaluation of a rule in a state finds. -/
def holdsOf (s : State) (r : Fin 48) (x : RuleState) : Prop :=
  resultOf s r x = true ∧ s.cal.rules[r].qualified s.slots = true

/-- The state of an IDLE rule whose condition is TRUE and whose raise delay runs. -/
def raisingOf (s : State) (r : Fin 48) (x : RuleState) : RuleState :=
  { x with
    comparison := resultOf s r x, phase := .raising, raiseTimer := startTimer s.now s.cal.rules[r].raiseDelay }

theorem evaluate_of_disabled (h : e.wre.rules[r].phase = .disabled) : e.evaluate s r = e := if_pos h

/-- An IDLE rule stays IDLE, starts its raise delay, or is confirmed (R78, Table 30). -/
theorem evaluate_of_idle (h : e.wre.rules[r].phase = .idle) :
    (¬holdsOf s r e.wre.rules[r]
      ∧ e.evaluate s r = e.setRule r { e.wre.rules[r] with comparison := resultOf s r e.wre.rules[r] })
    ∨ (holdsOf s r e.wre.rules[r] ∧ s.cal.rules[r].raiseDelay ≠ 0 ∧ e.evaluate s r
      = (e.setRule r { e.wre.rules[r] with comparison := resultOf s r e.wre.rules[r] }).setRule r
          (raisingOf s r e.wre.rules[r]))
    ∨ (holdsOf s r e.wre.rules[r] ∧ s.cal.rules[r].raiseDelay = 0 ∧ e.evaluate s r
      = (e.setRule r { e.wre.rules[r] with comparison := resultOf s r e.wre.rules[r] }).confirm s r) := by
  have compared : (e.setRule r { e.wre.rules[r] with comparison := resultOf s r e.wre.rules[r] }).wre.rules[r]
      = { e.wre.rules[r] with comparison := resultOf s r e.wre.rules[r] } := (setRule_rule e r r _).trans (if_pos rfl)
  unfold evaluate
  dsimp only
  rw [if_neg (by rw [h]; exact nofun)]
  by_cases holds : holdsOf s r e.wre.rules[r]
  · obtain ⟨result, qualified⟩ := holds
    rw [if_pos (by rw [qualified, Bool.and_true]; exact result)]
    refine .inr ?_
    unfold conditionTrue
    dsimp only
    rw [← resultOf, compared, h]
    dsimp only
    split
    · next immediate => exact .inr ⟨⟨result, qualified⟩, immediate, rfl⟩
    · next delayed => exact .inl ⟨⟨result, qualified⟩, delayed, rfl⟩
  · rw [if_neg (by rw [Bool.and_eq_true]; exact holds)]
    refine .inl ⟨holds, ?_⟩
    unfold conditionFalse
    dsimp only
    rw [← resultOf, compared, h]

theorem evaluate_spares (rests : e.wre.rules[r].resting) (h : k ≠ r) : Spares s k e (e.evaluate s r) := by
  rcases rests with disabled | idle
  · rw [e.evaluate_of_disabled s disabled]
    exact Spares.refl s k e
  · rcases e.evaluate_of_idle s idle with ⟨-, done⟩ | ⟨-, -, done⟩ | ⟨-, -, done⟩ <;> rw [done]
    · exact e.setRule_spares s h _
    · exact (e.setRule_spares s h _).trans (setRule_spares s _ h _)
    · exact (e.setRule_spares s h _).trans (confirm_spares s _ h)

/-- What an evaluation makes of an IDLE rule without an entry, where `x` is its state before. -/
structure Evaluated (s : State) (r : Fin 48) (x : RuleState) (e : WreEvent) : Prop where
  stays : ¬holdsOf s r x → e.Unlisted r ∧ e.wre.rules[r] = { x with comparison := resultOf s r x }
  raises : holdsOf s r x → s.cal.rules[r].raiseDelay ≠ 0 → e.Unlisted r ∧ e.wre.rules[r] = raisingOf s r x
  confirms : holdsOf s r x → s.cal.rules[r].raiseDelay = 0 → e.ConfirmedNow s r

theorem Evaluated.spared {s : State} {x : RuleState} {e e' : WreEvent} (h : Evaluated s r x e) (g : Spares s r e e') :
    Evaluated s r x e' where
  stays no := by
    obtain ⟨absent, rule⟩ := h.stays no
    exact (g.unlisted absent).imp_right (·.trans rule)
  raises yes delayed := by
    obtain ⟨absent, rule⟩ := h.raises yes delayed
    exact (g.unlisted absent).imp_right (·.trans rule)
  confirms yes immediate := g.confirmed (h.confirms yes immediate)

theorem evaluate_evaluated (idle : e.wre.rules[r].phase = .idle) (absent : e.Unlisted r) :
    Evaluated s r e.wre.rules[r] (e.evaluate s r) := by
  rcases e.evaluate_of_idle s idle with ⟨no, done⟩ | ⟨yes, delayed, done⟩ | ⟨yes, immediate, done⟩ <;> rw [done]
  · exact ⟨fun _ => ⟨absent, (setRule_rule _ r r _).trans (if_pos rfl)⟩, fun yes => absurd yes no,
      fun yes => absurd yes no⟩
  · exact ⟨fun no => absurd yes no, fun _ _ => ⟨absent, (setRule_rule _ r r _).trans (if_pos rfl)⟩,
      fun _ immediate => absurd immediate delayed⟩
  · exact ⟨fun no => absurd yes no, fun _ delayed => absurd immediate delayed,
      fun _ _ => confirm_confirmedNow s _ absent⟩

/-- The third stage (R97). -/
def evaluateRules (l : List (Fin 48)) : WreEvent := l.foldl (fun e r => e.evaluate s r) e

/-- Rules at rest without entries, which are to be evaluated. -/
def AllResting (l : List (Fin 48)) : Prop := ∀ r ∈ l, e.wre.rules[r].resting ∧ e.Unlisted r

theorem AllResting.tail {s : State} {e : WreEvent} {l : List (Fin 48)} (once : (r :: l).Nodup)
    (rests : e.AllResting (r :: l)) : (e.evaluate s r).AllResting l := by
  intro k hk
  obtain ⟨r_rests, -⟩ := rests r List.mem_cons_self
  obtain ⟨k_rests, absent⟩ := rests k (List.mem_cons_of_mem r hk)
  have other : k ≠ r := fun same => (List.nodup_cons.mp once).1 (same ▸ hk)
  obtain ⟨absent', same⟩ := (e.evaluate_spares s r_rests other).unlisted absent
  exact ⟨by rw [same]; exact k_rests, absent'⟩

theorem evaluateRules_spares {l : List (Fin 48)} (once : l.Nodup) (rests : e.AllResting l) (other : k ∉ l) :
    Spares s k e (e.evaluateRules s l) := by
  induction l generalizing e with
  | nil => exact Spares.refl s k e
  | cons r l ih =>
    obtain ⟨head, tail⟩ := not_or.mp (mt List.mem_cons.mpr other)
    exact (e.evaluate_spares s (rests r List.mem_cons_self).1 head).trans
      (ih _ (List.nodup_cons.mp once).2 (AllResting.tail once rests) tail)

theorem evaluateRules_evaluated {l : List (Fin 48)} (once : l.Nodup) (rests : e.AllResting l) (member : k ∈ l)
    (idle : e.wre.rules[k].phase = .idle) : Evaluated s k e.wre.rules[k] (e.evaluateRules s l) := by
  induction l generalizing e with
  | nil => simp at member
  | cons r l ih =>
    obtain ⟨fresh, once'⟩ := List.nodup_cons.mp once
    obtain ⟨r_rests, r_absent⟩ := rests r List.mem_cons_self
    by_cases h : k = r
    · subst h
      exact (e.evaluate_evaluated s idle r_absent).spared
        (evaluateRules_spares s _ once' (AllResting.tail once rests) fresh)
    · have later := (List.mem_cons.mp member).resolve_left h
      obtain ⟨-, same⟩ := (e.evaluate_spares s r_rests h).unlisted (rests k member).2
      have evaluated := ih (e.evaluate s r) once' (AllResting.tail once rests) later (by rw [same]; exact idle)
      rw [same] at evaluated
      exact evaluated

/-- Where no evaluated rule is confirmed at once, the list and the other rules stay. -/
theorem evaluateRules_of_delayed {l : List (Fin 48)} (once : l.Nodup) (rests : e.AllResting l)
    (delayed : ∀ r ∈ l, e.wre.rules[r].phase = .idle → s.cal.rules[r].raiseDelay ≠ 0) :
    (e.evaluateRules s l).wre.list = e.wre.list ∧ ∀ k : Fin 48, k ∉ l ∨ e.wre.rules[k].phase = .disabled →
      (e.evaluateRules s l).wre.rules[k] = e.wre.rules[k] := by
  induction l generalizing e with
  | nil => exact ⟨rfl, fun _ _ => rfl⟩
  | cons r l ih =>
    obtain ⟨fresh, once'⟩ := List.nodup_cons.mp once
    obtain ⟨r_rests, -⟩ := rests r List.mem_cons_self
    have step : (e.evaluate s r).wre.list = e.wre.list
        ∧ ∀ k : Fin 48, k ≠ r ∨ e.wre.rules[k].phase = .disabled → (e.evaluate s r).wre.rules[k] = e.wre.rules[k] := by
      rcases r_rests with disabled | idle
      · rw [e.evaluate_of_disabled s disabled]
        exact ⟨rfl, fun _ _ => rfl⟩
      · have other {k : Fin 48} (h : k ≠ r ∨ e.wre.rules[k].phase = .disabled) : k ≠ r := by
          refine h.elim id fun disabled same => ?_
          rw [same, idle] at disabled
          cases disabled
        rcases e.evaluate_of_idle s idle with ⟨-, done⟩ | ⟨-, -, done⟩ | ⟨-, immediate, -⟩
        · rw [done]
          exact ⟨rfl, fun k h => (setRule_rule _ r k _).trans (if_neg (other h))⟩
        · rw [done]
          exact ⟨rfl, fun k h => ((setRule_rule _ r k _).trans (if_neg (other h))).trans
            ((setRule_rule _ r k _).trans (if_neg (other h)))⟩
        · exact absurd immediate (delayed r List.mem_cons_self idle)
    obtain ⟨list, rules⟩ := step
    have unchanged {k : Fin 48} (hk : k ∈ l) : (e.evaluate s r).wre.rules[k] = e.wre.rules[k] :=
      rules k (.inl fun same => fresh (same ▸ hk))
    obtain ⟨list', rules'⟩ := ih (e.evaluate s r) once' (AllResting.tail once rests) fun k hk idle =>
      delayed k (List.mem_cons_of_mem r hk) (by rw [← unchanged hk]; exact idle)
    refine ⟨list'.trans list, fun k h => ?_⟩
    have kept : (e.evaluate s r).wre.rules[k] = e.wre.rules[k] :=
      rules k (h.imp_left fun absent same => absent (same ▸ List.mem_cons_self))
    refine (rules' k ?_).trans kept
    rw [kept]
    exact h.imp_left fun absent hk => absent (List.mem_cons_of_mem r hk)

end WreEvent

end Sys2Proof.Machine
end

section
/-! SUPPORT. A release as a whole (R97), and the substitution of one slot (R11, R12, R181). -/

namespace Sys2Proof.Machine

open Sys2Proof.Claims

/-! ## The three stages of a release together -/

theorem wreRelease_of_run {s : State} (i : Fin 96) (run : s.pwc.power = .run) :
    wreRelease i s = wreFinish (s.wre.event.release s i) s := if_pos run

theorem wreRelease_of_not_run {s : State} (i : Fin 96) (other : s.pwc.power ≠ .run) : wreRelease i s = s := if_neg other

/-- The rules of the table that refer to a slot. -/
theorem mem_rulesOn {c : Calibration} {i : Fin 96} {r : Fin 48} : r ∈ rulesOn c i ↔ c.rules[r].enabled = true
    ∧ (c.rules[r].signalSlot = i ∨ ∃ q, c.rules[r].qualifier = some q ∧ q.slot = i) := by
  unfold rulesOn RuleItem.refersTo
  rw [List.mem_filter, Bool.and_eq_true, Bool.or_eq_true, beq_iff_eq, Option.any_eq_true]
  simp only [beq_iff_eq, allRules, List.mem_finRange, true_and]

theorem rulesOn_nodup (c : Calibration) (i : Fin 96) : (rulesOn c i).Nodup := (List.nodup_finRange 48).filter _

/-- A rule that takes part in the release of a slot. -/
def refersIn (s : State) (i : Fin 96) (r : Fin 48) : Prop := r ∈ rulesOn s.cal i ∧ s.wre.rules[r].phase ≠ .disabled

/-- What the first two stages of a release leave: rules at rest without entries, to be evaluated, and what the refills
of the others made. -/
structure Cleared (s : State) (i : Fin 96) (e : WreEvent) : Prop where
  resting : e.AllResting (rulesOn s.cal i)
  rule : ∀ r ∈ rulesOn s.cal i, e.wre.rules[r] = s.wre.rules[r].afterRelease
  others : OthersRefill s { s with wre := e.wre } (refersIn s i)
  changed : (∃ y ∈ s.wre.list, refersIn s i y.rule) → e.changed = true

/-- A rule with an entry does not rest (R85). -/
theorem not_resting_of_listed {w : Wre} (agrees : ListAgrees w) {y : WarningEntry} (listed : y ∈ w.list) :
    ¬w.rules[y.rule].resting := by
  obtain ⟨-, -, entries⟩ := agrees
  rintro (rests | rests) <;> rcases (entries y.rule).mp ⟨y, listed, rfl⟩ with phase | phase | phase <;>
    rw [rests] at phase <;> cases phase

theorem before_iff_precedes {s : State} {a b : Fin 48} : Before s a b ↔ precedes s s.wre a b = true :=
  (precedes_iff s s.wre a b).symm

/-- The first two stages, from what each does to the rules and the list. -/
theorem cleared_of_refills {s : State} {i : Fin 96} (agrees : ListAgrees s.wre) {e e' : WreEvent}
    (rules : ∀ k : Fin 48, e.wre.rules[k]
      = if k ∈ rulesOn s.cal i then s.wre.rules[k].afterRelease else s.wre.rules[k])
    (list : ∀ y, y ∈ e.wre.list ↔ y ∈ s.wre.list ∧ (y.rule ∉ rulesOn s.cal i ∨ s.wre.rules[y.rule].resting))
    (refills : Refills s e e')
    (full : e'.wre.list.length = 16 ∨ ∀ k : Fin 48, e'.wre.rules[k].phase ≠ .suppressed)
    (changed : (∃ y ∈ s.wre.list, refersIn s i y.rule) → e'.changed = true) : Cleared s i e' := by
  have rests {r : Fin 48} (hr : r ∈ rulesOn s.cal i) : e.wre.rules[r].phase ≠ .suppressed := by
    rw [rules, if_pos hr]
    exact RuleState.resting_not_suppressed (RuleState.afterRelease_resting _)
  have released {r : Fin 48} (hr : r ∈ rulesOn s.cal i) : e'.wre.rules[r] = s.wre.rules[r].afterRelease := by
    rw [refills.of_not_suppressed (rests hr), rules, if_pos hr]
  have other {k : Fin 48} (hk : ¬refersIn s i k) : e.wre.rules[k] = s.wre.rules[k] := by
    rw [rules]
    split
    · next member =>
      exact RuleState.afterRelease_of_resting (.inl (not_not.mp fun takes => hk ⟨member, takes⟩))
    · rfl
  refine ⟨fun r hr => ⟨?_, fun y hy same => ?_⟩, fun r => released, ⟨?_, ?_, ?_, ?_, ?_, ?_⟩, changed⟩
  · rw [released hr]
    exact RuleState.afterRelease_resting _
  · subst same
    rcases refills.adds y hy with old | ⟨suppressed, -⟩
    · obtain ⟨listed, absent⟩ := (list y).mp old
      exact absent.elim (· hr) (not_resting_of_listed agrees listed)
    · exact rests hr suppressed
  · intro k hk stands
    rw [← other hk] at stands ⊢
    exact refills.of_not_suppressed stands
  · intro k hk _
    rw [← other hk]
    exact (refills.rule k).imp_right fun ⟨_, entered, listed⟩ => ⟨entered, listed⟩
  · intro a b ha hb a_waits b_waits before
    rw [← other ha] at a_waits
    rw [← other hb] at b_waits
    refine refills.first a b a_waits b_waits ?_
    rw [precedes_congr s (congrArg RuleState.confirmedTime (other ha)) (congrArg RuleState.confirmedTime (other hb))]
    exact before_iff_precedes.mp before
  · rintro ⟨k, -, waits⟩
    exact full.resolve_right fun none => none k waits
  · intro y hy given
    refine refills.keeps y ((list y).mpr ⟨hy, ?_⟩)
    exact .inl fun member => given ⟨member, fun disabled => not_resting_of_listed agrees hy (.inl disabled)⟩
  · intro y hy given
    rw [← other given]
    exact (refills.adds y hy).imp_left fun old => ((list y).mp old).1

theorem cleared {s : State} (i : Fin 96) (agrees : ListAgrees s.wre) :
    Cleared s i ((s.wre.event.releaseRules s (rulesOn s.cal i)).refillAll s) := by
  refine cleared_of_refills agrees (fun k => s.wre.event.releaseRules_rule s k _)
    (fun y => s.wre.event.mem_releaseRules_list s _ y) (WreEvent.refillAll_refills s _)
    (WreEvent.refillAll_full s _ ((s.wre.event.releaseRules_list_length s _).trans agrees.1)) ?_
  rintro ⟨y, hy, named, -⟩
  exact (eventClosed_changed s).refillAll
    (s.wre.event.releaseRules_changed s hy named (not_resting_of_listed agrees hy))

/-- The third stage after the first two. -/
theorem Cleared.releasedAt {s t : State} {i : Fin 96} {e : WreEvent} (h : Cleared s i e)
    (wre : t.wre = (e.evaluateRules s (rulesOn s.cal i)).wre) (slots : t.slots = s.slots)
    (handed : (e.evaluateRules s (rulesOn s.cal i)).changed = true → NoticeOnAll flagWarnings t ∧ SummaryHanded t) :
    ReleasedAt s t i := by
  have once := rulesOn_nodup s.cal i
  obtain ⟨resting, rule, others, changed⟩ := h
  have takes (r : Fin 48) : (s.cal.rules[r].enabled = true ∧ s.wre.rules[r].phase ≠ .disabled
      ∧ (s.cal.rules[r].signalSlot = i ∨ ∃ q, s.cal.rules[r].qualifier = some q ∧ q.slot = i)) ↔ refersIn s i r := by
    unfold refersIn
    rw [mem_rulesOn]
    tauto
  unfold ReleasedAt
  simp only [takes]
  refine ⟨fun r hr => ?_, fun delayed => ?_, fun named => ?_⟩
  · obtain ⟨member, enabled⟩ := hr
    have start := (rule r member).trans (RuleState.afterRelease_eq enabled)
    have idle : e.wre.rules[r].phase = .idle := by
      rw [start]
      split
      · next idle => exact idle
      · rfl
    obtain ⟨stays, raises, confirms⟩ := e.evaluateRules_evaluated s once resting member idle
    rw [start] at stays raises confirms
    rw [wre, slots]
    refine ⟨fun no => (stays no).symm, fun yes delay => (raises yes delay).symm, fun yes delay => ?_⟩
    obtain ⟨time, phase⟩ := confirms yes (not_not.mp delay)
    exact ⟨phase.imp_right And.left, time⟩
  · obtain ⟨list, rules⟩ := e.evaluateRules_of_delayed s once resting fun r member idle => delayed r ⟨member, by
      intro disabled
      rw [rule r member, RuleState.afterRelease_of_resting (.inl disabled), disabled] at idle
      cases idle⟩
    have other {k : Fin 48} (hk : ¬refersIn s i k) : t.wre.rules[k] = e.wre.rules[k] := by
      rw [wre]
      refine rules k (or_iff_not_imp_left.mpr fun member => ?_)
      have disabled : s.wre.rules[k].phase = .disabled :=
        not_not.mp fun takes => hk ⟨not_not.mp member, takes⟩
      rw [rule k (not_not.mp member), RuleState.afterRelease_of_resting (.inl disabled)]
      exact disabled
    have same : t.wre.list = e.wre.list := by rw [wre, list]
    obtain ⟨stand, wait, first, full, keep, add⟩ := others
    refine ⟨fun k hk stands => ?_, fun k hk waits => ?_, fun a b ha hb a_waits b_waits before active => ?_, ?_,
      fun y hy given => ?_, fun y hy given => ?_⟩
    · rw [other hk]
      exact stand k hk stands
    · rw [other hk, same]
      exact wait k hk waits
    · rw [other hb] at active
      rw [other ha]
      exact first a b ha hb a_waits b_waits before active
    · rintro ⟨k, hk, waits⟩
      rw [other hk] at waits
      rw [same]
      exact full ⟨k, hk, waits⟩
    · rw [same]
      exact keep y hy given
    · rw [same] at hy
      exact add y hy given
  · exact handed (EventClosed.fold (Q := fun e => e.changed = true) (fun _ _ => (eventClosed_changed s).evaluate)
      (changed named))

theorem release_stages (s : State) (i : Fin 96) : s.wre.event.release s i
    = ((s.wre.event.releaseRules s (rulesOn s.cal i)).refillAll s).evaluateRules s (rulesOn s.cal i) := rfl

/-- The release of a slot in RUN (R97). -/
theorem wreRelease_released {s : State} (i : Fin 96) (run : s.pwc.power = .run) (agrees : ListAgrees s.wre) :
    ReleasedAt s (wreRelease i s) i := by
  rw [wreRelease_of_run i run, release_stages]
  have outside := wreFinish_outside
    (((s.wre.event.releaseRules s (rulesOn s.cal i)).refillAll s).evaluateRules s (rulesOn s.cal i)) s
  refine (cleared i agrees).releasedAt (wreFinish_wre _ s) (slots_of_outsideWarnings outside) fun changed => ?_
  refine ⟨fun p => wreFinish_notice changed p, summaryHanded_of_eq ?_⟩
  rw [wreFinish_summary changed, wreFinish_wre]
  congr 1
  exact (congrArg State.cal outside :).symm

/-- What a release says of a state, said of another that agrees in all it speaks of. -/
theorem releasedAt_congr {s s' t t' : State} {i : Fin 96} (h : ReleasedAt s t i) (cal : s'.cal = s.cal)
    (wre : s'.wre = s.wre) (pwc : s'.pwc = s.pwc) (wre' : t'.wre = t.wre) (slots' : t'.slots = t.slots)
    (cal' : t'.cal = t.cal) (opu' : t'.opu = t.opu)
    (notice : NoticeOnAll flagWarnings t → NoticeOnAll flagWarnings t') : ReleasedAt s' t' i := by
  obtain ⟨rules, others, told⟩ := h
  have handed : SummaryHanded t' ↔ SummaryHanded t := by
    unfold SummaryHanded
    rw [wre', cal', opu']
  have refilled (given : Fin 48 → Prop) : OthersRefill s' t' given ↔ OthersRefill s t given := by
    unfold OthersRefill Before
    rw [cal, wre, pwc, wre']
  unfold ReleasedAt
  simp only [cal, wre, pwc, wre', slots', handed, refilled]
  exact ⟨rules, others, fun named => (told named).imp_left notice⟩

/-! ## One slot substituted or released -/

/-- What a change of slots that ends no service mode leaves of SVC. -/
def State.serviceMode (s : State) : ServiceState × List (Fin 96) := (s.svc.state, s.svc.substituted)

/-- A live sample changes SVC's queue and its port. -/
theorem svcSample_same (i : Fin 96) (v : Value) (st : Status) (s : State) :
    (svcSample i v st s).cal = s.cal ∧ (svcSample i v st s).wre = s.wre ∧ (svcSample i v st s).pwc = s.pwc
      ∧ (svcSample i v st s).serviceMode = s.serviceMode := by
  unfold svcSample
  split
  · dsimp only
    split <;> exact ⟨rfl, rfl, rfl, rfl⟩
  · exact ⟨rfl, rfl, rfl, rfl⟩

theorem svcSample_notice {i : Fin 96} {v : Value} {st : Status} {s : State} (h : NoticeOnAll flagWarnings s) :
    NoticeOnAll flagWarnings (svcSample i v st s) := fun p => (holdsFlags_closed p flagWarnings).sample (h p)

theorem serviceMode_of_outsideWarnings {s t : State} (h : t.outsideWarnings = s.outsideWarnings) :
    t.serviceMode = s.serviceMode := by
  unfold State.serviceMode
  rw [svc_of_outsideWarnings h]

theorem visibleReceivers_serviceMode {i : Fin 96} {x : Slot} {u : State} :
    ∀ d ∈ visibleReceivers i x u, ∀ s, (d s).serviceMode = s.serviceMode := by
  intro d hd s
  unfold visibleReceivers at hd
  rcases List.mem_append.mp hd with hd | hd
  · split at hd
    · obtain ⟨r, -, rfl⟩ := List.mem_map.mp hd
      exact serviceMode_of_outsideWarnings (wreEvaluate_outside r s)
    · simp at hd
  · split at hd
    · rw [List.mem_singleton.mp hd]
      exact (svcSample_same _ _ _ s).2.2.2
    · simp at hd

/-- A slot whose live contents stay ends no service mode (R176). -/
theorem sgtAlter_serviceMode {i : Fin 96} {x : Slot} {s : State} (h : s.slots[i].liveDiffers x = false) :
    (sgtAlter i x s).serviceMode = s.serviceMode := by
  unfold sgtAlter
  split
  · rfl
  · obtain ⟨ds, u, changes, same, receivers⟩ := changeEvents_receivers i s.slots[i] x (s.setSlot i x)
    unfold changeEvents
    simp only [h, Bool.false_eq_true, if_false, List.append_nil]
    refine (deliverAll_keeps State.serviceMode (fun _ => rfl) (fun d hd t => ?_) _).trans ?_
    · split at hd
      · exact visibleReceivers_serviceMode d hd t
      · simp at hd
    · split <;> rfl

theorem Slot.liveDiffers_substitution (x : Slot) (v : Option Value) :
    x.liveDiffers { x with substitution := v } = false := by simp [Slot.liveDiffers]

/-- The release event of a slot and its sample, in either order. -/
theorem sgtRelease_released {s : State} (i : Fin 96) :
    (sgtRelease i s).slots = s.slots.set i s.slots[i].released ∧ (sgtRelease i s).serviceMode = s.serviceMode
      ∧ (s.pwc.power ≠ .run → (sgtRelease i s).wre = s.wre)
      ∧ (s.pwc.power = .run → ListAgrees s.wre → ReleasedAt s (sgtRelease i s) i) := by
  generalize shown : s.slots[i].released = x
  have released : sgtRelease i s
      = deliverAll [wreRelease i, svcSample i x.visibleValue x.visibleStatus] (s.setSlot i x) := by
    rw [← shown]
    rfl
  generalize altered : s.setSlot i x = u at released
  have slots : u.slots = s.slots.set i x := by rw [← altered]; rfl
  have cal : u.cal = s.cal := by rw [← altered]; rfl
  have wre : u.wre = s.wre := by rw [← altered]; rfl
  have pwc : u.pwc = s.pwc := by rw [← altered]; rfl
  have mode : u.serviceMode = s.serviceMode := by rw [← altered]; rfl
  have sampled (t : State) := svcSample_same i x.visibleValue x.visibleStatus t
  have sampled_slots (t : State) := svcSample_slots i x.visibleValue x.visibleStatus t
  have outside (t : State) := wreRelease_outside i t
  rw [released]
  rcases deliverAll_two (wreRelease i) (svcSample i x.visibleValue x.visibleStatus) u with order | order <;> rw [order]
  · obtain ⟨cal', wre', -, mode'⟩ := sampled (wreRelease i u.drawn)
    refine ⟨?_, ?_, fun other => ?_, fun run agrees => ?_⟩
    · rw [sampled_slots, slots_of_outsideWarnings (outside _), ← slots]
      rfl
    · rw [mode', serviceMode_of_outsideWarnings (outside _), ← mode]
      rfl
    · rw [wre', wreRelease_of_not_run i (by rw [← pwc] at other; exact other), ← wre]
      rfl
    · have here : ReleasedAt u.drawn (wreRelease i u.drawn) i :=
        wreRelease_released i (by rw [← pwc] at run; exact run) (by rw [← wre] at agrees; exact agrees)
      exact releasedAt_congr here cal.symm wre.symm pwc.symm wre' (sampled_slots _) cal' (svcSample_opu _ _ _ _)
        svcSample_notice
  · obtain ⟨cal', wre', pwc', mode'⟩ := sampled u.drawn
    refine ⟨?_, ?_, fun other => ?_, fun run agrees => ?_⟩
    · rw [slots_of_outsideWarnings (outside _), sampled_slots, ← slots]
      rfl
    · rw [serviceMode_of_outsideWarnings (outside _), mode', ← mode]
      rfl
    · rw [wreRelease_of_not_run i (by rw [pwc']; rw [← pwc] at other; exact other), wre', ← wre]
      rfl
    · have here := wreRelease_released (s := svcSample i x.visibleValue x.visibleStatus u.drawn) i
        (by rw [pwc', ← run, ← pwc]; rfl) (by rw [wre']; rw [← wre] at agrees; exact agrees)
      exact releasedAt_congr here (cal.symm.trans cal'.symm) (wre.symm.trans wre'.symm) (pwc.symm.trans pwc'.symm)
        rfl rfl rfl rfl id

end Sys2Proof.Machine
end

section
namespace Sys2Proof.Machine

open Sys2Proof.Claims

/-! ## The requests SUBSTITUTE and RELEASE_SUBSTITUTE -/

theorem wordArg_one (b : Byte) (v : BitVec 32) (rest : List Byte) :
    wordArg (b :: (bytes32 v ++ rest)) 1 = some v := by
  have long : 1 + 4 ≤ (b :: (bytes32 v ++ rest)).length := by
    rw [List.length_cons, List.length_append, bytes32_length]
    omega
  unfold wordArg
  rw [if_pos long]
  exact congrArg some (field32_of_append (pre := [b]) rfl)

theorem wordArg_eq_none {bs : List Byte} {k : Nat} (h : bs.length < k + 4) : wordArg bs k = none := if_neg (by omega)

/-- SUBSTITUTE of a bound slot with a place in the set (R181). -/
theorem substituteWork_sets {s : State} {bs : List Byte} {i : Fin 96} {v : Value} (slot : indexArg 96 bs 0 = some i)
    (word : wordArg bs 1 = some v) (bound : s.slots[i].kind ≠ .unused)
    (place : i ∈ s.svc.substituted ∨ s.svc.substituted.length < 8) : substituteWork bs s
      = accept (sgtSubstitute i v (s.setSvc { s.svc with
          substituted := if i ∈ s.svc.substituted then s.svc.substituted else s.svc.substituted ++ [i] })) [] := by
  unfold substituteWork
  rw [slot, word]
  dsimp only
  rw [if_neg]
  · simp only [List.contains_iff_mem]
  · simp only [Slot.bound, Bool.or_eq_true, Bool.not_eq_true', bne_eq_false_iff_eq, Bool.and_eq_true,
      decide_eq_true_eq, not_or, not_and, List.contains_eq_mem, decide_eq_false_iff_not]
    exact ⟨bound, fun absent => by have := place.resolve_left absent; omega⟩

/-- SUBSTITUTE without a slot number, with fields cut short, of an UNUSED slot or of a ninth (R181, R193). -/
theorem substituteWork_refuses {s : State} {bs : List Byte} (h : indexArg 96 bs 0 = none ∨ wordArg bs 1 = none
      ∨ ∃ i, indexArg 96 bs 0 = some i ∧ (s.slots[i].kind = .unused
        ∨ (i ∉ s.svc.substituted ∧ 8 ≤ s.svc.substituted.length))) : substituteWork bs s = refuse s .badArgument := by
  unfold substituteWork
  rcases h with slot | word | ⟨i, slot, full⟩
  · rw [slot]
  · rw [word]
    split <;> simp_all
  · rw [slot]
    split
    · next j v same _ =>
      obtain rfl : i = j := Option.some.inj same
      refine if_pos ?_
      simp only [Slot.bound, Bool.or_eq_true, Bool.not_eq_true', bne_eq_false_iff_eq, Bool.and_eq_true,
        decide_eq_true_eq, List.contains_eq_mem, decide_eq_false_iff_not]
      exact full
    · rfl

/-- RELEASE_SUBSTITUTE of a slot in the set (R181). -/
theorem releaseWork_releases {s : State} {bs : List Byte} {i : Fin 96} (slot : indexArg 96 bs 0 = some i)
    (member : i ∈ s.svc.substituted) : releaseWork bs s
      = accept (sgtRelease i (s.setSvc { s.svc with substituted := s.svc.substituted.erase i })) [] := by
  unfold releaseWork
  rw [slot]
  exact if_pos (List.contains_iff_mem.mpr member)

theorem releaseWork_refuses {s : State} {bs : List Byte} {i : Fin 96} (slot : indexArg 96 bs 0 = some i)
    (absent : i ∉ s.svc.substituted) : releaseWork bs s = refuse s .noSuchEntry := by
  unfold releaseWork
  rw [slot]
  exact if_neg (mt List.contains_iff_mem.mp absent)

theorem releaseWork_without_slot {s : State} {bs : List Byte} (slot : indexArg 96 bs 0 = none) :
    releaseWork bs s = refuse s .badArgument := by
  unfold releaseWork
  rw [slot]

theorem exec_substitute {s : State} {r : Request} (h : InHand s .service .substitute r) (service : s.svc.state ≠ .off) :
    exec .substitute s = .next (handBack .service r (substituteWork r.payload (unconfirmed s))) := by
  rw [← inService_on (s := unconfirmed s) service substituteWork, ← serviceRequest_inHand h]
  exact act_supplied (supply_of_inHand h) _

theorem exec_releaseSubstitute {s : State} {r : Request} (h : InHand s .service .releaseSubstitute r)
    (service : s.svc.state ≠ .off) :
    exec .releaseSubstitute s = .next (handBack .service r (releaseWork r.payload (unconfirmed s))) := by
  rw [← inService_on (s := unconfirmed s) service releaseWork, ← serviceRequest_inHand h]
  exact act_supplied (supply_of_inHand h) _

/-- An answer is outside the frame around the signals. -/
theorem signalFrame_answering {s u : State} (h : SignalFrame s u) (p : Port) (r : Request) (result : Result)
    (payload : List Byte) : SignalFrame s (answering u p r result payload) := h

/-- SUBSTITUTE reaches its slot (R11). -/
theorem sgtSubstitute_sets (i : Fin 96) (v : Value) (s : State) :
    (sgtSubstitute i v s).slots = s.slots.set i { s.slots[i] with substitution := some v }
      ∧ (sgtSubstitute i v s).serviceMode = s.serviceMode
      ∧ (sgtSubstitute i v s).outsideSignals = s.outsideSignals :=
  ⟨sgtAlter_slots (.inl (Slot.liveDiffers_substitution _ _)), sgtAlter_serviceMode (Slot.liveDiffers_substitution _ _),
    sgtAlter_outside i _ s⟩

theorem sgtRelease_outside (i : Fin 96) (s : State) : (sgtRelease i s).outsideSignals = s.outsideSignals :=
  (signals_closed _).sgtRelease rfl

end Sys2Proof.Machine

open Sys2Proof Sys2Proof.Machine Sys2Proof.Claims in
/-- Settles O51: a substitution leaves the live contents, so that no change of it ends service mode; a release is one
event at WRE in three stages, in either order with SVC's sample. -/
theorem substitutionIsSetAndReleased : Obligations.SubstitutionIsSetAndReleased := by
  intro s r i service
  refine ⟨fun v rest h payload bound place => ?_, fun rest h payload member => ?_, fun h bad => ?_, fun h =>
    ⟨fun bad => ?_, fun rest payload absent => ?_⟩⟩
  · have slot : indexArg 96 r.payload 0 = some i := by rw [payload]; exact indexArg_zero (by omega) i _
    have word : wordArg r.payload 1 = some v := by rw [payload]; exact wordArg_one _ v rest
    rw [exec_substitute h service, substituteWork_sets (s := unconfirmed s) slot word bound place, handBack_accept]
    obtain ⟨slots, mode, outside⟩ := sgtSubstitute_sets i v ((unconfirmed s).setSvc { (unconfirmed s).svc with
      substituted := if i ∈ s.svc.substituted then s.svc.substituted else s.svc.substituted ++ [i] })
    exact ⟨_, rfl, answering_answered (samePorts_of_outside (s := s) outside) _ _ _ _, slots,
      (congrArg Prod.snd mode :), (congrArg Prod.fst mode :),
      signalFrame_answering (signalFrame_of_outside (s := s) outside) _ _ _ _⟩
  · have slot : indexArg 96 r.payload 0 = some i := by rw [payload]; exact indexArg_zero (by omega) i _
    rw [exec_releaseSubstitute h service, releaseWork_releases (s := unconfirmed s) slot member, handBack_accept]
    generalize dropped : (unconfirmed s).setSvc { (unconfirmed s).svc with
      substituted := (unconfirmed s).svc.substituted.erase i } = u
    have cal : u.cal = s.cal := by rw [← dropped]; rfl
    have wre : u.wre = s.wre := by rw [← dropped]; rfl
    have pwc : u.pwc = s.pwc := by rw [← dropped]; rfl
    have mode' : u.serviceMode = (s.svc.state, s.svc.substituted.erase i) := by rw [← dropped]; rfl
    have slots' : u.slots = s.slots := by rw [← dropped]; rfl
    obtain ⟨slots, mode, stays, resets⟩ := sgtRelease_released (s := u) i
    have outside : (sgtRelease i u).outsideSignals = s.outsideSignals := by
      rw [sgtRelease_outside, ← dropped]
      rfl
    rw [slots'] at slots
    rw [mode'] at mode
    rw [wre, pwc] at stays resets
    refine ⟨_, rfl, answering_answered (samePorts_of_outside outside) _ _ _ _, slots, (congrArg Prod.snd mode :), ?_,
      stays, (congrArg Prod.fst mode :), signalFrame_answering (signalFrame_of_outside outside) _ _ _ _⟩
    intro run agrees _
    exact releasedAt_congr (resets run agrees) cal.symm wre.symm pwc.symm rfl rfl rfl rfl fun notice p => by
      by_cases service : p = .service
      · subst service
        unfold answering
        rw [State.port_setPort_same]
        exact holdsFlags_or (notice _)
      · rw [answering, State.port_setPort_ne _ service]
        exact notice p
  · dsimp only
    rw [exec_substitute h service, substituteWork_refuses (s := unconfirmed s), handBack_refuse]
    rcases bad with short | ⟨b, rest, payload, outOfRange⟩ | ⟨rest, payload, full⟩
    · exact .inr (.inl (wordArg_eq_none short))
    · exact .inl (indexArg_zero_eq_none (.inr ⟨b, rest, payload, outOfRange⟩))
    · exact .inr (.inr ⟨i, by rw [payload]; exact indexArg_zero (by omega) i _, full⟩)
  · dsimp only
    rw [exec_releaseSubstitute h service, releaseWork_without_slot (indexArg_zero_eq_none bad), handBack_refuse]
  · dsimp only
    rw [exec_releaseSubstitute h service, releaseWork_refuses (s := unconfirmed s) (i := i) ?_ absent, handBack_refuse]
    rw [payload]
    exact indexArg_zero (by omega) i _
end

section
/-! SUPPORT. Calibration items as bytes (Table 79): each field comes back from its bytes, and a decoded field lies in
its range. -/

namespace Sys2Proof.Machine

open Sys2Proof.Claims

/-! ## Fields from their bytes -/

theorem flagOf_flagByte (b : Bool) : flagOf (flagByte b) = some b := by cases b <;> rfl

theorem toIndex_numByte {n : Nat} (hn : n ≤ 256) (i : Fin n) : toIndex n (numByte i.val).toNat = some i := by
  rw [numByte_toNat (by omega), toIndex_val]

theorem optIndexOf_optByte {n : Nat} (hn : n ≤ 255) (o : Option (Fin n)) : optIndexOf n (optByte o) = some o := by
  cases o with
  | none => rfl
  | some i =>
    have present : numByte i.val ≠ 0xFF#8 := by
      intro h
      have := congrArg BitVec.toNat h
      rw [numByte_toNat (by omega)] at this
      have limit : (0xFF#8 : Byte).toNat = 255 := rfl
      omega
    unfold optIndexOf optByte
    dsimp only
    rw [if_neg present, toIndex_numByte (by omega)]
    rfl

theorem inRange_of {lo hi n : Nat} (low : lo ≤ n) (high : n ≤ hi) : inRange lo hi n = some n := if_pos ⟨low, high⟩

theorem leNum_two {n : Nat} (h : n < 65536) : leNum (leBytes 2 n) = n := by
  rw [leNum_leBytes]
  exact Nat.mod_eq_of_lt h

theorem leNum_four {n : Nat} (h : n < 4294967296) : leNum (leBytes 4 n) = n := by
  rw [leNum_leBytes]
  exact Nat.mod_eq_of_lt h

theorem ofNat_leNum_bytes16 (x : BitVec 16) : BitVec.ofNat 16 (leNum (bytes16 x)) = x := by
  unfold bytes16
  rw [leNum_two x.isLt]
  simp only [BitVec.ofNat_toNat, BitVec.setWidth_eq]

theorem ofNat_leNum_bytes32 (x : BitVec 32) : BitVec.ofNat 32 (leNum (bytes32 x)) = x := by
  unfold bytes32
  rw [leNum_four x.isLt]
  simp only [BitVec.ofNat_toNat, BitVec.setWidth_eq]

/-! ## Enumerations from their codes -/

theorem SourceKind.ofCode_code (x : SourceKind) : SourceKind.ofCode (numByte x.code).toNat = some x := by cases x <;> rfl
theorem Polarity.ofCode_code (x : Polarity) : Polarity.ofCode (numByte x.code).toNat = some x := by cases x <;> rfl
theorem ChannelMode.ofCode_code (x : ChannelMode) : ChannelMode.ofCode (numByte x.code).toNat = some x := by cases x <;> rfl
theorem EdgeChoice.ofCode_code (x : EdgeChoice) : EdgeChoice.ofCode (numByte x.code).toNat = some x := by cases x <;> rfl
theorem GatePolarity.ofCode_code (x : GatePolarity) : GatePolarity.ofCode (numByte x.code).toNat = some x := by cases x <;> rfl
theorem Role.ofCode_code (x : Role) : Role.ofCode (numByte x.code).toNat = some x := by cases x <;> rfl
theorem ByteOrder.ofCode_code (x : ByteOrder) : ByteOrder.ofCode (numByte x.code).toNat = some x := by cases x <;> rfl
theorem Comparison.ofCode_code (x : Comparison) : Comparison.ofCode (numByte x.code).toNat = some x := by cases x <;> rfl
theorem QualifierComparison.ofCode_code (x : QualifierComparison) : QualifierComparison.ofCode (numByte x.code).toNat = some x := by cases x <;> rfl
theorem WarningClass.ofCode_rank (x : WarningClass) : WarningClass.ofCode (numByte x.rank).toNat = some x := by
  cases x <;> rfl
theorem DebounceClass.ofMs_ms (x : DebounceClass) : DebounceClass.ofMs (numByte x.ms).toNat = some x := by cases x <;> rfl
theorem RateWindow.ofMs_ms (x : RateWindow) : RateWindow.ofMs (leNum (leBytes 2 x.ms)) = some x := by cases x <;> rfl

/-! ## Items from their bytes (Table 79) -/

theorem vector_four {α : Type} (v : Vector α 4) : #v[v[0], v[1], v[2], v[3]] = v := by
  ext i hi
  interval_cases i <;> rfl

theorem vector_eight {α : Type} (v : Vector α 8) : #v[v[0], v[1], v[2], v[3], v[4], v[5], v[6], v[7]] = v := by
  ext i hi
  interval_cases i <;> rfl

theorem rawOf_toNat (x : BitVec 12) : rawOf (leNum (leBytes 2 x.toNat)) = some x := by
  rw [leNum_two (by omega)]
  unfold rawOf
  rw [if_pos x.isLt]
  simp only [BitVec.ofNat_toNat, BitVec.setWidth_eq]

theorem thresholdOf_bytes (t : Option (BitVec 12)) : thresholdOf (leNum (thresholdBytes t)) = some t := by
  cases t with
  | none => rfl
  | some x =>
    have small : leNum (leBytes 2 x.toNat) ≠ 0xFFFF := by
      rw [leNum_two (by omega)]
      omega
    unfold thresholdOf thresholdBytes
    dsimp only
    rw [if_neg small, rawOf_toNat]
    rfl

theorem identifierOf_toNat (x : BitVec 29) : identifierOf (leNum (leBytes 4 x.toNat)) = some x := by
  rw [leNum_four (by omega)]
  unfold identifierOf
  rw [if_pos x.isLt]
  simp only [BitVec.ofNat_toNat, BitVec.setWidth_eq]

theorem refreshTimeoutOf_of {n : Nat} (h : n = 0 ∨ (50 ≤ n ∧ n ≤ 65000)) : refreshTimeoutOf n = some n := by
  unfold refreshTimeoutOf
  split
  · next zero => rw [zero]
  · next other =>
    obtain ⟨low, high⟩ := h.resolve_left other
    exact inRange_of low high

theorem faultCodeOf_bytes {c : Option (BitVec 16)} (h : ∀ code, c = some code → 1 ≤ code.toNat ∧ code.toNat ≤ 0xDFFF) :
    faultCodeOf (leNum (faultCodeBytes c)) = some c := by
  cases c with
  | none => rfl
  | some x =>
    obtain ⟨low, high⟩ := h x rfl
    unfold faultCodeOf faultCodeBytes bytes16
    dsimp only
    rw [leNum_two x.isLt, if_neg (by omega), if_pos high]
    simp only [BitVec.ofNat_toNat, BitVec.setWidth_eq]

section

variable {bs : List Byte} {k : Nat}

theorem field32_of {x : BitVec 32} (h : numAt bs k 4 = leNum (bytes32 x)) : field32 bs k = x := by
  unfold field32
  rw [h, ofNat_leNum_bytes32]

theorem field16_of {x : BitVec 16} (h : numAt bs k 2 = leNum (bytes16 x)) : field16 bs k = x := by
  unfold field16
  rw [h, ofNat_leNum_bytes16]

theorem slot_of {o : Option (Fin 96)} (h : byteAt bs k = optByte o) : optIndexOf 96 (byteAt bs k) = some o := by
  rw [h, optIndexOf_optByte (by omega)]

theorem input_of {o : Option (Fin 32)} (h : byteAt bs k = optByte o) : optIndexOf 32 (byteAt bs k) = some o := by
  rw [h, optIndexOf_optByte (by omega)]

theorem flag_of {b : Bool} (h : byteAt bs k = flagByte b) : flagOf (byteAt bs k) = some b := by
  rw [h, flagOf_flagByte]

theorem index_of {n : Nat} {i : Fin n} (hn : n ≤ 256) (h : byteAt bs k = numByte i.val) :
    toIndex n (byteAt bs k).toNat = some i := by rw [h, toIndex_numByte hn]

theorem number_of {lo hi n : Nat} (h : byteAt bs k = numByte n) (small : hi < 256) (low : lo ≤ n) (high : n ≤ hi) :
    inRange lo hi (byteAt bs k).toNat = some n := by
  rw [h, numByte_toNat (by omega)]
  exact inRange_of low high

theorem word_of {lo hi n : Nat} (h : numAt bs k 2 = leNum (leBytes 2 n)) (small : hi < 65536) (low : lo ≤ n)
    (high : n ≤ hi) : inRange lo hi (numAt bs k 2) = some n := by
  rw [h, leNum_two (by omega)]
  exact inRange_of low high

theorem curvePoint_of {p : CurvePoint} (raw : numAt bs k 2 = leNum (leBytes 2 p.raw.toNat))
    (value : numAt bs (k + 2) 4 = leNum (bytes32 p.value)) : curvePointAt bs k = some p := by
  unfold curvePointAt
  rw [raw, rawOf_toNat, field32_of value]
  rfl

end

theorem GeneralItem.ofBytes_bytes {g : GeneralItem} (aging : g.agingLimit ≠ 0) :
    GeneralItem.ofBytes g.bytes = some g := by
  have limit : inRange 1 255 (byteAt g.bytes 23).toNat = some g.agingLimit.toNat := by
    refine inRange_of (Nat.one_le_iff_ne_zero.mpr fun zero => aging ?_) (Nat.le_of_lt_succ g.agingLimit.isLt)
    exact BitVec.eq_of_toNat_eq zero
  unfold GeneralItem.ofBytes
  rw [slot_of (k := 0) rfl, slot_of (k := 1) rfl, slot_of (k := 2) rfl, slot_of (k := 3) rfl, slot_of (k := 4) rfl,
    slot_of (k := 5) rfl, input_of (k := 6) rfl, input_of (k := 7) rfl, input_of (k := 8) rfl, input_of (k := 9) rfl,
    input_of (k := 10) rfl, limit, field32_of (k := 11) rfl, field32_of (k := 15) rfl, field32_of (k := 19) rfl]
  simp only [Option.bind_eq_bind, Option.bind_some, vector_four]
  rfl

theorem SlotItem.ofBytes_bytes (x : SlotItem) : SlotItem.ofBytes x.bytes = some x := by
  have kind : SourceKind.ofCode (byteAt x.bytes 0).toNat = some x.kind := x.kind.ofCode_code
  unfold SlotItem.ofBytes
  rw [kind, input_of (k := 1) rfl]
  rfl

theorem SwitchItem.ofBytes_bytes (x : SwitchItem) : SwitchItem.ofBytes x.bytes = some x := by
  have polarity : Polarity.ofCode (byteAt x.bytes 0).toNat = some x.polarity := x.polarity.ofCode_code
  have debounce : DebounceClass.ofMs (byteAt x.bytes 1).toNat = some x.debounce := x.debounce.ofMs_ms
  unfold SwitchItem.ofBytes
  rw [polarity, debounce]
  rfl

theorem SenderItem.ofBytes_bytes (x : SenderItem) : SenderItem.ofBytes x.bytes = some x := by
  obtain ⟨level, openT, shortT, count, points⟩ := x
  rw [← vector_eight points]
  generalize points[0] = p0, points[1] = p1, points[2] = p2, points[3] = p3, points[4] = p4, points[5] = p5,
    points[6] = p6, points[7] = p7
  generalize laid : SenderItem.bytes ⟨level, openT, shortT, count, #v[p0, p1, p2, p3, p4, p5, p6, p7]⟩ = bs
  have thresholds : thresholdOf (numAt bs 1 2) = some openT ∧ thresholdOf (numAt bs 3 2) = some shortT := by
    rw [← thresholdOf_bytes openT, ← thresholdOf_bytes shortT, ← laid]
    cases openT <;> cases shortT <;> exact ⟨rfl, rfl⟩
  have rest : bs.drop 5 = numByte count.val :: [p0, p1, p2, p3, p4, p5, p6, p7].flatMap CurvePoint.bytes := by
    rw [← laid]
    cases openT <;> cases shortT <;> rfl
  have point {k : Nat} {p : CurvePoint} (raw : numAt (bs.drop 5) k 2 = leNum (leBytes 2 p.raw.toNat))
      (value : numAt (bs.drop 5) (k + 2) 4 = leNum (bytes32 p.value)) : curvePointAt bs (5 + k) = some p := by
    refine curvePoint_of ?_ ?_
    · rw [← raw, numAt, numAt, List.drop_drop]
    · rw [← value, numAt, numAt, List.drop_drop]
      rfl
  have number : toIndex 9 (byteAt bs 5).toNat = some count := by
    refine index_of (by omega) ?_
    have at5 : byteAt bs 5 = byteAt (bs.drop 5) 0 := by simp [byteAt]
    rw [at5, rest]
    rfl
  have first : toIndex 4 (byteAt bs 0).toNat = some level := index_of (by omega) (by rw [← laid]; rfl)
  rw [rest] at point
  unfold SenderItem.ofBytes
  rw [first, thresholds.1, thresholds.2, number, point (k := 1) (p := p0) rfl rfl, point (k := 7) (p := p1) rfl rfl,
    point (k := 13) (p := p2) rfl rfl, point (k := 19) (p := p3) rfl rfl, point (k := 25) (p := p4) rfl rfl,
    point (k := 31) (p := p5) rfl rfl, point (k := 37) (p := p6) rfl rfl, point (k := 43) (p := p7) rfl rfl]
  rfl

theorem ChannelItem.ofBytes_bytes {x : ChannelItem} (low : 1 ≤ x.divisor) (high : x.divisor ≤ 1000) :
    ChannelItem.ofBytes x.bytes = some x := by
  have mode : ChannelMode.ofCode (byteAt x.bytes 0).toNat = some x.mode := x.mode.ofCode_code
  have edge : EdgeChoice.ofCode (byteAt x.bytes 2).toNat = some x.edge := x.edge.ofCode_code
  have polarity : GatePolarity.ofCode (byteAt x.bytes 4).toNat = some x.gatePolarity := x.gatePolarity.ofCode_code
  have window : RateWindow.ofMs (numAt x.bytes 11 2) = some x.rateWindow := x.rateWindow.ofMs_ms
  have role : Role.ofCode (byteAt x.bytes 17).toNat = some x.role := x.role.ofCode_code
  unfold ChannelItem.ofBytes
  rw [mode, index_of (k := 1) (by omega) rfl, edge, input_of (k := 3) rfl, polarity, flag_of (k := 5) rfl,
    flag_of (k := 6) rfl, window, word_of (k := 15) rfl (by omega) low high, role, flag_of (k := 18) rfl,
    field32_of (k := 7) rfl, field16_of (k := 13) rfl]
  rfl

theorem FilterItem.ofBytes_bytes {x : FilterItem} (start : x.startBit ≤ 63) (length : 1 ≤ x.bitLength ∧ x.bitLength ≤ 32)
    (divisor : 1 ≤ x.divisor ∧ x.divisor ≤ 1000)
    (timeout : x.refreshTimeout = 0 ∨ (50 ≤ x.refreshTimeout ∧ x.refreshTimeout ≤ 65000)) :
    FilterItem.ofBytes x.bytes = some x := by
  have identifier : identifierOf (numAt x.bytes 1 4) = some x.identifier := identifierOf_toNat _
  have mask : identifierOf (numAt x.bytes 5 4) = some x.mask := identifierOf_toNat _
  have order : ByteOrder.ofCode (byteAt x.bytes 12).toNat = some x.byteOrder := x.byteOrder.ofCode_code
  have refresh : refreshTimeoutOf (numAt x.bytes 23 2) = some x.refreshTimeout := by
    rw [show numAt x.bytes 23 2 = leNum (leBytes 2 x.refreshTimeout) from rfl, leNum_two (by omega)]
    exact refreshTimeoutOf_of timeout
  unfold FilterItem.ofBytes
  rw [flag_of (k := 0) rfl, identifier, mask, flag_of (k := 9) rfl,
    number_of (k := 10) rfl (by omega) (Nat.zero_le _) start, number_of (k := 11) rfl (by omega) length.1 length.2, order,
    flag_of (k := 13) rfl, word_of (k := 16) rfl (by omega) divisor.1 divisor.2, slot_of (k := 22) rfl, refresh,
    field16_of (k := 14) rfl, field32_of (k := 18) rfl]
  rfl

theorem DoorItem.ofBytes_bytes {x : DoorItem} (openL : 500 ≤ x.openLimit ∧ x.openLimit ≤ 20000)
    (closeL : 500 ≤ x.closeLimit ∧ x.closeLimit ≤ 20000) (reversal : 1 ≤ x.reversalLimit ∧ x.reversalLimit ≤ 7)
    (settle : 200 ≤ x.settleTime ∧ x.settleTime ≤ 5000) : DoorItem.ofBytes x.bytes = some x := by
  unfold DoorItem.ofBytes
  rw [flag_of (k := 0) rfl, index_of (k := 1) (by omega) rfl, input_of (k := 2) rfl, input_of (k := 3) rfl,
    input_of (k := 4) rfl, input_of (k := 5) rfl, input_of (k := 6) rfl,
    word_of (k := 7) rfl (by omega) openL.1 openL.2, word_of (k := 9) rfl (by omega) closeL.1 closeL.2,
    number_of (k := 11) rfl (by omega) reversal.1 reversal.2, word_of (k := 12) rfl (by omega) settle.1 settle.2]
  rfl

end Sys2Proof.Machine
end

section
/-! SUPPORT. RULES items as bytes, the length of each item, and what a decoded item's fields say. -/

namespace Sys2Proof.Machine

open Sys2Proof.Claims

/-- A qualifier comes back from its bytes, absent whatever stands behind FFh (log entry 15). -/
theorem qualifierAt_of {bs : List Byte} {k : Nat} {q : Option Qualifier} {rest : List Byte}
    (h : bs.drop k = qualifierBytes q ++ rest) : qualifierAt bs k = some q := by
  have byte (n : Nat) : byteAt bs (k + n) = byteAt (qualifierBytes q ++ rest) n := by
    rw [← h]
    simp [byteAt]
  have here : byteAt bs k = byteAt (qualifierBytes q ++ rest) 0 := byte 0
  unfold qualifierAt
  rw [here, byte 1]
  cases q with
  | none => rfl
  | some q =>
    have slot : byteAt (qualifierBytes (some q) ++ rest) 0 = numByte q.slot.val := rfl
    have comparison : byteAt (qualifierBytes (some q) ++ rest) 1 = numByte q.comparison.code := rfl
    have threshold : field32 bs (k + 2) = q.threshold := by
      refine field32_of ?_
      unfold numAt
      rw [← List.drop_drop, h]
      rfl
    have present : numByte q.slot.val ≠ 0xFF#8 := by
      intro absent
      have := congrArg BitVec.toNat absent
      rw [numByte_toNat (by omega)] at this
      have limit : (0xFF#8 : Byte).toNat = 255 := rfl
      omega
    rw [slot, if_neg present, toIndex_numByte (by omega), comparison, q.comparison.ofCode_code, threshold]
    rfl

theorem RuleItem.ofBytes_bytes {x : RuleItem} (raise : x.raiseDelay ≤ 60000) (clear : x.clearDelay ≤ 60000)
    (interval : x.reAnnounce ≤ 60) (code : ∀ code, x.faultCode = some code → 1 ≤ code.toNat ∧ code.toNat ≤ 0xDFFF) :
    RuleItem.ofBytes x.bytes = some x := by
  obtain ⟨enabled, slot, comparison, threshold, hysteresis, qualifier, raiseDelay, clearDelay, cls, latching, faultCode,
    reAnnounce⟩ := x
  generalize laid : RuleItem.bytes _ = bs
  dsimp only at raise clear interval code
  have compared : Comparison.ofCode (byteAt bs 2).toNat = some comparison := by
    rw [← laid]
    exact comparison.ofCode_code
  have qualified : qualifierAt bs 9 = some qualifier := by
    refine qualifierAt_of (rest := bs.drop 15) ?_
    rw [← laid]
    cases qualifier <;> rfl
  have raised : numAt bs 15 2 = leNum (leBytes 2 raiseDelay) := by
    rw [← laid]
    cases qualifier <;> rfl
  have cleared : numAt bs 17 2 = leNum (leBytes 2 clearDelay) := by
    rw [← laid]
    cases qualifier <;> rfl
  have ranked : WarningClass.ofCode (byteAt bs 19).toNat = some cls := by
    rw [← cls.ofCode_rank, ← laid]
    cases qualifier <;> rfl
  have latched : byteAt bs 20 = flagByte latching := by
    rw [← laid]
    cases qualifier <;> rfl
  have coded : faultCodeOf (numAt bs 21 2) = some faultCode := by
    rw [← faultCodeOf_bytes code, ← laid]
    cases qualifier <;> cases faultCode <;> rfl
  have repeated : byteAt bs 23 = numByte reAnnounce := by
    rw [← laid]
    cases qualifier <;> cases faultCode <;> rfl
  unfold RuleItem.ofBytes
  rw [flag_of (k := 0) (b := enabled) (by rw [← laid]; rfl), index_of (k := 1) (i := slot) (by omega) (by rw [← laid]; rfl),
    compared, qualified, word_of raised (by omega) (Nat.zero_le _) raise, word_of cleared (by omega) (Nat.zero_le _) clear,
    ranked, flag_of latched, coded, number_of repeated (by omega) (Nat.zero_le _) interval,
    field32_of (k := 3) (x := threshold) (by rw [← laid]; rfl), field16_of (k := 7) (x := hysteresis) (by rw [← laid]; rfl)]
  rfl

/-! ## One item of a calibration replaced (R185) -/

theorem SenderItem.bytes_length (x : SenderItem) : x.bytes.length = 54 := by
  have points : (x.points.toList.flatMap CurvePoint.bytes).length = 48 := by
    rw [List.length_flatMap]
    have each (p : CurvePoint) : p.bytes.length = 6 := by simp [CurvePoint.bytes]
    simp [each]
  have threshold (t : Option (BitVec 12)) : (thresholdBytes t).length = 2 := by cases t <;> rfl
  simp [SenderItem.bytes, points, threshold]

theorem RuleItem.bytes_length (x : RuleItem) : x.bytes.length = 24 := by
  have qualifier (q : Option Qualifier) : (qualifierBytes q).length = 6 := by cases q <;> rfl
  have code (c : Option (BitVec 16)) : (faultCodeBytes c).length = 2 := by cases c <;> rfl
  simp [RuleItem.bytes, qualifier, code]

/-- An item in the range of its section has the section's length (Table 79). -/
theorem itemBytes_length (c : Calibration) {sec : CalibSection} {i : Nat} (h : i < sec.count) :
    (c.itemBytes sec i).length = sec.size := by
  unfold Calibration.itemBytes
  cases sec <;> dsimp only [CalibSection.count] at h <;> dsimp only <;> rw [toIndex, dif_pos h]
  · rfl
  · rfl
  · rfl
  · exact SenderItem.bytes_length _
  · rfl
  · rfl
  · exact RuleItem.bytes_length _
  · rfl

end Sys2Proof.Machine
end

section
namespace Sys2Proof.Machine

open Sys2Proof.Claims

/-- The items of a section after one of them is replaced. -/
theorem items_set {α : Type} {n : Nat} (v : Vector α n) (f : α → List Byte) (k : Fin n) (x : α) (j : Nat) :
    ((toIndex n j).elim [] fun m => f (v.set k x)[m])
      = if j = k.val then f x else (toIndex n j).elim [] fun m => f v[m] := by
  by_cases inside : j < n
  · rw [toIndex, dif_pos inside]
    simp only [Option.elim_some, Fin.getElem_fin, Vector.getElem_set]
    by_cases same : j = k.val
    · rw [if_pos same, if_pos same.symm]
    · rw [if_neg same, if_neg fun h => same h.symm]
  · have other : j ≠ k.val := fun same => inside (by omega)
    rw [toIndex, dif_neg inside, if_neg other]
    rfl

/-- A calibration has one item of another, and else the items of a base. -/
def ItemTaken (base given c : Calibration) (sec : CalibSection) (i : Nat) : Prop :=
  ∀ sec' j, c.itemBytes sec' j = if (sec', j) = (sec, i) then given.itemBytes sec i else base.itemBytes sec' j

/-- An item is taken where its section is replaced at its index and the other sections stand. -/
theorem itemTaken_of {base given c : Calibration} {sec : CalibSection} {i : Nat}
    (own : ∀ j, c.itemBytes sec j = if j = i then given.itemBytes sec i else base.itemBytes sec j)
    (others : ∀ sec' ≠ sec, ∀ j, c.itemBytes sec' j = base.itemBytes sec' j) : ItemTaken base given c sec i := by
  intro sec' j
  by_cases same : sec' = sec
  · subst same
    simp only [Prod.mk.injEq, true_and]
    exact own j
  · rw [if_neg fun h => same (congrArg Prod.fst h), others sec' same]

theorem toIndex_of_lt {n i : Nat} (h : i < n) : toIndex n i = some ⟨i, h⟩ := dif_pos h

/-- The items of a vector section after one is replaced, against those of the calibration that gives it. -/
theorem items_taken {α : Type} {n i : Nat} (v w : Vector α n) (f : α → List Byte) (h : i < n) (j : Nat) :
    ((toIndex n j).elim [] fun m => f (v.set i w[i])[m])
      = if j = i then ((toIndex n i).elim [] fun m => f w[m]) else (toIndex n j).elim [] fun m => f v[m] := by
  rw [toIndex_of_lt h]
  exact items_set v f ⟨i, h⟩ w[i] j

/-- An item in range replaces its like, and no other (R185). -/
theorem withItem_itemBytes (base : Calibration) {given : Calibration} (ranges : InRange given) {sec : CalibSection}
    {i : Nat} (h : i < sec.count) :
    ∃ c, base.withItem sec i (given.itemBytes sec i) = some c ∧ ItemTaken base given c sec i := by
  obtain ⟨aging, channels, filters, rules, doors⟩ := ranges
  have long : ¬(given.itemBytes sec i).length < sec.size := by
    rw [itemBytes_length given h]
    omega
  unfold Calibration.withItem
  rw [if_neg long]
  unfold Calibration.itemBytes
  cases sec <;> dsimp only [CalibSection.count] at h <;> dsimp only <;> rw [toIndex_of_lt h] <;>
    dsimp only [Option.elim_some, Option.bind_eq_bind, Option.bind_some]
  case general =>
    rw [GeneralItem.ofBytes_bytes aging]
    refine ⟨_, rfl, itemTaken_of (fun j => ?_) fun sec' other j => ?_⟩
    · unfold Calibration.itemBytes
      dsimp only
      rw [toIndex_of_lt h]
      by_cases same : j = i
      · rw [if_pos same, same, toIndex_of_lt h]
      · rw [if_neg same, toIndex, dif_neg (by omega)]
        rfl
    · cases sec' with
      | general => exact absurd rfl other
      | _ => rfl
  case slots =>
    rw [SlotItem.ofBytes_bytes given.slots[(⟨i, h⟩ : Fin 96)]]
    refine ⟨_, rfl, itemTaken_of (items_taken base.slots given.slots SlotItem.bytes h) fun sec' other j => ?_⟩
    cases sec' with
    | slots => exact absurd rfl other
    | _ => rfl
  case switches =>
    rw [SwitchItem.ofBytes_bytes given.switches[(⟨i, h⟩ : Fin 32)]]
    refine ⟨_, rfl, itemTaken_of (items_taken base.switches given.switches SwitchItem.bytes h) fun sec' other j => ?_⟩
    cases sec' with
    | switches => exact absurd rfl other
    | _ => rfl
  case senders =>
    rw [SenderItem.ofBytes_bytes given.senders[(⟨i, h⟩ : Fin 8)]]
    refine ⟨_, rfl, itemTaken_of (items_taken base.senders given.senders SenderItem.bytes h) fun sec' other j => ?_⟩
    cases sec' with
    | senders => exact absurd rfl other
    | _ => rfl
  case channels =>
    obtain ⟨low, high⟩ := channels ⟨i, h⟩
    rw [ChannelItem.ofBytes_bytes low high]
    refine ⟨_, rfl, itemTaken_of (items_taken base.channels given.channels ChannelItem.bytes h) fun sec' other j => ?_⟩
    cases sec' with
    | channels => exact absurd rfl other
    | _ => rfl
  case filters =>
    obtain ⟨start, short, long, low, high, timeout⟩ := filters ⟨i, h⟩
    rw [FilterItem.ofBytes_bytes start ⟨short, long⟩ ⟨low, high⟩ timeout]
    refine ⟨_, rfl, itemTaken_of (items_taken base.filters given.filters FilterItem.bytes h) fun sec' other j => ?_⟩
    cases sec' with
    | filters => exact absurd rfl other
    | _ => rfl
  case rules =>
    obtain ⟨raise, clear, interval, code⟩ := rules ⟨i, h⟩
    rw [RuleItem.ofBytes_bytes raise clear interval code]
    refine ⟨_, rfl, itemTaken_of (items_taken base.rules given.rules RuleItem.bytes h) fun sec' other j => ?_⟩
    cases sec' with
    | rules => exact absurd rfl other
    | _ => rfl
  case doors =>
    obtain ⟨open_low, open_high, close_low, close_high, few, many, settle_low, settle_high⟩ := doors ⟨i, h⟩
    rw [DoorItem.ofBytes_bytes ⟨open_low, open_high⟩ ⟨close_low, close_high⟩ ⟨few, many⟩ ⟨settle_low, settle_high⟩]
    refine ⟨_, rfl, itemTaken_of (items_taken base.doors given.doors DoorItem.bytes h) fun sec' other j => ?_⟩
    cases sec' with
    | doors => exact absurd rfl other
    | _ => rfl

end Sys2Proof.Machine
end

section
/-! SUPPORT. What a decoded item says of its bytes: every field lies in its range (R185, R208). -/

namespace Sys2Proof.Machine

open Sys2Proof.Claims

/-! ## Decoded fields -/

theorem flagOf_le {b : Byte} {x : Bool} (h : flagOf b = some x) : b.toNat ≤ 1 := by
  unfold flagOf at h
  split at h
  · next zero => rw [zero]; decide
  · split at h
    · next one => rw [one]; decide
    · cases h

theorem toIndex_lt {n k : Nat} {i : Fin n} (h : toIndex n k = some i) : k < n := by
  by_contra outside
  rw [toIndex, dif_neg outside] at h
  cases h

theorem optIndexOf_lt {n : Nat} {b : Byte} {o : Option (Fin n)} (h : optIndexOf n b = some o) :
    b.toNat < n ∨ b.toNat = 255 := by
  unfold optIndexOf at h
  split at h
  · next absent => exact .inr (by rw [absent]; rfl)
  · obtain ⟨i, present, -⟩ := Option.map_eq_some_iff.mp h
    exact .inl (toIndex_lt present)

theorem inRange_le {lo hi n m : Nat} (h : inRange lo hi n = some m) : lo ≤ n ∧ n ≤ hi := by
  by_contra outside
  rw [inRange, if_neg outside] at h
  cases h

theorem rawOf_lt {n : Nat} {x : BitVec 12} (h : rawOf n = some x) : n < 4096 := by
  by_contra outside
  rw [rawOf, if_neg outside] at h
  cases h

theorem thresholdOf_lt {n : Nat} {t : Option (BitVec 12)} (h : thresholdOf n = some t) : n < 4096 ∨ n = 65535 := by
  unfold thresholdOf at h
  split at h
  · next absent => exact .inr absent
  · obtain ⟨x, present, -⟩ := Option.map_eq_some_iff.mp h
    exact .inl (rawOf_lt present)

theorem curvePointAt_lt {bs : List Byte} {k : Nat} {p : CurvePoint} (h : curvePointAt bs k = some p) :
    numAt bs k 2 < 4096 := by
  obtain ⟨x, present, -⟩ := Option.map_eq_some_iff.mp h
  exact rawOf_lt present

theorem identifierOf_lt {n : Nat} {x : BitVec 29} (h : identifierOf n = some x) : n < 536870912 := by
  by_contra outside
  rw [identifierOf, if_neg outside] at h
  cases h

theorem refreshTimeoutOf_le {n m : Nat} (h : refreshTimeoutOf n = some m) : n = 0 ∨ (50 ≤ n ∧ n ≤ 65000) := by
  unfold refreshTimeoutOf at h
  split at h
  · next zero => exact .inl zero
  · exact .inr (inRange_le h)

theorem faultCodeOf_le {n : Nat} {c : Option (BitVec 16)} (h : faultCodeOf n = some c) : n ≤ 0xDFFF := by
  unfold faultCodeOf at h
  split at h
  · omega
  · split at h
    · assumption
    · cases h

theorem SourceKind.ofCode_le {n : Nat} {x : SourceKind} (h : SourceKind.ofCode n = some x) : n ≤ 6 := by
  unfold SourceKind.ofCode at h
  split at h <;> simp at h ⊢

theorem Polarity.ofCode_le {n : Nat} {x : Polarity} (h : Polarity.ofCode n = some x) : n ≤ 1 := by
  unfold Polarity.ofCode at h
  split at h <;> simp at h ⊢

theorem DebounceClass.ofMs_mem {n : Nat} {x : DebounceClass} (h : DebounceClass.ofMs n = some x) :
    n ∈ [5, 20, 50, 200] := by
  unfold DebounceClass.ofMs at h
  split at h <;> simp at h ⊢

theorem ChannelMode.ofCode_le {n : Nat} {x : ChannelMode} (h : ChannelMode.ofCode n = some x) : n ≤ 5 := by
  unfold ChannelMode.ofCode at h
  split at h <;> simp at h ⊢

theorem EdgeChoice.ofCode_le {n : Nat} {x : EdgeChoice} (h : EdgeChoice.ofCode n = some x) : n ≤ 2 := by
  unfold EdgeChoice.ofCode at h
  split at h <;> simp at h ⊢

theorem GatePolarity.ofCode_le {n : Nat} {x : GatePolarity} (h : GatePolarity.ofCode n = some x) : n ≤ 1 := by
  unfold GatePolarity.ofCode at h
  split at h <;> simp at h ⊢

theorem RateWindow.ofMs_mem {n : Nat} {x : RateWindow} (h : RateWindow.ofMs n = some x) : n ∈ [10, 100, 1000] := by
  unfold RateWindow.ofMs at h
  split at h <;> simp at h ⊢

theorem Role.ofCode_le {n : Nat} {x : Role} (h : Role.ofCode n = some x) : n ≤ 2 := by
  unfold Role.ofCode at h
  split at h <;> simp at h ⊢

theorem ByteOrder.ofCode_le {n : Nat} {x : ByteOrder} (h : ByteOrder.ofCode n = some x) : n ≤ 1 := by
  unfold ByteOrder.ofCode at h
  split at h <;> simp at h ⊢

theorem Comparison.ofCode_le {n : Nat} {x : Comparison} (h : Comparison.ofCode n = some x) : n ≤ 4 := by
  unfold Comparison.ofCode at h
  split at h <;> simp at h ⊢

theorem QualifierComparison.ofCode_le {n : Nat} {x : QualifierComparison} (h : QualifierComparison.ofCode n = some x) :
    n ≤ 3 := by
  unfold QualifierComparison.ofCode at h
  split at h <;> simp at h ⊢

theorem qualifierAt_le {bs : List Byte} {k : Nat} {q : Option Qualifier}
    (h : qualifierAt bs k = some q) :
    (byteAt bs k).toNat = 255 ∨ ((byteAt bs k).toNat < 96 ∧ (byteAt bs (k + 1)).toNat ≤ 3) := by
  unfold qualifierAt at h
  split at h
  · next absent => exact .inl (by rw [absent]; rfl)
  · simp only [Option.bind_eq_bind, Option.bind_eq_some_iff] at h
    obtain ⟨slot, present, comparison, compared, -⟩ := h
    exact .inr ⟨toIndex_lt present, QualifierComparison.ofCode_le compared⟩

theorem WarningClass.ofCode_le {n : Nat} {x : WarningClass} (h : WarningClass.ofCode n = some x) : n ≤ 2 := by
  unfold WarningClass.ofCode at h
  split at h <;> simp at h ⊢

/-! ## Numbers of more than a byte -/

theorem drop_eq_byteAt_cons {bs : List Byte} {k : Nat} (h : k < bs.length) :
    bs.drop k = byteAt bs k :: bs.drop (k + 1) := by
  rw [List.drop_eq_getElem_cons h]
  simp [byteAt, h]

theorem numAt_succ {bs : List Byte} {k n : Nat} (h : k < bs.length) :
    numAt bs k (n + 1) = (byteAt bs k).toNat + 256 * numAt bs (k + 1) n := by
  unfold numAt
  rw [drop_eq_byteAt_cons h]
  rfl

theorem numAt_two {bs : List Byte} {k : Nat} (h : k + 1 < bs.length) :
    numAt bs k 2 = (byteAt bs k).toNat + 256 * (byteAt bs (k + 1)).toNat := by
  rw [numAt_succ (by omega), numAt_succ h]
  rfl

/-- The top byte of a four-byte number. -/
theorem numAt_four {bs : List Byte} {k : Nat} (h : k + 3 < bs.length) :
    16777216 * (byteAt bs (k + 3)).toNat ≤ numAt bs k 4 := by
  rw [numAt_succ (by omega), numAt_succ (by omega), numAt_succ (by omega), numAt_succ h]
  omega

/-! ## Items that fit (Table 79) -/

section

variable {bs : List Byte}

theorem getD_eq_byteAt (k : Nat) : bs.getD k 0 = byteAt bs k := rfl

theorem GeneralItem.fits {x : GeneralItem} (h : GeneralItem.ofBytes bs = some x) (long : 24 ≤ bs.length) :
    ¬Misfits .general bs := by
  simp only [GeneralItem.ofBytes, Option.bind_eq_bind, Option.bind_eq_some_iff] at h
  obtain ⟨_, b0, _, b1, _, b2, _, b3, _, b4, _, b5, _, b6, _, b7, _, b8, _, b9, _, b10, _, b23, -⟩ := h
  have slots : ∀ k < 6, (byteAt bs k).toNat < 96 ∨ (byteAt bs k).toNat = 255 := by
    intro k hk
    interval_cases k
    exacts [optIndexOf_lt b0, optIndexOf_lt b1, optIndexOf_lt b2, optIndexOf_lt b3, optIndexOf_lt b4, optIndexOf_lt b5]
  have inputs : ∀ k < 5, (byteAt bs (6 + k)).toNat < 32 ∨ (byteAt bs (6 + k)).toNat = 255 := by
    intro k hk
    interval_cases k
    exacts [optIndexOf_lt b6, optIndexOf_lt b7, optIndexOf_lt b8, optIndexOf_lt b9, optIndexOf_lt b10]
  have aging := inRange_le b23
  simp only [Misfits, getD_eq_byteAt]
  rintro (short | ⟨k, hk, outside⟩ | ⟨k, hk, outside⟩ | zero)
  · omega
  · have := slots k hk
    omega
  · have := inputs k hk
    omega
  · omega

theorem SlotItem.fits {x : SlotItem} (h : SlotItem.ofBytes bs = some x) (long : 2 ≤ bs.length) :
    ¬Misfits .slots bs := by
  simp only [SlotItem.ofBytes, Option.bind_eq_bind, Option.bind_eq_some_iff] at h
  obtain ⟨_, kind, _, index, -⟩ := h
  have kind := SourceKind.ofCode_le kind
  have index := optIndexOf_lt index
  simp only [Misfits, getD_eq_byteAt]
  omega

theorem SwitchItem.fits {x : SwitchItem} (h : SwitchItem.ofBytes bs = some x) (long : 2 ≤ bs.length) :
    ¬Misfits .switches bs := by
  simp only [SwitchItem.ofBytes, Option.bind_eq_bind, Option.bind_eq_some_iff] at h
  obtain ⟨_, polarity, _, debounce, -⟩ := h
  have polarity := Polarity.ofCode_le polarity
  have debounce := DebounceClass.ofMs_mem debounce
  simp only [Misfits, getD_eq_byteAt]
  rintro (short | high | other)
  · omega
  · omega
  · exact other debounce

theorem SenderItem.fits {x : SenderItem} (h : SenderItem.ofBytes bs = some x) (long : 54 ≤ bs.length) :
    ¬Misfits .senders bs := by
  obtain ⟨_, level, h⟩ := Option.bind_eq_some_iff.mp h
  obtain ⟨_, openT, h⟩ := Option.bind_eq_some_iff.mp h
  obtain ⟨_, shortT, h⟩ := Option.bind_eq_some_iff.mp h
  obtain ⟨_, count, h⟩ := Option.bind_eq_some_iff.mp h
  obtain ⟨_, p0, h⟩ := Option.bind_eq_some_iff.mp h
  obtain ⟨_, p1, h⟩ := Option.bind_eq_some_iff.mp h
  obtain ⟨_, p2, h⟩ := Option.bind_eq_some_iff.mp h
  obtain ⟨_, p3, h⟩ := Option.bind_eq_some_iff.mp h
  obtain ⟨_, p4, h⟩ := Option.bind_eq_some_iff.mp h
  obtain ⟨_, p5, h⟩ := Option.bind_eq_some_iff.mp h
  obtain ⟨_, p6, h⟩ := Option.bind_eq_some_iff.mp h
  obtain ⟨_, p7, -⟩ := Option.bind_eq_some_iff.mp h
  have level := toIndex_lt level
  have count := toIndex_lt count
  have thresholds : ∀ k ∈ [1, 3], numAt bs k 2 < 4096 ∨ numAt bs k 2 = 65535 := by
    intro k hk
    simp only [List.mem_cons, List.not_mem_nil, or_false] at hk
    rcases hk with rfl | rfl
    exacts [thresholdOf_lt openT, thresholdOf_lt shortT]
  have points : ∀ p < 8, numAt bs (6 + 6 * p) 2 < 4096 := by
    intro p hp
    interval_cases p
    exacts [curvePointAt_lt p0, curvePointAt_lt p1, curvePointAt_lt p2, curvePointAt_lt p3, curvePointAt_lt p4,
      curvePointAt_lt p5, curvePointAt_lt p6, curvePointAt_lt p7]
  simp only [Misfits, getD_eq_byteAt]
  rintro (short | high | ⟨k, hk, high⟩ | high | ⟨p, hp, high⟩)
  · omega
  · omega
  · have inside : k + 1 < bs.length := by
      simp only [List.mem_cons, List.not_mem_nil, or_false] at hk
      omega
    have := thresholds k hk
    rw [numAt_two inside] at this
    omega
  · omega
  · have := points p hp
    rw [numAt_two (by omega)] at this
    omega

theorem ChannelItem.fits {x : ChannelItem} (h : ChannelItem.ofBytes bs = some x) (long : 19 ≤ bs.length) :
    ¬Misfits .channels bs := by
  simp only [ChannelItem.ofBytes, Option.bind_eq_bind, Option.bind_eq_some_iff] at h
  obtain ⟨_, mode, _, pulse, _, edge, _, gate, _, polarity, _, soft, _, clear, _, window, _, divisor, _, role, _, body,
    -⟩ := h
  have mode := ChannelMode.ofCode_le mode
  have pulse := toIndex_lt pulse
  have edge := EdgeChoice.ofCode_le edge
  have gate := optIndexOf_lt gate
  have flags : ∀ k ∈ [4, 5, 6, 18], (byteAt bs k).toNat ≤ 1 := by
    intro k hk
    simp only [List.mem_cons, List.not_mem_nil, or_false] at hk
    rcases hk with rfl | rfl | rfl | rfl
    exacts [GatePolarity.ofCode_le polarity, flagOf_le soft, flagOf_le clear, flagOf_le body]
  have window := RateWindow.ofMs_mem window
  rw [numAt_two (by omega)] at window
  have divisor := inRange_le divisor
  rw [numAt_two (by omega)] at divisor
  have role := Role.ofCode_le role
  simp only [Misfits, getD_eq_byteAt]
  rintro (short | high | high | high | outside | ⟨k, hk, high⟩ | other | zero | high | high)
  · omega
  · omega
  · omega
  · omega
  · omega
  · have := flags k hk
    omega
  · exact other window
  · omega
  · omega
  · omega

theorem FilterItem.fits {x : FilterItem} (h : FilterItem.ofBytes bs = some x) (long : 25 ≤ bs.length) :
    ¬Misfits .filters bs := by
  simp only [FilterItem.ofBytes, Option.bind_eq_bind, Option.bind_eq_some_iff] at h
  obtain ⟨_, enabled, _, identifier, _, mask, _, extended, _, start, _, length, _, order, _, signed, _, divisor, _, target,
    _, timeout, -⟩ := h
  have flags : ∀ k ∈ [0, 9, 12, 13], (byteAt bs k).toNat ≤ 1 := by
    intro k hk
    simp only [List.mem_cons, List.not_mem_nil, or_false] at hk
    rcases hk with rfl | rfl | rfl | rfl
    exacts [flagOf_le enabled, flagOf_le extended, ByteOrder.ofCode_le order, flagOf_le signed]
  have identifier := identifierOf_lt identifier
  have identifier_top := numAt_four (bs := bs) (k := 1) (by omega)
  have mask := identifierOf_lt mask
  have mask_top := numAt_four (bs := bs) (k := 5) (by omega)
  simp only [Nat.reduceAdd] at identifier_top mask_top
  have start := inRange_le start
  have length := inRange_le length
  have divisor := inRange_le divisor
  rw [numAt_two (by omega)] at divisor
  have target := optIndexOf_lt target
  have timeout := refreshTimeoutOf_le timeout
  rw [numAt_two (by omega)] at timeout
  simp only [Misfits, getD_eq_byteAt]
  rintro (short | ⟨k, hk, high⟩ | outside)
  · omega
  · have := flags k hk
    omega
  · omega

theorem RuleItem.fits {x : RuleItem} (h : RuleItem.ofBytes bs = some x) (long : 24 ≤ bs.length) :
    ¬Misfits .rules bs := by
  simp only [RuleItem.ofBytes, Option.bind_eq_bind, Option.bind_eq_some_iff] at h
  obtain ⟨_, enabled, _, slot, _, comparison, _, qualifier, _, raise, _, clear, _, cls, _, latching, _, code, _, interval,
    -⟩ := h
  have flags : ∀ k ∈ [0, 20], (byteAt bs k).toNat ≤ 1 := by
    intro k hk
    simp only [List.mem_cons, List.not_mem_nil, or_false] at hk
    rcases hk with rfl | rfl
    exacts [flagOf_le enabled, flagOf_le latching]
  have slot := toIndex_lt slot
  have comparison := Comparison.ofCode_le comparison
  have qualifier := qualifierAt_le qualifier
  simp only [Nat.reduceAdd] at qualifier
  have raise := inRange_le raise
  rw [numAt_two (by omega)] at raise
  have clear := inRange_le clear
  rw [numAt_two (by omega)] at clear
  have cls := WarningClass.ofCode_le cls
  have code := faultCodeOf_le code
  rw [numAt_two (by omega)] at code
  have interval := inRange_le interval
  simp only [Misfits, getD_eq_byteAt]
  rintro (short | ⟨k, hk, high⟩ | outside)
  · omega
  · have := flags k hk
    omega
  · omega

theorem DoorItem.fits {x : DoorItem} (h : DoorItem.ofBytes bs = some x) (long : 14 ≤ bs.length) :
    ¬Misfits .doors bs := by
  simp only [DoorItem.ofBytes, Option.bind_eq_bind, Option.bind_eq_some_iff] at h
  obtain ⟨_, present, _, closed, _, b2, _, b3, _, b4, _, b5, _, b6, _, openL, _, closeL, _, reversal, _, settle, -⟩ := h
  have present := flagOf_le present
  have closed := toIndex_lt closed
  have inputs : ∀ k < 5, (byteAt bs (2 + k)).toNat < 32 ∨ (byteAt bs (2 + k)).toNat = 255 := by
    intro k hk
    interval_cases k
    exacts [optIndexOf_lt b2, optIndexOf_lt b3, optIndexOf_lt b4, optIndexOf_lt b5, optIndexOf_lt b6]
  have limits : ∀ k ∈ [7, 9], 500 ≤ numAt bs k 2 ∧ numAt bs k 2 ≤ 20000 := by
    intro k hk
    simp only [List.mem_cons, List.not_mem_nil, or_false] at hk
    rcases hk with rfl | rfl
    exacts [inRange_le openL, inRange_le closeL]
  have reversal := inRange_le reversal
  have settle := inRange_le settle
  rw [numAt_two (by omega)] at settle
  simp only [Misfits, getD_eq_byteAt]
  rintro (short | high | high | ⟨k, hk, outside⟩ | ⟨k, hk, outside⟩ | outside)
  · omega
  · omega
  · omega
  · have := inputs k hk
    omega
  · have inside : k + 1 < bs.length := by
      simp only [List.mem_cons, List.not_mem_nil, or_false] at hk
      omega
    have := limits k hk
    rw [numAt_two inside] at this
    omega
  · omega

end

/-- An item that is cut short or has a field out of range is taken nowhere (R185). -/
theorem withItem_of_misfits {c : Calibration} {sec : CalibSection} {i : Nat} {bs : List Byte} (h : Misfits sec bs) :
    c.withItem sec i bs = none := by
  by_contra taken
  obtain ⟨c', taken⟩ := Option.ne_none_iff_exists'.mp taken
  unfold Calibration.withItem at taken
  split at taken
  · cases taken
  · next long =>
    have long := Nat.not_lt.mp long
    cases sec <;> simp only [Option.bind_eq_bind, Option.bind_eq_some_iff] at taken <;>
      obtain ⟨_, -, x, decoded, -⟩ := taken
    exacts [GeneralItem.fits decoded long h, SlotItem.fits decoded long h, SwitchItem.fits decoded long h,
      SenderItem.fits decoded long h, ChannelItem.fits decoded long h, FilterItem.fits decoded long h,
      RuleItem.fits decoded long h, DoorItem.fits decoded long h]

/-- No section takes an item at an index beyond its own (R185). -/
theorem withItem_of_outside {c : Calibration} {sec : CalibSection} {i : Nat} {bs : List Byte} (h : sec.count ≤ i) :
    c.withItem sec i bs = none := by
  by_contra taken
  obtain ⟨c', taken⟩ := Option.ne_none_iff_exists'.mp taken
  unfold Calibration.withItem at taken
  split at taken
  · cases taken
  · cases sec <;> simp only [Option.bind_eq_bind, Option.bind_eq_some_iff] at taken <;>
      obtain ⟨_, index, -⟩ := taken <;> exact absurd (toIndex_lt index) (Nat.not_lt.mpr h)

end Sys2Proof.Machine
end

section
/-! SUPPORT. Validation (R186): the check of each section is the conditions of that section. -/

namespace Sys2Proof.Machine

open Sys2Proof.Claims

theorem forall_val_eq {n i : Nat} (h : i < n) {P : Fin n → Prop} : (∀ k : Fin n, k.val = i → P k) ↔ P ⟨i, h⟩ := by
  refine ⟨fun all => all ⟨i, h⟩ rfl, fun here k same => ?_⟩
  subst same
  exact here

theorem bound_iff (c : Calibration) (k : Fin 96) : c.bound k = true ↔ c.slots[k].kind ≠ .unused := by
  unfold Calibration.bound
  rw [bne_iff_ne]

theorem roleBound_iff (c : Calibration) (o : Option (Fin 96)) :
    c.roleBound o = true ↔ ∀ k, some k = o → c.slots[k].kind ≠ .unused := by
  cases o with
  | none => simp [Calibration.roleBound]
  | some k =>
    rw [show c.roleBound (some k) = c.bound k from rfl, bound_iff]
    exact ⟨fun bound j same => Option.some.inj same ▸ bound, fun all => all k rfl⟩

theorem generalValid_iff (c : Calibration) : c.generalValid = true ↔ MeetsConditions c .general 0 := by
  unfold Calibration.generalValid
  rw [Bool.and_eq_true, Bool.and_eq_true, Bool.and_eq_true, decide_eq_true_eq, List.all_eq_true, roleBound_iff,
    roleBound_iff]
  simp only [roleBound_iff, MeetsConditions, List.mem_cons]
  refine and_congr_left fun _ => ⟨fun ⟨⟨speed, brake⟩, freeze⟩ k named => ?_, fun all => ⟨⟨fun k h => all k (.inl h),
    fun k h => all k (.inr (.inl h))⟩, fun o listed k h => all k (.inr (.inr (h ▸ listed)))⟩⟩
  rcases named with named | named | listed
  · exact speed k named
  · exact brake k named
  · exact freeze _ listed k rfl

/-- What R2 asks of a slot binding. -/
theorem slotValid_iff (c : Calibration) (k : Fin 96) : c.slotValid k = true ↔ MeetsConditions c .slots k.val := by
  unfold MeetsConditions
  dsimp only
  rw [forall_val_eq k.isLt]
  unfold Calibration.slotValid SlotItem.indexFits
  simp only [Fin.eta]
  generalize c.slots[k] = x
  obtain ⟨kind, index⟩ := x
  cases kind <;> cases index <;> simp

theorem risingStrictly_iff (l : List Nat) : risingStrictly l = true ↔ l.Pairwise (· < ·) := by
  induction l with
  | nil => simp [risingStrictly]
  | cons a l ih =>
    cases l with
    | nil => simp [risingStrictly]
    | cons b l =>
      rw [risingStrictly, Bool.and_eq_true, decide_eq_true_eq, ih, List.pairwise_cons (a := a)]
      refine and_congr_left fun rising => ?_
      constructor
      · intro first x listed
        rcases List.mem_cons.mp listed with rfl | later
        · exact first
        · exact first.trans ((List.pairwise_cons.mp rising).1 x later)
      · intro all
        exact all b List.mem_cons_self

/-- The points in use rise strictly exactly when each of two of them does (R26). -/
theorem pointsInUse_rising_iff (x : SenderItem) : risingStrictly (x.pointsInUse.map fun p => p.raw.toNat) = true
    ↔ ∀ a b : Fin 8, a < b → b.val < x.pointCount.val → x.points[a].raw < x.points[b].raw := by
  have length : x.points.toList.length = 8 := Vector.length_toList
  rw [risingStrictly_iff, List.pairwise_map, List.pairwise_iff_getElem]
  unfold SenderItem.pointsInUse
  simp only [List.length_take, length, List.getElem_take, Vector.getElem_toList]
  refine ⟨fun rising a b before used => ?_, fun rising a b ha hb before => ?_⟩
  · exact rising a.val b.val (by omega) (by omega) before
  · exact rising ⟨a, by omega⟩ ⟨b, by omega⟩ before (by show b < _; omega)

theorem senderValid_iff (c : Calibration) (k : Fin 8) :
    c.senders[k].valid = true ↔ MeetsConditions c .senders k.val := by
  unfold MeetsConditions
  dsimp only
  rw [forall_val_eq k.isLt]
  simp only [Fin.eta]
  generalize c.senders[k] = x
  unfold SenderItem.valid
  rw [Bool.and_eq_true, Bool.and_eq_true, decide_eq_true_eq, pointsInUse_rising_iff, and_assoc]
  refine and_congr_right fun _ => and_congr_right fun _ => ?_
  cases x.openThreshold <;> cases x.shortThreshold <;> simp

theorem roleTaken_iff (c : Calibration) (k : Fin 8) :
    c.roleTaken k = true ↔ ∃ j < k, c.channels[j].role = c.channels[k].role := by
  unfold Calibration.roleTaken
  simp [allEight]

theorem channelValid_iff (c : Calibration) (k : Fin 8) :
    c.channelValid k = true ↔ MeetsConditions c .channels k.val := by
  unfold MeetsConditions
  dsimp only
  rw [forall_val_eq k.isLt]
  unfold Calibration.channelValid
  have taken : c.roleTaken k = false ↔ ∀ j < k, c.channels[j].role ≠ c.channels[k].role := by
    rw [← Bool.not_eq_true, roleTaken_iff]
    simp only [not_exists, not_and, ne_eq]
  simp only [Fin.eta, Bool.and_eq_true, Bool.or_eq_true, Bool.not_eq_true', taken, Bool.and_eq_false_iff,
    beq_eq_false_iff_ne, beq_iff_eq, ne_eq]
  tauto

theorem filterValid_iff (c : Calibration) (k : Fin 32) : c.filterValid k = true ↔ MeetsConditions c .filters k.val := by
  unfold MeetsConditions
  dsimp only
  rw [forall_val_eq k.isLt]
  unfold Calibration.filterValid
  simp only [Fin.eta]
  generalize c.filters[k] = x
  have extended : x.extended = true ∨ x.identifier.toNat ≤ 0x7FF
      ↔ (x.extended = false → x.identifier.toNat ≤ 0x7FF) := by cases x.extended <;> simp
  have targeted : x.enabled = false ∨ x.targetSlot.isSome = true ↔ (x.enabled = true → x.targetSlot ≠ none) := by
    cases x.enabled <;> simp [Option.isSome_iff_ne_none]
  simp only [Bool.and_eq_true, Bool.or_eq_true, Bool.not_eq_true', decide_eq_true_eq, extended, targeted, and_assoc]
  refine and_congr_right fun _ => and_congr_right fun _ => and_congr_right fun _ => ?_
  cases x.targetSlot <;> simp

theorem codeTaken_iff (c : Calibration) (k : Fin 48) : c.codeTaken k = true
    ↔ ∃ j < k, c.rules[j].enabled = true ∧ c.rules[j].faultCode = c.rules[k].faultCode := by
  unfold Calibration.codeTaken
  simp [allRules, and_assoc]

theorem ruleValid_iff (c : Calibration) (k : Fin 48) : c.ruleValid k = true ↔ MeetsConditions c .rules k.val := by
  unfold MeetsConditions
  dsimp only
  rw [forall_val_eq k.isLt]
  simp only [Fin.eta]
  have taken : c.codeTaken k = false
      ↔ ∀ j < k, c.rules[j].enabled = true → c.rules[j].faultCode ≠ c.rules[k].faultCode := by
    rw [← Bool.not_eq_true, codeTaken_iff]
    simp only [not_exists, not_and, ne_eq]
  unfold Calibration.ruleValid
  dsimp only
  generalize c.rules[k] = x at taken ⊢
  rw [Bool.or_eq_true, Bool.not_eq_true', ← Bool.not_eq_true, ← imp_iff_not_or]
  refine imp_congr_right fun _ => ?_
  have qualified : (match x.qualifier with | none => true | some q => c.bound q.slot) = true
      ↔ ∀ q, x.qualifier = some q → c.slots[q.slot].kind ≠ .unused := by
    cases x.qualifier with
    | none => simp
    | some q => exact (bound_iff c q.slot).trans ⟨fun h p same => Option.some.inj same ▸ h, fun h => h q rfl⟩
  have latching : x.latching = false ∨ x.cls = .stop ↔ (x.latching = true → x.cls = .stop) := by
    cases x.latching <;> simp
  have interval : (x.reAnnounce = 0 ∨ x.cls = .stop) ∨ x.cls = .caution
      ↔ (x.reAnnounce ≠ 0 → x.cls = .stop ∨ x.cls = .caution) := by tauto
  have code : (match x.faultCode with | none => true | some code => !c.codeTaken k && !reservedCode code) = true
      ↔ ∀ code, x.faultCode = some code → ¬(0xE000 ≤ code.toNat ∧ code.toNat ≤ 0xEFFF)
        ∧ ∀ j : Fin 48, j < k → c.rules[j].enabled = true → c.rules[j].faultCode ≠ some code := by
    cases present : x.faultCode with
    | none => simp
    | some code =>
      rw [present] at taken
      simp only [Bool.and_eq_true, Bool.not_eq_true', taken, reservedCode, decide_eq_false_iff_not]
      refine ⟨fun ⟨free, own⟩ code' same => ?_, fun all => (all code rfl).symm⟩
      rw [← Option.some.inj same]
      exact ⟨own, free⟩
  simp only [Bool.and_eq_true, Bool.or_eq_true, Bool.not_eq_true', beq_iff_eq, bound_iff, latching, interval, and_assoc]
  exact and_congr_right fun _ => and_congr qualified (and_congr_right fun _ => and_congr_right fun _ => code)

theorem inputs_nodup_iff (l : List (Option (Fin 32))) :
    (l.filterMap id).Nodup ↔ l.Pairwise fun a b => a = none ∨ a ≠ b := by
  unfold List.Nodup
  rw [List.pairwise_filterMap]
  refine List.Pairwise.iff fun a b => ?_
  cases a <;> cases b <;> simp

theorem doorValid_iff (c : Calibration) (k : Fin 4) : c.doors[k].valid = true ↔ MeetsConditions c .doors k.val := by
  unfold MeetsConditions
  dsimp only
  rw [forall_val_eq k.isLt]
  simp only [Fin.eta]
  generalize c.doors[k] = x
  unfold DoorItem.valid DoorItem.inputs
  rw [Bool.or_eq_true, Bool.not_eq_true', ← Bool.not_eq_true, ← imp_iff_not_or]
  refine imp_congr_right fun _ => ?_
  rw [Bool.and_eq_true, decide_eq_true_eq, inputs_nodup_iff, Bool.or_eq_true, decide_eq_true_eq]
  refine and_congr_right fun _ => ?_
  cases x.openInput <;> simp

/-- Validation of an item is the conditions of its section (R186). -/
theorem itemValid_iff (c : Calibration) {sec : CalibSection} {i : Nat} (h : i < sec.count) :
    c.itemValid sec i = true ↔ MeetsConditions c sec i := by
  unfold Calibration.itemValid
  cases sec <;> dsimp only [CalibSection.count] at h <;> dsimp only
  case general => exact generalValid_iff c
  case switches => simp [MeetsConditions]
  all_goals rw [toIndex_of_lt h]
  case slots => exact slotValid_iff c ⟨i, h⟩
  case senders => exact senderValid_iff c ⟨i, h⟩
  case channels => exact channelValid_iff c ⟨i, h⟩
  case filters => exact filterValid_iff c ⟨i, h⟩
  case rules => exact ruleValid_iff c ⟨i, h⟩
  case doors => exact doorValid_iff c ⟨i, h⟩

end Sys2Proof.Machine
end

section
/-! SUPPORT. The requests of the staging calibration (R185, R186). -/

namespace Sys2Proof.Machine

open Sys2Proof.Claims

/-! ## Items in their order -/

/-- Section order, and index order within a section (R186). -/
def ItemBefore (x y : CalibSection × Nat) : Prop := x.1.code < y.1.code ∨ (x.1 = y.1 ∧ x.2 < y.2)

theorem allItems_ordered : allItems.Pairwise ItemBefore := by
  unfold allItems
  rw [List.pairwise_flatMap]
  constructor
  · intro sec _
    rw [List.pairwise_map]
    exact List.pairwise_lt_range.imp fun before => .inr ⟨rfl, before⟩
  · have sections : allSections.Pairwise fun a b => a.code < b.code := by decide
    refine sections.imp fun before x hx y hy => .inl ?_
    obtain ⟨_, -, rfl⟩ := List.mem_map.mp hx
    obtain ⟨_, -, rfl⟩ := List.mem_map.mp hy
    exact before

theorem mem_allItems {sec : CalibSection} {i : Nat} : (sec, i) ∈ allItems ↔ i < sec.count := by
  unfold allItems
  rw [List.mem_flatMap]
  constructor
  · rintro ⟨sec', -, listed⟩
    obtain ⟨j, inside, same⟩ := List.mem_map.mp listed
    obtain ⟨rfl, rfl⟩ := Prod.mk.inj same
    exact List.mem_range.mp inside
  · intro inside
    have listed : sec ∈ allSections := by cases sec <;> decide
    exact ⟨sec, listed, List.mem_map.mpr ⟨i, List.mem_range.mpr inside, rfl⟩⟩

theorem firstFault_eq_none {c : Calibration} (h : ∀ sec i, i < CalibSection.count sec → c.itemValid sec i = true) :
    c.firstFault = none := by
  unfold Calibration.firstFault
  rw [List.find?_eq_none]
  rintro ⟨sec, i⟩ listed
  simp [h sec i (mem_allItems.mp listed)]

/-- The item at fault whose predecessors are all valid is the first (R186). -/
theorem firstFault_eq_some {c : Calibration} {sec : CalibSection} {i : Nat} (inside : i < sec.count)
    (fault : c.itemValid sec i = false)
    (before : ∀ (sec' : CalibSection) (j : Nat), j < sec'.count → ItemBefore (sec', j) (sec, i) →
      c.itemValid sec' j = true) : c.firstFault = some (sec, i) := by
  cases found : c.firstFault with
  | none =>
    have valid := List.find?_eq_none.mp found (sec, i) (mem_allItems.mpr inside)
    simp [fault] at valid
  | some y =>
    obtain ⟨at_fault, pre, post, laid, valid⟩ := List.find?_eq_some_iff_append.mp found
    have listed := mem_allItems.mpr inside
    have ordered := allItems_ordered
    rw [laid] at listed ordered
    rcases List.mem_append.mp listed with early | late
    · have := valid _ early
      simp [fault] at this
    · rcases List.mem_cons.mp late with same | later
      · rw [same]
      · have first := (List.pairwise_cons.mp (List.pairwise_append.mp ordered).2.1).1 _ later
        have y_inside : y.2 < y.1.count := by
          refine mem_allItems.mp ?_
          rw [laid]
          simp
        simp [before y.1 y.2 y_inside first] at at_fault

/-! ## Arguments -/

theorem ofCode_code (sec : CalibSection) : CalibSection.ofCode (numByte sec.code).toNat = some sec := by
  cases sec <;> rfl

theorem ofCode_le {n : Nat} {sec : CalibSection} (h : CalibSection.ofCode n = some sec) : n ≤ 7 := by
  unfold CalibSection.ofCode at h
  split at h <;> simp at h ⊢

theorem ofCode_eq_none {n : Nat} (h : 7 < n) : CalibSection.ofCode n = none :=
  Option.eq_none_iff_forall_ne_some.mpr fun _ found => absurd (ofCode_le found) (by omega)

theorem index_toNat {sec : CalibSection} {i : Nat} (h : i < sec.count) : (numByte i).toNat = i := by
  refine numByte_toNat ?_
  cases sec <;> dsimp only [CalibSection.count] at h <;> omega

/-! ## CALIB_LOAD -/

theorem exec_calibLoad {s : State} {r : Request} (h : InHand s .service .calibLoad r) (service : s.svc.state ≠ .off) :
    exec .calibLoad s = .next (handBack .service r (calibLoadWork r.payload (unconfirmed s))) := by
  rw [← inService_on (s := unconfirmed s) service calibLoadWork, ← serviceRequest_inHand h]
  exact act_supplied (supply_of_inHand h) _

section

variable {s : State} {sec : CalibSection} {i : Byte} {item : List Byte}

theorem calibLoadWork_takes {c : Calibration}
    (taken : (s.svc.staging.getD s.cal).withItem sec i.toNat item = some c) :
    calibLoadWork (numByte sec.code :: i :: item) s = accept (s.setSvc { s.svc with staging := some c }) [] := by
  unfold calibLoadWork
  simp only [List.getElem?_cons_zero, Option.bind_some, ofCode_code, List.getElem?_cons_succ, List.drop_succ_cons,
    List.drop_zero, taken]

theorem calibLoadWork_misfits (none : (s.svc.staging.getD s.cal).withItem sec i.toNat item = none) :
    calibLoadWork (numByte sec.code :: i :: item) s = refuse s .badArgument := by
  unfold calibLoadWork
  simp only [List.getElem?_cons_zero, Option.bind_some, ofCode_code, List.getElem?_cons_succ, List.drop_succ_cons,
    List.drop_zero, none]

end

/-- CALIB_LOAD with a field missing, a section or index out of range, or an item that does not fit (R185). -/
theorem calibLoadWork_refuses {s : State} {bs : List Byte} (h : bs.length < 2 ∨ (∃ b rest, bs = b :: rest ∧ 7 < b.toNat)
      ∨ ∃ (sec : CalibSection) (i : Byte) (item : List Byte),
        bs = numByte sec.code :: i :: item ∧ (sec.count ≤ i.toNat ∨ Misfits sec item)) :
    calibLoadWork bs s = refuse s .badArgument := by
  rcases h with short | ⟨b, rest, rfl, outside⟩ | ⟨sec, i, item, rfl, misfit⟩
  · unfold calibLoadWork
    dsimp only
    rw [List.getElem?_eq_none (i := 1) (by omega)]
    split <;> simp_all
  · unfold calibLoadWork
    simp [ofCode_eq_none outside]
  · exact calibLoadWork_misfits (misfit.elim withItem_of_outside withItem_of_misfits)

/-! ## CALIB_READ -/

theorem exec_calibRead {s : State} {r : Request} (h : InHand s .service .calibRead r) :
    exec .calibRead s = .next (handBack .service r (calibReadWork r.payload (unconfirmed s))) := by
  rw [← serviceRequest_inHand h]
  exact act_supplied (supply_of_inHand h) _

section

variable {s : State} {sec : CalibSection} {i : Nat} (h : i < sec.count)
include h

theorem not_readOutside {src : Byte} (source : src.toNat ≤ 1) :
    ¬(!sec.hasIndex i || decide (1 < src.toNat)) = true := by
  simp only [CalibSection.hasIndex, decide_eq_true h, Bool.not_true, Bool.false_or, decide_eq_true_eq]
  omega

theorem calibReadWork_active (rest : List Byte) :
    calibReadWork (0 :: numByte sec.code :: numByte i :: rest) s = accept s (s.cal.itemBytes sec i) := by
  unfold calibReadWork
  simp only [List.getElem?_cons_zero, List.getElem?_cons_succ, Option.bind_some, ofCode_code, index_toNat h]
  rw [if_neg (not_readOutside h (by decide))]
  exact if_pos rfl

theorem calibReadWork_staged {c : Calibration} (staged : s.svc.staging = some c) (rest : List Byte) :
    calibReadWork (1 :: numByte sec.code :: numByte i :: rest) s = accept s (c.itemBytes sec i) := by
  unfold calibReadWork
  simp only [List.getElem?_cons_zero, List.getElem?_cons_succ, Option.bind_some, ofCode_code, index_toNat h, staged]
  rw [if_neg (not_readOutside h (by decide))]
  exact if_neg (by decide)

theorem calibReadWork_absent (absent : s.svc.staging = none) (rest : List Byte) :
    calibReadWork (1 :: numByte sec.code :: numByte i :: rest) s = refuse s .noSuchEntry := by
  unfold calibReadWork
  simp only [List.getElem?_cons_zero, List.getElem?_cons_succ, Option.bind_some, ofCode_code, index_toNat h, absent]
  rw [if_neg (not_readOutside h (by decide))]
  exact if_neg (by decide)

end

/-- CALIB_READ with a field missing, or a source, section or index out of range (R185). -/
theorem calibReadWork_refuses {s : State} {bs : List Byte} (h : bs.length < 3 ∨ ∃ src b i rest, bs = src :: b :: i :: rest
      ∧ (1 < src.toNat ∨ 7 < b.toNat ∨ ∃ sec : CalibSection, b = numByte sec.code ∧ sec.count ≤ i.toNat)) :
    calibReadWork bs s = refuse s .badArgument := by
  rcases h with short | ⟨src, b, i, rest, rfl, outside⟩
  · unfold calibReadWork
    rw [List.getElem?_eq_none (i := 2) (by omega)]
    split <;> simp_all
  · unfold calibReadWork
    simp only [List.getElem?_cons_zero, List.getElem?_cons_succ, Option.bind_some]
    cases found : CalibSection.ofCode b.toNat with
    | none => rfl
    | some sec =>
      refine if_pos ?_
      simp only [CalibSection.hasIndex, Bool.or_eq_true, Bool.not_eq_true', decide_eq_false_iff_not, decide_eq_true_eq]
      rcases outside with source | section_outside | ⟨sec', rfl, index⟩
      · exact .inr source
      · rw [ofCode_eq_none section_outside] at found
        cases found
      · rw [ofCode_code] at found
        obtain rfl := Option.some.inj found
        exact .inl (by omega)

/-! ## CALIB_COMMIT_PREPARE -/

theorem exec_commitPrepare {s : State} {r : Request} (h : InHand s .service .calibCommitPrepare r)
    (service : s.svc.state ≠ .off) : exec .calibCommitPrepare s
      = .next (handBack .service r (commitPrepareWork r.payload (unconfirmed s))) := by
  rw [← inService_on (s := unconfirmed s) service commitPrepareWork, ← serviceRequest_inHand h]
  exact act_supplied (supply_of_inHand h) _

theorem calibrationBusy_iff (r : Rst) : r.calibrationBusy = true
    ↔ Job.calibWrite ∈ r.queue ∨ ∃ j, r.controller = .running j ∧ j.job = .calibWrite := by
  unfold Rst.calibrationBusy
  rw [Bool.or_eq_true, List.contains_iff_mem]
  refine or_congr_right ?_
  cases r.controller with
  | running j => simp
  | idle => simp
  | erasing b => simp

section

variable {s : State} {c : Calibration} (staged : s.svc.staging = some c) (bs : List Byte)
include staged

theorem commitPrepareWork_busy (busy : s.rst.calibrationBusy = true) :
    commitPrepareWork bs s = refuse s .storeBusy := by
  unfold commitPrepareWork
  simp only [staged, busy, if_true]

theorem commitPrepareWork_fault (free : s.rst.calibrationBusy ≠ true) {sec : CalibSection} {i : Nat}
    (fault : c.firstFault = some (sec, i)) :
    commitPrepareWork bs s = ⟨s, .configInvalid, [numByte sec.code, numByte i]⟩ := by
  unfold commitPrepareWork
  simp only [staged, fault]
  exact if_neg free

theorem commitPrepareWork_prepares (free : s.rst.calibrationBusy ≠ true) (valid : c.firstFault = none) :
    commitPrepareWork bs s = accept (s.prepare .calibCommit) [] := by
  unfold commitPrepareWork
  simp only [staged, valid]
  exact if_neg free

end

theorem commitPrepareWork_absent {s : State} (absent : s.svc.staging = none) (bs : List Byte) :
    commitPrepareWork bs s = refuse s .sequence := by
  unfold commitPrepareWork
  simp only [absent]

end Sys2Proof.Machine

open Sys2Proof Sys2Proof.Machine Sys2Proof.Claims in
/-- Settles O54: an item comes back from its bytes, a decoded item fits, and the first item at fault is the one whose
predecessors all meet their conditions. -/
theorem calibrationIsStagedReadAndPrepared : Obligations.CalibrationIsStagedReadAndPrepared := by
  refine ⟨fun c sec i inside => itemValid_iff c inside, fun s r => ⟨fun given sec i h service ranges inside payload => ?_,
    fun sec i rest h inside => ⟨fun payload => ?_, fun c staged payload => ?_⟩,
    fun c h service staged queue running valid => ?_, fun h service bad => ?_,
    fun h => ⟨fun bad => ?_, fun sec i rest inside staged payload => ?_⟩, fun h service => ?_⟩⟩
  · obtain ⟨c, taken, items⟩ := withItem_itemBytes (s.svc.staging.getD s.cal) ranges inside
    refine ⟨c, ?_, (items sec i).trans (if_pos rfl), fun sec' j other => (items sec' j).trans (if_neg other)⟩
    rw [exec_calibLoad h service, payload, calibLoadWork_takes (c := c), handBack_accept]
    rw [index_toNat inside]
    exact taken
  · rw [exec_calibRead h, payload, calibReadWork_active inside, handBack_accept]
    rfl
  · rw [exec_calibRead h, payload, calibReadWork_staged (s := unconfirmed s) inside staged, handBack_accept]
  · have free : (unconfirmed s).rst.calibrationBusy ≠ true :=
      mt (calibrationBusy_iff s.rst).mp fun busy => busy.elim queue fun ⟨j, runs, job⟩ => running j runs job
    rw [exec_commitPrepare h service,
      commitPrepareWork_prepares (s := unconfirmed s) staged _ free (firstFault_eq_none valid), handBack_accept]
    rfl
  · rw [exec_calibLoad h service, calibLoadWork_refuses bad, handBack_refuse]
  · rw [exec_calibRead h, calibReadWork_refuses bad, handBack_refuse]
  · rw [exec_calibRead h, payload, calibReadWork_absent (s := unconfirmed s) inside staged, handBack_refuse]
  · refine ⟨fun absent => ?_, fun staged busy => ?_, fun c sec i staged free inside fault before => ?_⟩
    · rw [exec_commitPrepare h service, commitPrepareWork_absent (s := unconfirmed s) absent, handBack_refuse]
    · obtain ⟨c, staged⟩ := Option.ne_none_iff_exists'.mp staged
      rw [exec_commitPrepare h service,
        commitPrepareWork_busy (s := unconfirmed s) staged _ ((calibrationBusy_iff _).mpr busy), handBack_refuse]
    · rw [exec_commitPrepare h service,
        commitPrepareWork_fault (s := unconfirmed s) staged _ (mt (calibrationBusy_iff _).mp free)
          (firstFault_eq_some inside fault before), handBack_reply]
end

section
/-! SUPPORT. Events in groups without order: what the delivery of a group establishes, and what happens once. -/

namespace Sys2Proof.Machine

open Sys2Proof.Claims

/-! ## Order -/

theorem Delivered.split {l k : List Delivery} {s t : State} (h : Delivered (l ++ k) s t) :
    ∃ u, Delivered l s u ∧ Delivered k u t := by
  generalize both : l ++ k = ds at h
  induction h generalizing l with
  | done s =>
    obtain ⟨rfl, rfl⟩ := List.append_eq_nil_iff.mp both
    exact ⟨s, .done s, .done s⟩
  | draw _ ih =>
    obtain ⟨u, first, last⟩ := ih both
    exact ⟨u, .draw first, last⟩
  | @take d ds s t rest ih =>
    cases l with
    | nil =>
      rw [List.nil_append] at both
      exact ⟨s, .done s, both ▸ .take rest⟩
    | cons e l =>
      obtain ⟨rfl, tail⟩ := List.cons.inj both
      obtain ⟨u, first, last⟩ := ih tail
      exact ⟨u, .take first, last⟩

/-- A view that one delivery turns, and the others keep, is turned once, whatever the order. -/
theorem Delivered.once {α : Type} {I : State → Prop} {view : State → α} {turn : α → α} {d : Delivery}
    {l rest : List Delivery} {s t : State} (run : Delivered l s t) (perm : l.Perm (d :: rest))
    (drawI : ∀ u, I u → I u.drawn) (drawn : ∀ u, view u.drawn = view u) (keepI : ∀ e ∈ d :: rest, ∀ u, I u → I (e u))
    (turns : ∀ u, I u → view (d u) = turn (view u)) (keeps : ∀ e ∈ rest, ∀ u, I u → view (e u) = view u) (hs : I s) :
    view t = turn (view s) := by
  obtain ⟨pre, post, rfl⟩ := List.append_of_mem (perm.mem_iff.mpr List.mem_cons_self)
  have others : ∀ e, e ∈ pre ∨ e ∈ post → e ∈ rest := fun e he =>
    (List.perm_middle.symm.trans perm).cons_inv.mem_iff.mp (List.mem_append.mpr he)
  have stays {k : List Delivery} {a b : State} (hk : ∀ e ∈ k, e ∈ rest) (part : Delivered k a b) (ha : I a) :
      I b ∧ view b = view a :=
    part.induct (P := fun u => I u ∧ view u = view a) (fun u ⟨i, v⟩ => ⟨drawI u i, (drawn u).trans v⟩)
      (fun e he u ⟨i, v⟩ => ⟨keepI e (List.mem_cons_of_mem _ (hk e he)) u i, (keeps e (hk e he) u i).trans v⟩) ⟨ha, rfl⟩
  obtain ⟨u, first, last⟩ := run.split
  obtain ⟨hu, same⟩ := stays (fun e he => others e (.inl he)) first hs
  rw [← same]
  clear run first same perm
  generalize both : d :: post = ds at last
  induction last with
  | done => cases both
  | draw _ ih =>
    exact (ih (drawI _ hu) both).trans (congrArg turn (drawn _))
  | take part _ =>
    obtain ⟨rfl, rfl⟩ := List.cons.inj both
    rw [(stays (fun e he => others e (.inr he)) part (keepI _ List.mem_cons_self _ hu)).2]
    exact turns _ hu

/-- What one delivery of a group brings about holds in the end, where every delivery of the group and of the later
groups, and every free one, keeps it. -/
theorem deliverGroups_establishes {I P : State → Prop} {pre post : List (List Delivery)} {group free : List Delivery}
    {d : Delivery} (hd : d ∈ group) (drawI : ∀ u, I u → I u.drawn) (drawP : ∀ u, P u → P u.drawn)
    (keepI : ∀ g ∈ pre ++ group :: post, ∀ e ∈ g, ∀ u, I u → I (e u)) (freeI : ∀ e ∈ free, ∀ u, I u → I (e u))
    (makes : ∀ u, I u → P (d u)) (keepP : ∀ g ∈ group :: post, ∀ e ∈ g, ∀ u, I u → P u → P (e u))
    (freeP : ∀ e ∈ free, ∀ u, I u → P u → P (e u)) {s : State} (hs : I s) :
    P (deliverGroups (pre ++ group :: post) free s) := by
  induction pre generalizing free s with
  | nil =>
    obtain ⟨perm, draws⟩ := drawSides_sides free s
    have first : ∀ e ∈ (drawSides free s).1, e ∈ free := fun e he =>
      perm.mem_iff.mp (List.mem_append.mpr (.inl he))
    have second : ∀ e ∈ (drawSides free s).2.1, e ∈ free := fun e he =>
      perm.mem_iff.mp (List.mem_append.mpr (.inr he))
    obtain ⟨l, same, run⟩ := deliverAll_delivered (group ++ (drawSides free s).1) (drawSides free s).2.2
    have member {e : Delivery} (he : e ∈ l) : e ∈ group ∨ e ∈ free :=
      (List.mem_append.mp (same.mem_iff.mp he)).imp_right (first e)
    have keptI : ∀ e ∈ l, ∀ u, I u → I (e u) := fun e he =>
      (member he).elim (keepI _ List.mem_cons_self e) (freeI e)
    have keptP : ∀ e ∈ l, ∀ u, I u → P u → P (e u) := fun e he =>
      (member he).elim (keepP _ List.mem_cons_self e) (freeP e)
    have made : P (deliverAll (group ++ (drawSides free s).1) (drawSides free s).2.2) :=
      (draws run).establishes (same.mem_iff.mpr (List.mem_append.mpr (.inl hd))) drawI drawP keptI makes keptP hs
    have still : I (deliverAll (group ++ (drawSides free s).1) (drawSides free s).2.2) :=
      (draws run).induct drawI keptI hs
    refine (deliverGroups_induct (P := fun u => I u ∧ P u) (fun u ⟨i, p⟩ => ⟨drawI u i, drawP u p⟩)
      (fun g hg e he u ⟨i, p⟩ => ⟨keepI g (List.mem_cons_of_mem _ hg) e he u i,
        keepP g (List.mem_cons_of_mem _ hg) e he u i p⟩)
      (fun e he u ⟨i, p⟩ => ⟨freeI e (second e he) u i, freeP e (second e he) u i p⟩) ⟨still, made⟩).2
  | cons g pre ih =>
    obtain ⟨perm, draws⟩ := drawSides_sides free s
    have first : ∀ e ∈ (drawSides free s).1, e ∈ free := fun e he =>
      perm.mem_iff.mp (List.mem_append.mpr (.inl he))
    have second : ∀ e ∈ (drawSides free s).2.1, e ∈ free := fun e he =>
      perm.mem_iff.mp (List.mem_append.mpr (.inr he))
    obtain ⟨l, same, run⟩ := deliverAll_delivered (g ++ (drawSides free s).1) (drawSides free s).2.2
    refine ih (fun g hg => keepI g (List.mem_cons_of_mem _ hg)) (fun e he => freeI e (second e he))
      (fun e he => freeP e (second e he)) ((draws run).induct drawI (fun e he => ?_) hs)
    exact (List.mem_append.mp (same.mem_iff.mp he)).elim (keepI g List.mem_cons_self e) fun he => freeI e (first e he)

/-! ## A change of a slot, and what it keeps -/

/-- A property that everything a change of a slot sets in motion keeps. -/
structure ChangeClosed (P : State → Prop) : Prop where
  drawn : ∀ s, P s → P s.drawn
  notice : ∀ f s, P s → P (s.notice f)
  liveChange : ∀ i v st s, P s → P (opuLiveChange i v st s)
  evaluate : ∀ r s, P s → P (wreEvaluate r s)
  sample : ∀ i v st s, P s → P (svcSample i v st s)
  endTest : ∀ s, P s → P (opuTest none s)
  unslot : ∀ i s, P s → P (s.setSlot i s.slots[i].released)
  endService : ∀ s, P s → P (s.setSvc svcReset)
  release : ∀ i s, P s → P (wreRelease i s)

namespace ChangeClosed

variable {P : State → Prop} (h : ChangeClosed P)
include h

theorem svcExit {s : State} (hs : P s) : P (Machine.svcExit s) := by
  unfold Machine.svcExit
  dsimp only
  refine deliverAll_induct h.drawn ?_ (h.endService _ (foldl_induct (fun i _ t ht => h.unslot i t ht) ?_))
  · intro d hd t ht
    obtain ⟨i, -, rfl⟩ := List.mem_map.mp hd
    exact h.release i t ht
  · split
    · exact h.endTest _ hs
    · exact hs

theorem receivers {i : Fin 96} {x : Slot} {u : State} {d : Delivery}
    (hd : d ∈ visibleReceivers i x u ∨ d ∈ liveReceivers i x u) {s : State} (hs : P s) : P (d s) := by
  rcases hd with hd | hd
  · unfold visibleReceivers at hd
    rcases List.mem_append.mp hd with hd | hd
    · split at hd
      · obtain ⟨r, -, rfl⟩ := List.mem_map.mp hd
        exact h.evaluate r s hs
      · simp at hd
    · split at hd
      · rw [List.mem_singleton.mp hd]
        exact h.sample _ _ _ s hs
      · simp at hd
  · unfold liveReceivers at hd
    split at hd
    · rw [List.mem_singleton.mp hd, svcLiveChange]
      split
      · exact h.svcExit hs
      · exact hs
    · simp at hd

theorem changeEvents {i : Fin 96} {old x : Slot} {s : State} (hs : P s) : P (Machine.changeEvents i old x s) := by
  unfold Machine.changeEvents
  dsimp only
  have told (u : State) (hu : P u) : P (if old.liveDiffers x then opuLiveChange i x.liveValue x.liveStatus u else u) := by
    split
    · exact h.liveChange _ _ _ u hu
    · exact hu
  refine deliverAll_induct h.drawn ?_ (told _ ?_)
  · intro d hd t ht
    rcases List.mem_append.mp hd with hd | hd
    · split at hd
      · exact h.receivers (.inl hd) ht
      · simp at hd
    · split at hd
      · exact h.receivers (.inr hd) ht
      · simp at hd
  · split
    · exact h.notice _ _ hs
    · exact hs

/-- A slot given contents under which the property holds. -/
theorem alter {i : Fin 96} {x : Slot} {s : State} (hs : P (s.setSlot i x)) : P (sgtAlter i x s) := by
  unfold sgtAlter
  split
  · exact hs
  · exact h.changeEvents hs

end ChangeClosed

/-- A property that an update of a slot keeps besides. -/
structure UpdateClosed (P : State → Prop) : Prop extends ChangeClosed P where
  setSlot : ∀ i st v s, P s → P (s.setSlot i (s.slots[i].updated st v s.now s.now))

theorem UpdateClosed.source {P : State → Prop} (h : UpdateClosed P) {k : SourceKind} {index : Option (Fin 32)}
    {st : LiveStatus} {v : Value} {s : State} (hs : P s) : P (sourceUpdate k index st v s) := by
  refine deliverAll_induct h.drawn (fun d hd t ht => ?_) hs
  obtain ⟨i, -, rfl⟩ := List.mem_map.mp hd
  exact h.alter (h.setSlot i st v t ht)

end Sys2Proof.Machine
end

section
/-! SUPPORT. What the changes of slots leave of OPU's copies, of Fault Memory, of WRE and of the slots themselves, and
what a source's update makes of the slots bound to it. -/

namespace Sys2Proof.Machine

open Sys2Proof.Claims

/-! ## Views that changes of slots keep -/

/-- What the architect's laws keep through every change of slots, changes and updates keep. -/
theorem SignalClosed.updates {P : State → Prop} (h : SignalClosed P) : UpdateClosed P where
  drawn := h.drawn
  notice := h.notice
  liveChange _ _ _ _ hs := h.liveOpu hs
  evaluate := h.evaluate
  sample _ _ _ _ hs := h.sample hs
  endTest _ hs := h.opu _ _ hs
  unslot i _ := h.setSlot i _ _
  endService := h.setSvc _
  release := h.release
  setSlot i _ _ _ := h.setSlot i _ _

/-- OPU's copies of the power state and of the door states. -/
def Opu.copies (o : Opu) : PowerState × Vector (Option DoorState) 4 := (o.power, o.doorStates)

theorem Opu.copies_of_outsideWarnings {o p : Opu} (h : o.outsideWarnings = p.outsideWarnings) : o.copies = p.copies :=
  (congrArg (fun q : Opu => q.copies) h :)

theorem Opu.copies_of_unlit {o p : Opu} (h : o.unlit = p.unlit) : o.copies = p.copies :=
  (congrArg (fun q : Opu => q.copies) h :)

theorem Opu.decideOpen_copies (o : Opu) (now : Time) : (o.decideOpen now).copies = o.copies := by
  unfold Opu.decideOpen
  split
  · rfl
  · split
    · rfl
    · split
      · rfl
      · split <;> rfl

theorem opuLiveChange_copies (i : Fin 96) (v : Value) (st : LiveStatus) (s : State) :
    (opuLiveChange i v st s).opu.copies = s.opu.copies := by
  unfold opuLiveChange
  dsimp only
  split
  · refine (Opu.decideOpen_copies _ _).trans ?_
    split <;> split <;> rfl
  · rfl

theorem copies_closed (v : PowerState × Vector (Option DoorState) 4) : UpdateClosed fun t => t.opu.copies = v where
  drawn _ h := h
  notice _ _ h := h
  liveChange i x st s h := (opuLiveChange_copies i x st s).trans h
  evaluate r s h := (Opu.copies_of_outsideWarnings (wreEvaluate_opu r s)).trans h
  sample i x st s h := by
    rw [svcSample_opu]
    exact h
  endTest s h := (Opu.copies_of_unlit (Opu.redecide_unlit _ _)).trans h
  unslot _ _ h := h
  endService _ h := h
  release i s h := (Opu.copies_of_outsideWarnings (wreRelease_opu i s)).trans h
  setSlot _ _ _ _ h := h

/-- An event without reports leaves Fault Memory. -/
theorem wreFinish_flm {e : WreEvent} (h : e.reports = []) (s : State) : (wreFinish e s).flm = s.flm := by
  unfold wreFinish
  rw [h]
  show State.flm (if _ then _ else _) = _
  split
  · refine (deliverAll_keeps State.flm (fun _ => rfl) ?_ _).trans rfl
    intro d hd t
    unfold wreHandings at hd
    rcases List.mem_cons.mp hd with rfl | hd
    · rfl
    · split at hd
      · rw [List.mem_singleton.mp hd]
        rfl
      · simp at hd
  · rfl

/-- No rule reports to Fault Memory. -/
def Calibration.reportless (c : Calibration) : Prop := ∀ r : Fin 48, c.rules[r].faultCode = none

theorem cal_of_outsideWarnings {s t : State} (h : t.outsideWarnings = s.outsideWarnings) : t.cal = s.cal :=
  (congrArg State.cal h :)

theorem svcSample_flm (i : Fin 96) (v : Value) (st : Status) (s : State) : (svcSample i v st s).flm = s.flm := by
  unfold svcSample
  split
  · dsimp only
    split <;> rfl
  · rfl

/-- Where no rule reports, changes of slots leave Fault Memory. -/
theorem flm_closed {c : Calibration} (silent : c.reportless) (v : Flm) : UpdateClosed fun t => t.cal = c ∧ t.flm = v where
  drawn _ h := h
  notice _ _ h := h
  liveChange i x st s := by
    rintro ⟨rfl, rfl⟩
    unfold opuLiveChange
    dsimp only
    split <;> exact ⟨rfl, rfl⟩
  evaluate r s := by
    rintro ⟨rfl, rfl⟩
    refine ⟨cal_of_outsideWarnings (wreEvaluate_outside r s), ?_⟩
    unfold wreEvaluate
    split
    · exact wreFinish_flm ((eventClosed_noReports silent).evaluate rfl) s
    · rfl
  sample i x st s := by
    rintro ⟨rfl, rfl⟩
    exact ⟨(svcSample_same i x st s).1, svcSample_flm i x st s⟩
  endTest _ h := h
  unslot _ _ h := h
  endService _ h := h
  release i s := by
    rintro ⟨rfl, rfl⟩
    refine ⟨cal_of_outsideWarnings (wreRelease_outside i s), ?_⟩
    unfold wreRelease
    split
    · exact wreFinish_flm ((eventClosed_noReports silent).release rfl) s
    · rfl
  setSlot _ _ _ _ h := h

theorem opuLiveChange_wre (i : Fin 96) (v : Value) (st : LiveStatus) (s : State) :
    (opuLiveChange i v st s).wre = s.wre := by
  unfold opuLiveChange
  dsimp only
  split <;> rfl

/-- The table event, once taken, stays taken (R96). -/
theorem tableTaken_closed : UpdateClosed fun t => t.wre.tableTaken = true where
  drawn _ h := h
  notice _ _ h := h
  liveChange i x st s h := by
    rw [opuLiveChange_wre]
    exact h
  evaluate r s h := by
    unfold wreEvaluate
    split
    · exact (congrArg Wre.tableTaken (wreFinish_wre _ s)).trans ((eventClosed_tableTaken s true).evaluate h)
    · exact h
  sample i x st s h := by
    rw [(svcSample_same i x st s).2.1]
    exact h
  endTest _ h := h
  unslot _ _ h := h
  endService _ h := h
  release i s h := by
    unfold wreRelease
    split
    · exact (congrArg Wre.tableTaken (wreFinish_wre _ s)).trans ((eventClosed_tableTaken s true).release h)
    · exact h
  setSlot _ _ _ _ h := h

theorem opuLiveChange_slots (i : Fin 96) (v : Value) (st : LiveStatus) (s : State) :
    (opuLiveChange i v st s).slots = s.slots := slots_of_outsideWarnings (opuLiveChange_outside i v st s)

/-- What the sources left stands through everything that a change of a slot sets in motion. -/
theorem source_closed (Q : (Fin 96 → Slot) → Prop) : ChangeClosed fun t => Q t.source where
  drawn _ h := h
  notice _ _ h := h
  liveChange i x st s h := by
    rw [State.source_of_slots (opuLiveChange_slots i x st s)]
    exact h
  evaluate r s h := by
    rw [State.source_of_slots (slots_of_outsideWarnings (wreEvaluate_outside r s))]
    exact h
  sample i x st s h := by
    rw [State.source_of_slots (svcSample_slots i x st s)]
    exact h
  endTest _ h := h
  unslot i s h := by
    rw [State.source_release]
    exact h
  endService _ h := h
  release i s h := by
    rw [State.source_of_slots (slots_of_outsideWarnings (wreRelease_outside i s))]
    exact h

/-- The bindings of the slots. -/
def State.bindings (s : State) (j : Fin 96) : SourceKind × Option (Fin 32) := ((s.source j).kind, (s.source j).index)

theorem bindings_closed (b : Fin 96 → SourceKind × Option (Fin 32)) : UpdateClosed fun t => t.bindings = b where
  toChangeClosed := source_closed fun x => (fun j => ((x j).kind, (x j).index)) = b
  setSlot i st v s h := by
    unfold State.bindings at h ⊢
    rw [State.source_setSlot, ← h]
    funext j
    by_cases same : j = i
    · rw [same, Function.update_self]
      rfl
    · rw [Function.update_of_ne same]

theorem substitution_setSlot {i j : Fin 96} {x : Slot} {s : State} (h : s.slots[j].substitution = none)
    (new : s.slots[i].substitution = none → x.substitution = none) : (s.setSlot i x).slots[j].substitution = none := by
  rw [State.setSlot_slots]
  show (s.slots.set i.val x)[j.val].substitution = none
  rw [Vector.getElem_set]
  split
  · next same =>
    obtain rfl : i = j := Fin.ext same
    exact new h
  · exact h

/-- No change of a slot brings a substitution about. -/
theorem unsubstituted_closed (j : Fin 96) : UpdateClosed fun t => t.slots[j].substitution = none where
  drawn _ h := h
  notice _ _ h := h
  liveChange i x st s h := by
    rw [opuLiveChange_slots]
    exact h
  evaluate r s h := by
    rw [slots_of_outsideWarnings (wreEvaluate_outside r s)]
    exact h
  sample i x st s h := by
    rw [svcSample_slots]
    exact h
  endTest _ h := h
  unslot i s h := substitution_setSlot h fun _ => rfl
  endService _ h := h
  release i s h := by
    rw [slots_of_outsideWarnings (wreRelease_outside i s)]
    exact h
  setSlot i st v s h := substitution_setSlot h id

theorem svcSample_state (i : Fin 96) (v : Value) (st : Status) (s : State) : (svcSample i v st s).svc.state = s.svc.state :=
  congrArg Prod.fst (svcSample_same i v st s).2.2.2

/-- Service mode, once OFF, is entered by no change of a slot. -/
theorem serviceOff_closed : UpdateClosed fun t => t.svc.state = .off where
  drawn _ h := h
  notice _ _ h := h
  liveChange i x st s h := by
    rw [svc_of_outsideWarnings (opuLiveChange_outside i x st s)]
    exact h
  evaluate r s h := by
    rw [svc_of_outsideWarnings (wreEvaluate_outside r s)]
    exact h
  sample i x st s h := (svcSample_state i x st s).trans h
  endTest _ h := h
  unslot _ _ h := h
  endService _ _ := rfl
  release i s h := by
    rw [svc_of_outsideWarnings (wreRelease_outside i s)]
    exact h
  setSlot _ _ _ _ h := h

/-- Outside RUN no change of a slot reaches WRE (R78, R97). -/
theorem wre_closed (Q : Wre → Prop) : UpdateClosed fun t => t.pwc.power ≠ .run ∧ Q t.wre where
  drawn _ h := h
  notice _ _ h := h
  liveChange i x st s := by
    rintro ⟨power, h⟩
    unfold opuLiveChange
    dsimp only
    split <;> exact ⟨power, h⟩
  evaluate r s := by
    rintro ⟨power, h⟩
    unfold wreEvaluate
    rw [if_neg (by simp [State.evaluating, power])]
    exact ⟨power, h⟩
  sample i x st s := by
    rintro ⟨power, h⟩
    obtain ⟨-, wre, pwc, -⟩ := svcSample_same i x st s
    exact ⟨by rw [pwc]; exact power, by rw [wre]; exact h⟩
  endTest _ h := h
  unslot _ _ h := h
  endService _ h := h
  release i s := by
    rintro ⟨power, h⟩
    rw [wreRelease_of_not_run i power]
    exact ⟨power, h⟩
  setSlot _ _ _ _ h := h

/-! ## A source's update -/

theorem mem_boundTo {s : State} {k : SourceKind} {index : Option (Fin 32)} {i : Fin 96} :
    i ∈ s.boundTo k index ↔ s.bindings i = (k, index) := by
  unfold State.boundTo allSlots
  rw [List.mem_filter, Bool.and_eq_true, beq_iff_eq, beq_iff_eq, State.bindings, Prod.mk.injEq]
  exact ⟨fun h => h.2, fun h => ⟨List.mem_finRange i, h⟩⟩

/-- A slot of another binding keeps what its source left. -/
theorem sourceUpdate_source_ne {s : State} {k : SourceKind} {index : Option (Fin 32)} {i : Fin 96}
    (h : s.bindings i ≠ (k, index)) (st : LiveStatus) (v : Value) :
    (sourceUpdate k index st v s).source i = s.source i := by
  refine deliverAll_keeps (fun t => t.source i) (fun _ => rfl) (fun d hd t => ?_) s
  obtain ⟨j, bound, rfl⟩ := List.mem_map.mp hd
  rw [sgtUpdate_source, Function.update_of_ne]
  exact fun same => h (mem_boundTo.mp (same ▸ bound))

/-- The slot holds a VALID value since now. -/
def State.shows (s : State) (i : Fin 96) (v : Value) : Prop :=
  (s.source i).liveStatus = .valid ∧ (s.source i).liveValue = v ∧ (s.source i).updateTime = s.pwc.uptime

theorem shows_of_same {s t : State} {i : Fin 96} {v : Value} (source : t.source i = s.source i)
    (uptime : t.pwc.uptime = s.pwc.uptime) (h : s.shows i v) : t.shows i v := by
  unfold State.shows
  rw [source, uptime]
  exact h

theorem sgtUpdate_shows (i : Fin 96) (v : Value) (s : State) : (sgtUpdate i .valid v s).shows i v := by
  unfold State.shows
  rw [sgtUpdate_source, Function.update_self, uptime_of_outside (sgtUpdate_outside i .valid v s)]
  exact ⟨rfl, rfl, rfl⟩

/-- A slot bound to a source takes its VALID value (R5). -/
theorem sourceUpdate_shows {s : State} {k : SourceKind} {index : Option (Fin 32)} {i : Fin 96}
    (h : s.bindings i = (k, index)) (v : Value) : (sourceUpdate k index .valid v s).shows i v := by
  obtain ⟨l, perm, run⟩ := deliverAll_delivered ((s.boundTo k index).map fun i => sgtUpdate i .valid v) s
  have member : sgtUpdate i .valid v ∈ l := perm.mem_iff.mpr (List.mem_map.mpr ⟨i, mem_boundTo.mpr h, rfl⟩)
  refine run.establishes (I := fun _ => True) (P := fun t => t.shows i v) member (fun _ _ => trivial)
    (fun _ ht => ht) (fun _ _ _ _ => trivial) (fun t _ => sgtUpdate_shows i v t) (fun e he t _ ht => ?_) trivial
  obtain ⟨j, -, rfl⟩ := List.mem_map.mp (perm.mem_iff.mp he)
  by_cases same : i = j
  · rw [← same]
    exact sgtUpdate_shows i v t
  · refine shows_of_same ?_ (uptime_of_outside (sgtUpdate_outside j .valid v t)) ht
    rw [sgtUpdate_source, Function.update_of_ne same]

end Sys2Proof.Machine
end

section
/-! SUPPORT. The channels at the run restart and at a wake (R59, R60). -/

namespace Sys2Proof.Machine

open Sys2Proof.Claims

theorem putCount_of_noRole {s : State} {c : Fin 8} (plain : s.cal.channels[c].role = .noRole) (n : Count) :
    s.putCount c n = s.setChannel c { s.ccu.channels[c] with count := n } := by
  unfold State.putCount
  rw [plain]

/-- A property that the events at one channel keep; only a counting channel delivers here. -/
structure ChannelEvent (c : Fin 8) (P : State → Prop) : Prop where
  drawn : ∀ s, P s → P s.drawn
  setChannel : ∀ x s, P s → P (s.setChannel c x)
  deliver : ∀ v s, s.cal.channels[c].mode.counts = true → P s → P (ccuDeliver c v s)

namespace ChannelEvent

variable {c : Fin 8} {P : State → Prop} (h : ChannelEvent c P) {s : State}
include h

theorem initial (hs : P s) : P (deliverInitial c s) := by
  unfold deliverInitial
  split
  · next counts => exact h.deliver _ _ counts (h.setChannel _ _ hs)
  · exact hs

theorem publish (counts : s.cal.channels[c].mode.counts = true) (hs : P s) : P (publishCount c s) := by
  unfold publishCount
  split
  · exact h.deliver _ _ counts (h.setChannel _ _ hs)
  · exact hs

theorem opens (plain : s.cal.channels[c].role = .noRole) (hs : P s) : P (gateOpens c s) := by
  unfold gateOpens
  dsimp only
  split
  · next counts =>
    split
    · rw [putCount_of_noRole (by exact plain)]
      exact h.publish counts (h.setChannel _ _ (h.setChannel _ _ hs))
    · exact h.setChannel _ _ hs
  · exact h.setChannel _ _ (h.setChannel _ _ hs)

theorem reevaluate (hs : P s) : P (Machine.reevaluate c s) := by
  unfold Machine.reevaluate
  dsimp only
  split
  · exact hs
  · next moves =>
    split
    · refine h.opens ?_ hs
      simp only [ChannelItem.hasRole, Bool.or_eq_true, decide_eq_true_eq, bne_iff_ne, ne_eq, not_or, not_not] at moves
      exact moves.1.2
    · exact h.setChannel _ _ hs

theorem wake (hs : P s) : P (channelWake c s) :=
  h.initial (h.setChannel _ _ (h.reevaluate (h.setChannel _ _ hs)))

end ChannelEvent

/-- The wake of the channels keeps what the events at each keep (R60). -/
theorem ccuWake_keeps {P : State → Prop} (draw : ∀ s, P s → P s.drawn) (h : ∀ c s, P s → P (channelWake c s)) {s : State}
    (hs : P s) : P (ccuWake s) := by
  refine deliverAll_induct draw (fun d hd t ht => ?_) hs
  obtain ⟨c, -, rfl⟩ := List.mem_map.mp hd
  exact h c t ht

theorem ccuDeliverAll_keeps {P : State → Prop} (draw : ∀ s, P s → P s.drawn) (h : ∀ c s, P s → P (deliverInitial c s))
    {s : State} (hs : P s) : P (ccuDeliverAll s) := by
  refine deliverAll_induct draw (fun d hd t ht => ?_) hs
  obtain ⟨c, -, rfl⟩ := List.mem_map.mp hd
  exact h c t ht

/-- Changes of slots and channel records together: what both keep, the channels' events keep. -/
theorem UpdateClosed.channel {P : State → Prop} (h : UpdateClosed P) (ccu : ∀ x s, P s → P { s with ccu := x })
    (c : Fin 8) : ChannelEvent c P where
  drawn := h.drawn
  setChannel _ s hs := ccu _ s hs
  deliver _ _ _ hs := h.source hs

theorem UpdateClosed.wake {P : State → Prop} (h : UpdateClosed P) (ccu : ∀ x s, P s → P { s with ccu := x }) {s : State}
    (hs : P s) : P (ccuWake s) := ccuWake_keeps h.drawn (fun c _ => (h.channel ccu c).wake) hs

theorem UpdateClosed.restart {P : State → Prop} (h : UpdateClosed P) (ccu : ∀ x s, P s → P { s with ccu := x })
    {s : State} (hs : P s) : P (ccuRestart s) :=
  ccuDeliverAll_keeps h.drawn (fun c _ => (h.channel ccu c).initial) (ccu _ _ (ccu _ _ hs))

/-! ## What a channel's delivery alters -/

theorem ccu_of_outside {s t : State} (h : t.outsideSignals = s.outsideSignals) : t.ccu = s.ccu :=
  (congrArg State.ccu h :)

theorem drs_of_outside {s t : State} (h : t.outsideSignals = s.outsideSignals) : t.drs = s.drs :=
  (congrArg State.drs h :)

theorem cal_of_outside {s t : State} (h : t.outsideSignals = s.outsideSignals) : t.cal = s.cal :=
  (congrArg State.cal h :)

theorem ccuDeliver_ccu (c : Fin 8) (v : Value) (s : State) : (ccuDeliver c v s).ccu = s.ccu :=
  ccu_of_outside (ccuDeliver_outside c v s)

theorem ccuDeliver_cal (c : Fin 8) (v : Value) (s : State) : (ccuDeliver c v s).cal = s.cal :=
  cal_of_outside (ccuDeliver_outside c v s)

/-- The calibration and the role counts. -/
def State.roles (s : State) : Calibration × RoleCount × RoleCount := (s.cal, s.ccu.odometer, s.ccu.hours)

/-- The events at a channel leave the role counts. -/
theorem roles_event (c : Fin 8) (v : Calibration × RoleCount × RoleCount) :
    ChannelEvent c fun t => t.roles = v where
  drawn _ h := h
  setChannel _ _ h := h
  deliver x s _ h := by
    unfold State.roles at h ⊢
    rw [ccuDeliver_cal, ccuDeliver_ccu]
    exact h

/-- The events at a channel leave every other channel. -/
theorem channel_event {c k : Fin 8} (other : k ≠ c) (x : Channel) : ChannelEvent c fun t => t.ccu.channels[k] = x where
  drawn _ h := h
  setChannel y s h := by
    have same : (s.setChannel c y).ccu.channels[k] = s.ccu.channels[k] := by
      show (s.ccu.channels.set c.val y)[k.val] = s.ccu.channels[k.val]
      exact Vector.getElem_set_ne _ _ fun e => other (Fin.ext e.symm)
    exact same.trans h
  deliver v s _ h := by
    rw [ccuDeliver_ccu]
    exact h

/-- What the events at a channel leave of the slots: a slot bound elsewhere, or to a channel that does not count. -/
theorem source_event {c : Fin 8} {i : Fin 96} {x : Slot} {cal : Calibration}
    (elsewhere : (x.kind, x.index) = (.channel, sourceOf c) → cal.channels[c].mode.counts = false) :
    ChannelEvent c fun t => t.cal = cal ∧ t.source i = x where
  drawn _ h := h
  setChannel _ _ h := h
  deliver v s counts := by
    rintro ⟨rfl, rfl⟩
    refine ⟨ccuDeliver_cal c v s, sourceUpdate_source_ne (fun bound => ?_) _ _⟩
    rw [elsewhere bound] at counts
    cases counts

section

variable (c : Fin 8) (s : State)

theorem setChannel_same (x : Channel) : (s.setChannel c x).ccu.channels[c] = x := by
  show (s.ccu.channels.set c.val x)[c.val] = x
  exact Vector.getElem_set_self _

/-- A counting channel records its delivery (R53). -/
theorem deliverInitial_channel (counts : s.cal.channels[c].mode.counts = true) :
    (deliverInitial c s).ccu.channels[c]
      = { s.ccu.channels[c] with lastDelivery := some (s.count c), holdOff := none } := by
  unfold deliverInitial
  rw [if_pos counts]
  unfold ccuDeliverCount
  dsimp only
  rw [ccuDeliver_ccu, setChannel_same]

theorem deliverInitial_silent (silent : s.cal.channels[c].mode.counts = false) : deliverInitial c s = s :=
  if_neg (by rw [silent]; exact nofun)

theorem deliverInitial_shows (counts : s.cal.channels[c].mode.counts = true) {i : Fin 96}
    (bound : s.bindings i = (.channel, sourceOf c)) : (deliverInitial c s).shows i (clampCount (s.count c)) := by
  unfold deliverInitial
  rw [if_pos counts]
  unfold ccuDeliverCount
  exact sourceUpdate_shows (by exact bound) _

end

theorem allEight_perm (c : Fin 8) : allEight.Perm (c :: allEight.erase c) :=
  List.perm_cons_erase (List.mem_finRange c)

theorem mem_allEight_erase {c k : Fin 8} (h : k ∈ allEight.erase c) : c ≠ k := fun same =>
  ((List.nodup_finRange 8).mem_erase_iff.mp h).1 same.symm

/-- The count that a channel delivers: its role's, or its own (R50). -/
def countOf (v : Calibration × RoleCount × RoleCount) (c : Fin 8) (x : Channel) : Count :=
  match v.1.channels[c].role with
  | .odometer => v.2.1.count
  | .hours => v.2.2.count
  | .noRole => x.count

theorem count_eq (s : State) (c : Fin 8) : s.count c = countOf s.roles c s.ccu.channels[c] := by
  unfold State.count countOf
  rfl

/-- Every counting channel has delivered its count once (R58). -/
theorem ccuDeliverAll_channel (c : Fin 8) (s : State) : (ccuDeliverAll s).ccu.channels[c]
    = if s.cal.channels[c].mode.counts
      then { s.ccu.channels[c] with lastDelivery := some (s.count c), holdOff := none } else s.ccu.channels[c] := by
  obtain ⟨l, perm, run⟩ := deliverAll_delivered (allEight.map deliverInitial) s
  have once := perm.trans ((allEight_perm c).map deliverInitial)
  refine (run.once (I := fun t => t.roles = s.roles) (view := fun t => t.ccu.channels[c])
    (turn := fun x => if s.cal.channels[c].mode.counts
      then { x with lastDelivery := some (countOf s.roles c x), holdOff := none } else x)
    once (fun _ h => h) (fun _ => rfl) (fun e he u hu => ?_) (fun u hu => ?_) (fun e he u _ => ?_) rfl).trans ?_
  · obtain ⟨k, -, rfl⟩ := List.mem_map.mp (((allEight_perm c).map deliverInitial).mem_iff.mpr he)
    exact (roles_event k s.roles).initial hu
  · have cal : u.cal = s.cal := congrArg Prod.fst hu
    rw [← cal, ← hu]
    split
    · next counts => rw [deliverInitial_channel c u counts, count_eq]
    · next silent => rw [deliverInitial_silent c u (by simpa using silent)]
  · obtain ⟨k, hk, rfl⟩ := List.mem_map.mp he
    exact (channel_event (mem_allEight_erase hk) _).initial rfl
  · rw [count_eq]

end Sys2Proof.Machine
end

section
namespace Sys2Proof.Machine

open Sys2Proof.Claims

/-! ## The run restart of the channels (R59) -/

/-- The channels at a run restart before they deliver: those without a role begin afresh. -/
def restartBase (s : State) : State :=
  ccuBegin (fun c => !s.cal.channels[c].hasRole)
    (s.mapChannels fun c => if !s.cal.channels[c].hasRole then freshChannel s c else s.ccu.channels[c])

theorem ccuRestart_eq (s : State) : ccuRestart s = ccuDeliverAll (restartBase s) := rfl

theorem mapChannels_channel (s : State) (f : Fin 8 → Channel) (c : Fin 8) : (s.mapChannels f).ccu.channels[c] = f c := by
  unfold State.mapChannels
  dsimp only
  simp only [Fin.getElem_fin, Vector.getElem_ofFn]

/-- The restart of the channels before they deliver leaves everything but their records. -/
theorem restartBase_same (s : State) : (restartBase s).roles = s.roles ∧ (restartBase s).bindings = s.bindings
    ∧ (restartBase s).source = s.source ∧ (restartBase s).cal = s.cal := ⟨rfl, rfl, rfl, rfl⟩

theorem restartBase_plain {s : State} {c : Fin 8} (plain : s.cal.channels[c].role = .noRole) :
    (restartBase s).ccu.channels[c] = (freshChannel s c).begin s.cal.channels[c] s.now := by
  have free : (!s.cal.channels[c].hasRole) = true := by simp only [ChannelItem.hasRole, plain]; rfl
  unfold restartBase ccuBegin
  rw [mapChannels_channel, if_pos free, mapChannels_channel, if_pos free]
  rfl

theorem restartBase_role {s : State} {c : Fin 8} (role : s.cal.channels[c].role ≠ .noRole) :
    (restartBase s).ccu.channels[c] = s.ccu.channels[c] := by
  have kept : ¬(!s.cal.channels[c].hasRole) = true := by simpa [ChannelItem.hasRole] using role
  unfold restartBase ccuBegin
  rw [mapChannels_channel, if_neg kept, mapChannels_channel, if_neg kept]

/-- The count that a channel delivers at the run restart: the role's, or 0. -/
def restartCount (it : ChannelItem) (ccu : Ccu) : Count :=
  match it.role with
  | .noRole => 0
  | .odometer => ccu.odometer.count
  | .hours => ccu.hours.count

/-- The gate of a channel without a role is OPEN at the restart (R40). -/
def opensAt (it : ChannelItem) (active : Fin 32 → Bool) : Prop :=
  it.defaultSoftGate = true ∧ ∀ n, it.hardwareGate = some n → (active n = true ↔ it.gatePolarity = .active)

theorem gateFor_plain {s : State} {c : Fin 8} (plain : s.cal.channels[c].role = .noRole) :
    s.gateFor c s.cal.channels[c].defaultSoftGate = true ↔ opensAt s.cal.channels[c] fun n => s.switches[n].active := by
  have free : s.cal.channels[c].hasRole = false := by simp only [ChannelItem.hasRole, plain]; rfl
  unfold State.gateFor State.gatePermits opensAt
  rw [free, Bool.false_or, Bool.and_eq_true]
  refine and_congr_right fun _ => ?_
  cases s.cal.channels[c].hardwareGate with
  | none => simp
  | some n =>
    rw [beq_iff_eq, Bool.eq_iff_iff, beq_iff_eq]
    exact ⟨fun h m same => Option.some.inj same ▸ h, fun h => h n rfl⟩

theorem freshChannel_plain {s : State} {c : Fin 8} (plain : s.cal.channels[c].role = .noRole) :
    freshChannel s c = { channelReset with
      softGate := s.cal.channels[c].defaultSoftGate
      gateOpen := s.gateFor c s.cal.channels[c].defaultSoftGate
      setPoint := s.cal.channels[c].upperSetPoint } := by
  have free : s.cal.channels[c].hasRole = false := by simp only [ChannelItem.hasRole, plain]; rfl
  unfold freshChannel
  simp only [free, Bool.false_or]

/-- A channel as the restart begins it, by its mode and its gate (R41, R58). -/
theorem begin_eq (it : ChannelItem) (isOpen : Bool) (now : Time) :
    Channel.begin { channelReset with
      softGate := it.defaultSoftGate, gateOpen := isOpen, setPoint := it.upperSetPoint } it now
    = { channelReset with
      softGate := it.defaultSoftGate, gateOpen := isOpen, setPoint := it.upperSetPoint
      phase := if isOpen = true ∧ it.mode = .width then .waiting else .idle
      window := if isOpen = true ∧ it.mode = .rate then startTimer now it.rateWindow.ms else none } := by
  unfold Channel.begin
  cases isOpen
  · rfl
  · cases it.mode <;> rfl

theorem restartedChannel_eq (it : ChannelItem) (active : Fin 32 → Bool) (now : Time) {isOpen : Bool}
    (gate : isOpen = true ↔ opensAt it active) : restartedChannel it active now = { channelReset with
      softGate := it.defaultSoftGate, gateOpen := isOpen, setPoint := it.upperSetPoint
      phase := if isOpen = true ∧ it.mode = .width then .waiting else .idle
      window := if isOpen = true ∧ it.mode = .rate then startTimer now it.rateWindow.ms else none
      lastDelivery := if it.mode.counts then some 0 else none } := by
  unfold opensAt at gate
  unfold restartedChannel
  simp only [← gate, Bool.decide_eq_true]
  rfl

/-- What a channel will deliver at the restart. -/
theorem restartBase_count (s : State) (c : Fin 8) :
    (restartBase s).count c = restartCount s.cal.channels[c] s.ccu := by
  rw [count_eq, countOf, (restartBase_same s).1]
  unfold State.roles restartCount
  dsimp only
  cases known : s.cal.channels[c].role with
  | noRole =>
    rw [restartBase_plain known, freshChannel_plain known, begin_eq]
    rfl
  | odometer => rfl
  | hours => rfl

/-- A channel without a role at the run restart (R59). -/
theorem ccuRestart_plain {s : State} {c : Fin 8} (plain : s.cal.channels[c].role = .noRole) :
    (ccuRestart s).ccu.channels[c]
      = restartedChannel s.cal.channels[c] (fun n => s.switches[n].active) s.pwc.uptime := by
  have count : (restartBase s).count c = 0 := by
    rw [restartBase_count, restartCount, plain]
  rw [restartedChannel_eq _ _ _ (gateFor_plain plain), ccuRestart_eq, ccuDeliverAll_channel, count,
    restartBase_plain plain, freshChannel_plain plain, begin_eq]
  show (if s.cal.channels[c].mode.counts then _ else _) = _
  split <;> simp_all [channelReset]

/-- A counting channel with a role at the run restart (R59). -/
theorem ccuRestart_role {s : State} {c : Fin 8} (role : s.cal.channels[c].role ≠ .noRole)
    (counts : s.cal.channels[c].mode.counts = true) : (ccuRestart s).ccu.channels[c]
      = { s.ccu.channels[c] with
          lastDelivery := some (restartCount s.cal.channels[c] s.ccu), holdOff := none } := by
  rw [ccuRestart_eq, ccuDeliverAll_channel, restartBase_count, restartBase_role role]
  exact if_pos counts

/-- The events at a channel leave the uptime, the doors and the inputs. -/
theorem deliverInitial_outside (c : Fin 8) (s : State) : (deliverInitial c s).outsideChannels = s.outsideChannels :=
  (channels_closed _).initial rfl

theorem uptime_of_outsideChannels {s t : State} (h : t.outsideChannels = s.outsideChannels) :
    t.pwc.uptime = s.pwc.uptime := (congrArg (fun u : State => u.pwc.uptime) h :)

theorem sourceOf_injective {c k : Fin 8} (h : sourceOf c = sourceOf k) : c = k := by
  unfold sourceOf sourceIndex at h
  exact Fin.castLE_injective _ (Option.some.inj h)

theorem deliverInitial_source {c : Fin 8} {i : Fin 96} {s : State}
    (elsewhere : s.bindings i = (.channel, sourceOf c) → s.cal.channels[c].mode.counts = false) :
    (deliverInitial c s).source i = s.source i :=
  ((source_event elsewhere).initial ⟨rfl, rfl⟩).2

/-- A channel's delivery leaves what every channel has to deliver. -/
theorem deliverInitial_count (c k : Fin 8) (s : State) : (deliverInitial k s).count c = s.count c := by
  have roles := (roles_event k s.roles).initial (s := s) rfl
  rw [count_eq, count_eq, roles]
  by_cases same : c = k
  · subst same
    cases counts : s.cal.channels[c].mode.counts with
    | true =>
      rw [deliverInitial_channel c s counts]
      unfold countOf
      rfl
    | false => rw [deliverInitial_silent c s counts]
  · rw [(channel_event same _).initial (s := s) rfl]

/-- Each slot bound to a counting channel shows the channel's count (R53, R58). -/
theorem ccuDeliverAll_shows {c : Fin 8} {i : Fin 96} {s : State} (counts : s.cal.channels[c].mode.counts = true)
    (bound : s.bindings i = (.channel, sourceOf c)) : (ccuDeliverAll s).shows i (clampCount (s.count c)) := by
  obtain ⟨l, perm, run⟩ := deliverAll_delivered (allEight.map deliverInitial) s
  have bindings (k : Fin 8) (u : State) : (deliverInitial k u).bindings = u.bindings :=
    ((bindings_closed u.bindings).channel (fun _ _ h => h) k).initial rfl
  have cal (k : Fin 8) (u : State) : (deliverInitial k u).cal = u.cal :=
    congrArg Prod.fst ((roles_event k u.roles).initial (s := u) rfl)
  have made (u : State) (hu : u.cal = s.cal ∧ u.bindings = s.bindings ∧ u.count c = s.count c) :
      (deliverInitial c u).shows i (clampCount (s.count c)) := by
    obtain ⟨cal, bindings, count⟩ := hu
    rw [← count]
    exact deliverInitial_shows c u (by rw [cal]; exact counts) (by rw [bindings]; exact bound)
  refine run.establishes (I := fun u => u.cal = s.cal ∧ u.bindings = s.bindings ∧ u.count c = s.count c)
    (P := fun u => u.shows i (clampCount (s.count c)))
    (perm.mem_iff.mpr (List.mem_map.mpr ⟨c, List.mem_finRange c, rfl⟩)) (fun _ h => h) (fun _ h => h)
    (fun e he u hu => ?_) made (fun e he u hu shows => ?_) ⟨rfl, rfl, rfl⟩
  · obtain ⟨k, -, rfl⟩ := List.mem_map.mp (perm.mem_iff.mp he)
    rw [cal, bindings, deliverInitial_count]
    exact hu
  · obtain ⟨k, -, rfl⟩ := List.mem_map.mp (perm.mem_iff.mp he)
    by_cases same : c = k
    · subst same
      exact made u hu
    · refine shows_of_same (deliverInitial_source fun here => ?_)
        (uptime_of_outsideChannels (deliverInitial_outside k u)) shows
      rw [hu.2.1, bound] at here
      exact absurd (sourceOf_injective (congrArg Prod.snd here)) same

theorem ccuRestart_shows {c : Fin 8} {i : Fin 96} {s : State} (counts : s.cal.channels[c].mode.counts = true)
    (bound : s.bindings i = (.channel, sourceOf c)) :
    (ccuRestart s).shows i (clampCount (restartCount s.cal.channels[c] s.ccu)) := by
  rw [ccuRestart_eq, ← restartBase_count]
  exact ccuDeliverAll_shows counts bound

/-- The restart of the channels leaves the slots bound elsewhere or to a channel that does not count. -/
theorem ccuRestart_source {i : Fin 96} {s : State}
    (elsewhere : ∀ c, s.bindings i = (.channel, sourceOf c) → s.cal.channels[c].mode.counts = false) :
    (ccuRestart s).source i = s.source i := by
  obtain ⟨-, -, source, cal⟩ := restartBase_same s
  rw [ccuRestart_eq]
  exact (ccuDeliverAll_keeps (P := fun t => t.cal = s.cal ∧ t.source i = s.source i) (fun _ h => h)
    (fun c _ => (source_event (elsewhere c)).initial) ⟨cal, congrFun source i⟩).2

/-- The wake of the channels leaves the slots bound elsewhere or to a channel that does not count. -/
theorem ccuWake_source {i : Fin 96} {s : State}
    (elsewhere : ∀ c, s.bindings i = (.channel, sourceOf c) → s.cal.channels[c].mode.counts = false) :
    (ccuWake s).source i = s.source i :=
  (ccuWake_keeps (P := fun t => t.cal = s.cal ∧ t.source i = s.source i) (fun _ h => h)
    (fun c _ => (source_event (elsewhere c)).wake) ⟨rfl, rfl⟩).2

/-! ## A counting channel with a role at the wake (R60) -/

/-- A channel but for its last delivery and its hold-off timer. -/
def Channel.undelivered (x : Channel) : Channel := { x with lastDelivery := none, holdOff := none }

theorem deliverInitial_undelivered (c : Fin 8) (s : State) :
    (deliverInitial c s).ccu.channels[c].undelivered = s.ccu.channels[c].undelivered := by
  cases counts : s.cal.channels[c].mode.counts with
  | true =>
    rw [deliverInitial_channel c s counts]
    rfl
  | false => rw [deliverInitial_silent c s counts]

theorem begin_of_counts {it : ChannelItem} (counts : it.mode.counts = true) (x : Channel) (now : Time) :
    x.begin it now = x := by
  unfold Channel.begin
  generalize it.mode = mode at counts
  cases mode with
  | rate => cases counts
  | width => cases counts
  | _ => exact ite_self x

/-- The gate of a channel with a role is not evaluated (R50). -/
theorem reevaluate_of_role {c : Fin 8} {s : State} (role : s.cal.channels[c].role ≠ .noRole) : reevaluate c s = s := by
  have skips : (decide (s.cal.channels[c].mode = .off) || s.cal.channels[c].hasRole
      || decide (s.gateFor c s.ccu.channels[c].softGate = s.ccu.channels[c].gateOpen)) = true := by
    simp only [ChannelItem.hasRole, Bool.or_eq_true, bne_iff_ne, ne_eq, role, not_false_eq_true, or_true, true_or]
  exact if_pos skips

theorem channelWake_undelivered {c : Fin 8} {s : State} (role : s.cal.channels[c].role ≠ .noRole)
    (counts : s.cal.channels[c].mode.counts = true) :
    (channelWake c s).ccu.channels[c].undelivered = s.ccu.channels[c].undelivered := by
  unfold channelWake
  dsimp only
  rw [deliverInitial_undelivered, reevaluate_of_role (by exact role), setChannel_same, begin_of_counts (by exact counts),
    setChannel_same]
  rfl

theorem ccuWake_undelivered {c : Fin 8} {s : State} (role : s.cal.channels[c].role ≠ .noRole)
    (counts : s.cal.channels[c].mode.counts = true) :
    (ccuWake s).ccu.channels[c].undelivered = s.ccu.channels[c].undelivered := by
  refine (ccuWake_keeps (P := fun t => t.cal = s.cal ∧ t.ccu.channels[c].undelivered = s.ccu.channels[c].undelivered)
    (fun _ h => h) (fun k t ht => ?_) ⟨rfl, rfl⟩).2
  obtain ⟨cal, same⟩ := ht
  have cal' : (channelWake k t).cal = t.cal := congrArg Prod.fst ((roles_event k t.roles).wake (s := t) rfl)
  refine ⟨cal'.trans cal, ?_⟩
  by_cases own : c = k
  · subst own
    rw [channelWake_undelivered (by rw [cal]; exact role) (by rw [cal]; exact counts)]
    exact same
  · rw [(channel_event own _).wake (s := t) rfl]
    exact same

end Sys2Proof.Machine
end

section
/-! SUPPORT. The doors at the run restart and at a wake (R132, R133). -/

namespace Sys2Proof.Machine

open Sys2Proof.Claims

/-! ## An event at a door, taken apart -/

/-- Whether an event at a door clears the latch (R129). -/
def clearsLatch (r : DoorRecord) (s : State) : Bool := r.state == .doorOpen && s.drs.latch

/-- An event at a door before its handings. -/
def doorBase (d : Fin 4) (r : DoorRecord) (s : State) : State :=
  pwcActivity ((if clearsLatch r s then (s.setDoor d r).putLatch false else s.setDoor d r).notice flagDoors)

/-- What an event at a door hands. -/
def doorHandings (d : Fin 4) (r : DoorRecord) (more : List Delivery) (s : State) : List Delivery :=
  [doorUpdate d r.state, opuDoorState d r.state] ++ more ++ (if clearsLatch r s then latchHandings false else [])
    ++ (if (doorReports d s.drs.doors[d] r).isEmpty then [] else [flmReports (doorReports d s.drs.doors[d] r)])

theorem doorEvent_eq (d : Fin 4) (r : DoorRecord) (more : List Delivery) (s : State) :
    doorEvent d r more s = deliverAll (doorHandings d r more s) (doorBase d r s) := rfl

theorem mem_doorHandings {d : Fin 4} {r : DoorRecord} {more : List Delivery} {s : State} {e : Delivery}
    (h : e ∈ doorHandings d r more s) : e = doorUpdate d r.state ∨ e = opuDoorState d r.state ∨ e ∈ more
      ∨ (clearsLatch r s = true ∧ (e = stopReqUpdate ∨ e = opuLatch false false))
      ∨ e = flmReports (doorReports d s.drs.doors[d] r) := by
  unfold doorHandings latchHandings at h
  simp only [List.mem_append, List.mem_cons, List.not_mem_nil, or_false] at h
  rcases h with (((h | h) | h) | h) | h
  · exact .inl h
  · exact .inr (.inl h)
  · exact .inr (.inr (.inl h))
  · split at h
    · next clears =>
      simp only [List.mem_cons, List.not_mem_nil, or_false] at h
      exact .inr (.inr (.inr (.inl ⟨clears, h⟩)))
    · simp at h
  · split at h
    · simp at h
    · exact .inr (.inr (.inr (.inr (List.mem_singleton.mp h))))

/-- A property that the parts of an event at a door keep. -/
structure DoorsClosed (P : State → Prop) : Prop where
  drawn : ∀ s, P s → P s.drawn
  notice : ∀ s, P s → P (s.notice flagDoors)
  drs : ∀ x s, P s → P { s with drs := x }
  activity : ∀ s, P s → P (pwcActivity s)
  doorUpdate : ∀ d st s, P s → P (doorUpdate d st s)
  stopReq : ∀ s, P s → P (stopReqUpdate s)
  doorState : ∀ d st s, P s → P (opuDoorState d st s)
  ramp : ∀ d b s, P s → P (opuRamp d b s)
  latch : ∀ s, P s → P (opuLatch false false s)
  reports : ∀ rs s, P s → P (flmReports rs s)

namespace DoorsClosed

variable {P : State → Prop} (h : DoorsClosed P) {s : State}
include h

theorem event {d : Fin 4} {r : DoorRecord} {more : List Delivery} (hm : ∀ e ∈ more, ∀ t, P t → P (e t)) (hs : P s) :
    P (doorEvent d r more s) := by
  rw [doorEvent_eq]
  refine deliverAll_induct h.drawn (fun e he t ht => ?_) (h.activity _ (h.notice _ ?_))
  · rcases mem_doorHandings he with rfl | rfl | he | ⟨-, rfl | rfl⟩ | rfl
    · exact h.doorUpdate _ _ t ht
    · exact h.doorState _ _ t ht
    · exact hm e he t ht
    · exact h.stopReq t ht
    · exact h.latch t ht
    · exact h.reports _ t ht
  · split
    · exact h.drs _ _ (h.drs _ _ hs)
    · exact h.drs _ _ hs

theorem restart (hs : P s) : P (drsRestart s) := by
  refine deliverAll_induct h.drawn (fun e he t ht => ?_) hs
  rcases List.mem_cons.mp he with rfl | he
  · exact h.stopReq t ht
  · obtain ⟨d, -, rfl⟩ := List.mem_map.mp he
    exact h.event (by simp) ht

theorem wake (hs : P s) : P (drsWake s) := by
  refine deliverAll_induct h.drawn (fun e he t ht => ?_) hs
  rcases List.mem_cons.mp he with rfl | he
  · exact h.stopReq t ht
  · obtain ⟨d, -, rfl⟩ := List.mem_map.mp he
    refine h.event (fun e he t ht => ?_) ht
    rw [List.mem_singleton.mp he]
    exact h.ramp _ _ t ht

end DoorsClosed

/-- Without a present door nothing but the latch is handed (R132). -/
theorem drsRestart_of_noDoor {s : State} (h : ∀ d : Fin 4, s.cal.doors[d].present = false) :
    drsRestart s = stopReqUpdate s ∧ drsWake s = stopReqUpdate s := by
  have none : s.cal.presentDoors = [] := by
    unfold Calibration.presentDoors
    rw [List.filter_eq_nil_iff]
    intro d _
    rw [h d]
    exact nofun
  unfold drsRestart drsWake
  rw [none]
  exact ⟨rfl, rfl⟩

theorem Opu.redecide_copies (o : Opu) (now : Time) : (o.redecide now).copies = o.copies :=
  Opu.copies_of_unlit (o.redecide_unlit now)

theorem Opu.redecide_power (o : Opu) (now : Time) : (o.redecide now).power = o.power :=
  congrArg Prod.fst (o.redecide_copies now)

/-- Changes of slots, door records, notices, OPU's door copies and reports together. -/
theorem UpdateClosed.doors {P : State → Prop} (h : UpdateClosed P) (drs : ∀ x s, P s → P { s with drs := x })
    (activity : ∀ s, P s → P (pwcActivity s)) (opu : ∀ f, (∀ o, (f o).power = o.power) → ∀ s, P s → P (s.opuEvent f))
    (reports : ∀ rs s, P s → P (flmReports rs s)) : DoorsClosed P where
  drawn := h.drawn
  notice := h.notice _
  drs := drs
  activity := activity
  doorUpdate _ _ _ hs := h.source hs
  stopReq _ hs := h.source hs
  doorState d st s := opu (fun o => Opu.redecide { o with doorStates := o.doorStates.set d (some st) } s.now)
    (fun o => Opu.redecide_power _ _) s
  ramp d out := opu (fun o => { o with ramps := o.ramps.set d out }) fun _ => rfl
  latch s := opu (fun o => { o with latch := false }) (fun _ => rfl) s
  reports := reports

/-! ## The door records -/

/-- The doors after an event at one of them. -/
theorem doorBase_drs (d : Fin 4) (r : DoorRecord) (s : State) : (doorBase d r s).drs
    = { s.drs with doors := s.drs.doors.set d r, latch := if r.state = .doorOpen then false else s.drs.latch } := by
  have activity (u : State) : (pwcActivity u).drs = u.drs := by
    unfold pwcActivity
    split <;> rfl
  unfold doorBase clearsLatch
  rw [activity]
  by_cases isOpen : r.state = .doorOpen
  · rw [isOpen, if_pos rfl]
    cases latch : s.drs.latch
    · show Drs.mk _ s.drs.latch = _
      rw [latch]
    · rfl
  · rw [if_neg isOpen, if_neg (by simp [isOpen])]
    rfl

theorem drs_of_outsideFaults {s t : State} (h : t.outsideFaults = s.outsideFaults) : t.drs = s.drs :=
  (congrArg State.drs h :)

theorem sourceUpdate_drs (k : SourceKind) (index : Option (Fin 32)) (st : LiveStatus) (v : Value) (s : State) :
    (sourceUpdate k index st v s).drs = s.drs := drs_of_outside (sourceUpdate_outside k index st v s)

/-- The handings of a door leave the doors. -/
theorem doorHandings_drs {d : Fin 4} {r : DoorRecord} {more : List Delivery} {s : State}
    (hm : ∀ e ∈ more, ∀ t : State, (e t).drs = t.drs) : ∀ e ∈ doorHandings d r more s, ∀ t : State, (e t).drs = t.drs := by
  intro e he t
  rcases mem_doorHandings he with rfl | rfl | he | ⟨-, rfl | rfl⟩ | rfl
  · exact sourceUpdate_drs _ _ _ _ t
  · rfl
  · exact hm e he t
  · exact sourceUpdate_drs _ _ _ _ t
  · rfl
  · exact drs_of_outsideFaults (flmReports_outside _ t)

theorem doorEvent_drs {d : Fin 4} {r : DoorRecord} {more : List Delivery}
    (hm : ∀ e ∈ more, ∀ t : State, (e t).drs = t.drs) (s : State) : (doorEvent d r more s).drs
      = { s.drs with doors := s.drs.doors.set d r, latch := if r.state = .doorOpen then false else s.drs.latch } := by
  rw [doorEvent_eq, ← doorBase_drs]
  exact deliverAll_keeps State.drs (fun _ => rfl) (doorHandings_drs hm) _

theorem doorRederive_drs (d : Fin 4) (s : State) : (doorRederive d s).drs
    = { s.drs with
        doors := s.drs.doors.set d (rederived s d)
        latch := if (rederived s d).state = .doorOpen then false else s.drs.latch } := doorEvent_drs (by simp) s

theorem doorRederive_door (d k : Fin 4) (s : State) :
    (doorRederive d s).drs.doors[k] = if k = d then rederived s d else s.drs.doors[k] := by
  rw [doorRederive_drs]
  show (s.drs.doors.set d.val (rederived s d))[k.val] = _
  rw [Vector.getElem_set]
  by_cases h : k = d
  · rw [if_pos h, if_pos (by rw [h])]
  · rw [if_neg h, if_neg fun v => h (Fin.ext v.symm)]
    rfl

end Sys2Proof.Machine
end

section
namespace Sys2Proof.Machine

open Sys2Proof.Claims

/-! ## Re-derivation (R115) -/

/-- What the doors and channels read besides their own records. -/
def State.inputs (s : State) : Calibration × Vector SwitchState 32 × Time := (s.cal, s.switches, s.pwc.uptime)

theorem inputs_of_outsideDoors {s t : State} (h : t.outsideDoors = s.outsideDoors) : t.inputs = s.inputs :=
  (congrArg State.inputs h :)

/-- The record that a re-derivation gives a door, from what it reads. -/
def rederivedFrom (v : Calibration × Vector SwitchState 32 × Time) (d : Fin 4) (x : DoorRecord) : DoorRecord :=
  rederivedDoor v.1.doors[d] x (fun n => v.2.1[n].active) v.2.2

theorem optActive_iff (s : State) (o : Option (Fin 32)) :
    s.optActive o = true ↔ ∃ k, o = some k ∧ s.switches[k].active = true := by
  unfold State.optActive
  cases o <;> simp

theorem rederived_eq (s : State) (d : Fin 4) : rederived s d = rederivedFrom s.inputs d s.drs.doors[d] := by
  unfold rederived rederivedFrom rederivedDoor State.inputs
  dsimp only
  generalize s.cal.doors[d] = it
  generalize s.drs.doors[d] = x
  simp only [← optActive_iff]
  have locked : (it.lockedInput.isNone || s.optActive it.lockedInput) = true
      ↔ (it.lockedInput = none ∨ s.optActive it.lockedInput = true) := by simp
  unfold closedStateOf State.active
  simp only [locked]
  generalize s.optActive it.releaseInput = release
  generalize s.optActive it.openInput = isOpen
  generalize s.switches[it.closedInput].active = isClosed
  cases release <;> cases isOpen <;> cases isClosed <;> simp [DoorRecord.toReleased, DoorRecord.stopped,
    DoorRecord.opened, DoorRecord.opening, DoorRecord.faulted, State.now_eq]

theorem mem_presentDoors {c : Calibration} {d : Fin 4} : d ∈ c.presentDoors ↔ c.doors[d].present = true := by
  unfold Calibration.presentDoors
  rw [List.mem_filter]
  simp [allDoors]

theorem presentDoors_nodup (c : Calibration) : c.presentDoors.Nodup := (List.nodup_finRange 4).filter _

theorem doorRederive_inputs (d : Fin 4) (s : State) : (doorRederive d s).inputs = s.inputs :=
  inputs_of_outsideDoors (doorEvent_outside d _ s)

theorem stopReqUpdate_outside (s : State) : (stopReqUpdate s).outsideSignals = s.outsideSignals :=
  sourceUpdate_outside _ _ _ _ s

theorem inputs_of_outside {s t : State} (h : t.outsideSignals = s.outsideSignals) : t.inputs = s.inputs :=
  (congrArg State.inputs h :)

/-- What the run restart hands at the doors. -/
theorem mem_restartDoors {s : State} {e : Delivery}
    (h : e ∈ stopReqUpdate :: s.cal.presentDoors.map doorRederive) :
    e = stopReqUpdate ∨ ∃ d, s.cal.doors[d].present = true ∧ e = doorRederive d := by
  rcases List.mem_cons.mp h with rfl | h
  · exact .inl rfl
  · obtain ⟨d, present, rfl⟩ := List.mem_map.mp h
    exact .inr ⟨d, mem_presentDoors.mp present, rfl⟩

theorem restartDoors_inputs {s : State} {e : Delivery} (h : e ∈ stopReqUpdate :: s.cal.presentDoors.map doorRederive)
    (u : State) : (e u).inputs = u.inputs := by
  rcases mem_restartDoors h with rfl | ⟨d, -, rfl⟩
  · exact inputs_of_outside (stopReqUpdate_outside u)
  · exact doorRederive_inputs d u

/-- Every present door is re-derived once, and no other (R132). -/
theorem drsRestart_door (s : State) (d : Fin 4) : (drsRestart s).drs.doors[d]
    = if s.cal.doors[d].present = true then rederivedFrom s.inputs d s.drs.doors[d] else s.drs.doors[d] := by
  have others (e : Delivery) (u : State) (h : e = stopReqUpdate ∨ ∃ k, k ≠ d ∧ e = doorRederive k) :
      (e u).drs.doors[d] = u.drs.doors[d] := by
    rcases h with rfl | ⟨k, other, rfl⟩
    · rw [show (stopReqUpdate u).drs = u.drs from sourceUpdate_drs _ _ _ _ u]
    · rw [doorRederive_door, if_neg other.symm]
  split
  · next present =>
    obtain ⟨l, perm, run⟩ := deliverAll_delivered (stopReqUpdate :: s.cal.presentDoors.map doorRederive) s
    have split : (stopReqUpdate :: s.cal.presentDoors.map doorRederive).Perm
        (doorRederive d :: stopReqUpdate :: (s.cal.presentDoors.erase d).map doorRederive) :=
      (((List.perm_cons_erase (mem_presentDoors.mpr present)).map doorRederive).cons _).trans (List.Perm.swap _ _ _)
    refine run.once (I := fun t => t.inputs = s.inputs) (view := fun t => t.drs.doors[d])
      (turn := rederivedFrom s.inputs d) (perm.trans split) (fun _ h => h) (fun _ => rfl) (fun e he u hu => ?_)
      (fun u hu => ?_) (fun e he u _ => ?_) rfl
    · exact (restartDoors_inputs (split.mem_iff.mpr he) u).trans hu
    · rw [doorRederive_door, if_pos rfl, rederived_eq, hu]
    · refine others e u ?_
      rcases List.mem_cons.mp he with rfl | he
      · exact .inl rfl
      · obtain ⟨k, hk, rfl⟩ := List.mem_map.mp he
        exact .inr ⟨k, ((presentDoors_nodup s.cal).mem_erase_iff.mp hk).1, rfl⟩
  · next absent =>
    refine deliverAll_keeps (fun t => t.drs.doors[d]) (fun _ => rfl) (fun e he u => others e u ?_) s
    exact (mem_restartDoors he).imp_right fun ⟨k, present, same⟩ => ⟨k, fun own => absent (own ▸ present), same⟩

/-! ## Cycle counts -/

theorem rederivedFrom_cycles (v : Calibration × Vector SwitchState 32 × Time) (d : Fin 4) (x : DoorRecord) :
    (rederivedFrom v d x).cycles = x.cycles := by
  unfold rederivedFrom rederivedDoor
  dsimp only
  split
  · rfl
  · split
    · rfl
    · split
      · rfl
      · split <;> rfl

/-- The cycle counts of the doors. -/
def State.doorCycles (s : State) (d : Fin 4) : Count := s.drs.doors[d].cycles

theorem doorEvent_cycles {d : Fin 4} {r : DoorRecord} {more : List Delivery}
    (hm : ∀ e ∈ more, ∀ t : State, (e t).drs = t.drs) (s : State) (same : r.cycles = s.drs.doors[d].cycles) :
    (doorEvent d r more s).doorCycles = s.doorCycles := by
  funext k
  unfold State.doorCycles
  rw [doorEvent_drs hm]
  show ((s.drs.doors.set d.val r)[k.val]).cycles = _
  rw [Vector.getElem_set]
  split
  · next h =>
    rw [same]
    exact congrArg (fun n : Fin 4 => s.drs.doors[n].cycles) (Fin.ext h)
  · rfl

theorem stopReqUpdate_drs (s : State) : (stopReqUpdate s).drs = s.drs := sourceUpdate_drs _ _ _ _ s

/-- Neither run restart nor wake counts a cycle (R132, R133). -/
theorem drsRestart_cycles (s : State) : (drsRestart s).doorCycles = s.doorCycles := by
  refine deliverAll_keeps State.doorCycles (fun _ => rfl) (fun e he u => ?_) s
  rcases mem_restartDoors he with rfl | ⟨d, -, rfl⟩
  · unfold State.doorCycles
    rw [stopReqUpdate_drs]
  · refine doorEvent_cycles (by simp) u ?_
    rw [rederived_eq, rederivedFrom_cycles]

theorem drsWake_cycles (s : State) : (drsWake s).doorCycles = s.doorCycles := by
  refine deliverAll_keeps State.doorCycles (fun _ => rfl) (fun e he u => ?_) s
  rcases List.mem_cons.mp he with rfl | he
  · unfold State.doorCycles
    rw [stopReqUpdate_drs]
  · obtain ⟨d, -, rfl⟩ := List.mem_map.mp he
    refine doorEvent_cycles (fun e he t => ?_) u ?_
    · rw [List.mem_singleton.mp he]
      rfl
    · show (rederived u d).cycles = _
      rw [rederived_eq, rederivedFrom_cycles]

/-! ## What the doors hand -/

theorem pwcActivity_bindings (s : State) : (pwcActivity s).bindings = s.bindings := by
  unfold pwcActivity
  split <;> rfl

theorem pwcActivity_slots (s : State) : (pwcActivity s).slots = s.slots := by
  unfold pwcActivity
  split <;> rfl

theorem pwcActivity_opu (s : State) : (pwcActivity s).opu = s.opu := by
  unfold pwcActivity
  split <;> rfl

theorem doorBase_slots (d : Fin 4) (r : DoorRecord) (s : State) : (doorBase d r s).slots = s.slots := by
  unfold doorBase
  rw [pwcActivity_slots]
  split <;> rfl

theorem doorBase_opu (d : Fin 4) (r : DoorRecord) (s : State) : (doorBase d r s).opu = s.opu := by
  unfold doorBase
  rw [pwcActivity_opu]
  split <;> rfl

theorem bindings_of_slots {s t : State} (h : t.slots = s.slots) : t.bindings = s.bindings := by
  unfold State.bindings
  rw [State.source_of_slots h]

theorem slots_of_outsideFaults {s t : State} (h : t.outsideFaults = s.outsideFaults) : t.slots = s.slots :=
  (congrArg State.slots h :)

theorem sourceUpdate_bindings (k : SourceKind) (index : Option (Fin 32)) (st : LiveStatus) (v : Value) (s : State) :
    (sourceUpdate k index st v s).bindings = s.bindings := (bindings_closed s.bindings).source rfl

/-- The handings of a door leave the bindings. -/
theorem doorHandings_bindings {d : Fin 4} {r : DoorRecord} {s : State} :
    ∀ e ∈ doorHandings d r [] s, ∀ t : State, (e t).bindings = t.bindings := by
  intro e he t
  rcases mem_doorHandings he with rfl | rfl | he | ⟨-, rfl | rfl⟩ | rfl
  · exact sourceUpdate_bindings _ _ _ _ t
  · rfl
  · simp at he
  · exact sourceUpdate_bindings _ _ _ _ t
  · rfl
  · exact bindings_of_slots (slots_of_outsideFaults (flmReports_outside _ t))

theorem doorHandings_inputs {d : Fin 4} {r : DoorRecord} {s : State} :
    ∀ e ∈ doorHandings d r [] s, ∀ t : State, (e t).inputs = t.inputs := by
  intro e he t
  rcases mem_doorHandings he with rfl | rfl | he | ⟨-, rfl | rfl⟩ | rfl
  · exact inputs_of_outside (sourceUpdate_outside _ _ _ _ t)
  · rfl
  · simp at he
  · exact inputs_of_outside (sourceUpdate_outside _ _ _ _ t)
  · rfl
  · exact inputs_of_outside (outsideSignals_of (outsideWarnings_of (flmReports_outside _ t)))

theorem doorEvent_bindings (d : Fin 4) (r : DoorRecord) (s : State) : (doorEvent d r [] s).bindings = s.bindings := by
  rw [doorEvent_eq]
  exact (deliverAll_keeps State.bindings (fun _ => rfl) doorHandings_bindings _).trans
    (bindings_of_slots (doorBase_slots d r s))

/-- The source index of a door. -/
def doorSource (d : Fin 4) : Option (Fin 32) := sourceIndex (by omega) d

theorem doorSource_injective {d k : Fin 4} (h : doorSource d = doorSource k) : d = k := by
  unfold doorSource sourceIndex at h
  exact Fin.castLE_injective _ (Option.some.inj h)

theorem uptime_of_inputs {s t : State} (h : t.inputs = s.inputs) : t.pwc.uptime = s.pwc.uptime :=
  congrArg (fun v : Calibration × Vector SwitchState 32 × Time => v.2.2) h

/-- A slot that a handing of the door does not name keeps what its source left. -/
theorem doorHandings_source {d : Fin 4} {r : DoorRecord} {s : State} {i : Fin 96} {e : Delivery}
    (he : e ∈ doorHandings d r [] s) {t : State} (door : t.bindings i ≠ (.door, doorSource d))
    (latch : t.bindings i ≠ (.stopReq, none) ∨ clearsLatch r s = false) : (e t).source i = t.source i := by
  rcases mem_doorHandings he with rfl | rfl | he | ⟨clears, rfl | rfl⟩ | rfl
  · exact sourceUpdate_source_ne door _ _
  · rfl
  · simp at he
  · exact sourceUpdate_source_ne (latch.resolve_right (by rw [clears]; exact nofun)) _ _
  · rfl
  · exact congrFun (State.source_of_slots (slots_of_outsideFaults (flmReports_outside _ t))) i

/-- An event at a door leaves the slots bound elsewhere. -/
theorem doorEvent_source {d : Fin 4} {r : DoorRecord} {s : State} {i : Fin 96} (door : s.bindings i ≠ (.door, doorSource d))
    (latch : s.bindings i ≠ (.stopReq, none) ∨ clearsLatch r s = false) :
    (doorEvent d r [] s).source i = s.source i := by
  rw [doorEvent_eq]
  have base := State.source_of_slots (doorBase_slots d r s)
  refine (deliverAll_induct (P := fun t => t.bindings = s.bindings ∧ t.source i = s.source i) (fun _ h => h)
    (fun e he t ht => ?_) ⟨bindings_of_slots (doorBase_slots d r s), congrFun base i⟩).2
  obtain ⟨bound, same⟩ := ht
  refine ⟨(doorHandings_bindings e he t).trans bound, (doorHandings_source he ?_ ?_).trans same⟩
  · rw [bound]
    exact door
  · rw [bound]
    exact latch

/-- A door's slots show the state of its record (R126). -/
theorem doorEvent_shows {d : Fin 4} {r : DoorRecord} {s : State} {i : Fin 96} (bound : s.bindings i = (.door, doorSource d)) :
    (doorEvent d r [] s).shows i (BitVec.ofNat 32 r.state.number) := by
  rw [doorEvent_eq]
  obtain ⟨l, perm, run⟩ := deliverAll_delivered (doorHandings d r [] s) (doorBase d r s)
  have made (t : State) (ht : t.bindings = s.bindings) : (doorUpdate d r.state t).shows i (BitVec.ofNat 32 r.state.number) :=
    sourceUpdate_shows (by rw [ht]; exact bound) _
  refine run.establishes (I := fun t => t.bindings = s.bindings)
    (P := fun t => t.shows i (BitVec.ofNat 32 r.state.number)) (d := doorUpdate d r.state)
    (perm.mem_iff.mpr List.mem_cons_self) (fun _ h => h) (fun _ h => h)
    (fun e he t ht => (doorHandings_bindings e (perm.mem_iff.mp he) t).trans ht) made (fun e he t ht shows => ?_)
    (bindings_of_slots (doorBase_slots d r s))
  have same (h : (e t).source i = t.source i) : (e t).shows i (BitVec.ofNat 32 r.state.number) :=
    shows_of_same h (uptime_of_inputs (doorHandings_inputs e (perm.mem_iff.mp he) t)) shows
  rcases mem_doorHandings (perm.mem_iff.mp he) with rfl | rfl | he | ⟨-, rfl | rfl⟩ | rfl
  · exact made t ht
  · exact same rfl
  · simp at he
  · refine same (sourceUpdate_source_ne ?_ _ _)
    rw [ht, bound]
    exact nofun
  · exact same rfl
  · exact same (congrFun (State.source_of_slots (slots_of_outsideFaults (flmReports_outside _ t))) i)

/-- OPU knows the state of the record (R126). -/
theorem doorEvent_doorStates (d : Fin 4) (r : DoorRecord) (s : State) :
    (doorEvent d r [] s).opu.doorStates = s.opu.doorStates.set d (some r.state) := by
  rw [doorEvent_eq]
  obtain ⟨l, perm, run⟩ := deliverAll_delivered (doorHandings d r [] s) (doorBase d r s)
  have told (t : State) : (opuDoorState d r.state t).opu.doorStates = t.opu.doorStates.set d (some r.state) :=
    (congrArg Prod.snd (Opu.redecide_copies _ _) :)
  have base := congrArg Opu.doorStates (doorBase_opu d r s)
  have others {e : Delivery} (he : e ∈ l) (t : State) : e = opuDoorState d r.state ∨ (e t).opu.doorStates = t.opu.doorStates := by
    rcases mem_doorHandings (perm.mem_iff.mp he) with rfl | rfl | he | ⟨-, rfl | rfl⟩ | rfl
    · exact .inr (congrArg Prod.snd ((copies_closed t.opu.copies).source (s := t) rfl))
    · exact .inl rfl
    · simp at he
    · exact .inr (congrArg Prod.snd ((copies_closed t.opu.copies).source (s := t) rfl))
    · exact .inr rfl
    · exact .inr (congrArg Opu.doorStates (opu_of_outsideFaults (flmReports_outside _ t)))
  have member : opuDoorState d r.state ∈ l := perm.mem_iff.mpr (by simp [doorHandings])
  refine run.establishes (I := fun t => t.opu.doorStates = s.opu.doorStates
      ∨ t.opu.doorStates = s.opu.doorStates.set d (some r.state))
    (P := fun t => t.opu.doorStates = s.opu.doorStates.set d (some r.state)) member (fun _ h => h) (fun _ h => h)
    (fun e he t ht => ?_) (fun t ht => ?_) (fun e he t _ ht => ?_) (.inl base)
  · rcases others he t with rfl | same
    · rw [told]
      rcases ht with ht | ht <;> rw [ht]
      · exact .inr rfl
      · exact .inr (Vector.set_set ..)
    · rw [same]
      exact ht
  · rw [told]
    rcases ht with ht | ht <;> rw [ht]
    exact Vector.set_set ..
  · rcases others he t with rfl | same
    · rw [told, ht]
      exact Vector.set_set ..
    · rw [same]
      exact ht

end Sys2Proof.Machine
end

section
namespace Sys2Proof.Machine

open Sys2Proof.Claims

/-! ## What the run restart hands at the doors (R132) -/

/-- The STOPREQ slots show the latch. -/
def State.latchShown (s : State) : Prop :=
  ∀ i : Fin 96, s.bindings i = (.stopReq, none) → s.shows i (if s.drs.latch then 1 else 0)

theorem stopReqUpdate_latchShown (s : State) : (stopReqUpdate s).latchShown := by
  intro i bound
  rw [stopReqUpdate_drs]
  refine sourceUpdate_shows ?_ _
  rw [← bound]
  exact (congrFun (sourceUpdate_bindings _ _ _ _ s) i).symm

theorem latchShown_of_same {s t : State} (bindings : t.bindings = s.bindings) (latch : t.drs.latch = s.drs.latch)
    (uptime : t.pwc.uptime = s.pwc.uptime) (source : ∀ i, s.bindings i = (.stopReq, none) → t.source i = s.source i)
    (h : s.latchShown) : t.latchShown := by
  intro i bound
  rw [bindings] at bound
  rw [latch]
  exact shows_of_same (source i bound) uptime (h i bound)

theorem doorEvent_inputs (d : Fin 4) (r : DoorRecord) (s : State) : (doorEvent d r [] s).inputs = s.inputs :=
  inputs_of_outsideDoors (doorEvent_outside d r s)

/-- A door that opens clears the latch and hands it; any other event at a door leaves the latch (R129). -/
theorem doorEvent_latchShown (d : Fin 4) (r : DoorRecord) {s : State} (h : s.latchShown) :
    (doorEvent d r [] s).latchShown := by
  cases clears : clearsLatch r s with
  | false =>
    refine latchShown_of_same (doorEvent_bindings d r s) ?_ (uptime_of_inputs (doorEvent_inputs d r s))
      (fun i bound => doorEvent_source (by rw [bound]; exact nofun) (.inr clears)) h
    rw [doorEvent_drs (by simp)]
    show (if r.state = .doorOpen then false else s.drs.latch) = s.drs.latch
    split
    · next isOpen =>
      rw [clearsLatch, isOpen] at clears
      exact clears.symm
    · rfl
  | true =>
    rw [doorEvent_eq]
    obtain ⟨l, perm, run⟩ := deliverAll_delivered (doorHandings d r [] s) (doorBase d r s)
    have member : stopReqUpdate ∈ l := by
      refine perm.mem_iff.mpr ?_
      unfold doorHandings
      rw [clears]
      simp [latchHandings]
    refine run.establishes (I := fun _ => True) (P := State.latchShown) member (fun _ _ => trivial) (fun _ h => h)
      (fun _ _ _ _ => trivial) (fun t _ => stopReqUpdate_latchShown t) (fun e he t _ shown => ?_) trivial
    have he := perm.mem_iff.mp he
    by_cases again : e = stopReqUpdate
    · rw [again]
      exact stopReqUpdate_latchShown t
    · refine latchShown_of_same (doorHandings_bindings e he t) (congrArg Drs.latch (doorHandings_drs (by simp) e he t))
        (uptime_of_inputs (doorHandings_inputs e he t)) (fun i bound => ?_) shown
      rcases mem_doorHandings he with rfl | rfl | he | ⟨-, rfl | rfl⟩ | rfl
      · exact sourceUpdate_source_ne (by rw [bound]; exact nofun) _ _
      · rfl
      · simp at he
      · exact absurd rfl again
      · rfl
      · exact congrFun (State.source_of_slots (slots_of_outsideFaults (flmReports_outside _ t))) i

theorem drsRestart_latchShown (s : State) : (drsRestart s).latchShown := by
  obtain ⟨l, perm, run⟩ := deliverAll_delivered (stopReqUpdate :: s.cal.presentDoors.map doorRederive) s
  refine run.establishes (I := fun _ => True) (P := State.latchShown) (perm.mem_iff.mpr List.mem_cons_self)
    (fun _ _ => trivial) (fun _ h => h) (fun _ _ _ _ => trivial) (fun t _ => stopReqUpdate_latchShown t)
    (fun e he t _ shown => ?_) trivial
  rcases mem_restartDoors (perm.mem_iff.mp he) with rfl | ⟨d, -, rfl⟩
  · exact stopReqUpdate_latchShown t
  · exact doorEvent_latchShown d _ shown

/-- The slots of a door and OPU's copy show its state. -/
structure DoorShown (s : State) (d : Fin 4) : Prop where
  slots : ∀ i : Fin 96, s.bindings i = (.door, doorSource d) →
    s.shows i (BitVec.ofNat 32 s.drs.doors[d].state.number)
  copy : s.opu.doorStates[d] = some s.drs.doors[d].state

theorem DoorShown.of_same {s t : State} {d : Fin 4} (h : DoorShown s d) (bindings : t.bindings = s.bindings)
    (door : t.drs.doors[d] = s.drs.doors[d]) (uptime : t.pwc.uptime = s.pwc.uptime)
    (source : ∀ i, s.bindings i = (.door, doorSource d) → t.source i = s.source i)
    (copy : t.opu.doorStates[d] = s.opu.doorStates[d]) : DoorShown t d where
  slots i bound := by
    rw [bindings] at bound
    rw [door]
    exact shows_of_same (source i bound) uptime (h.slots i bound)
  copy := by
    rw [copy, door]
    exact h.copy

theorem doorStates_set_ne {v : Vector (Option DoorState) 4} {d k : Fin 4} (x : Option DoorState) (other : d ≠ k) :
    (v.set k x)[d] = v[d] := by
  show (v.set k.val x)[d.val] = v[d.val]
  exact Vector.getElem_set_ne _ _ fun e => other (Fin.ext e.symm)

theorem doorRederive_shown (d : Fin 4) (s : State) : DoorShown (doorRederive d s) d where
  slots i bound := by
    rw [doorRederive_door, if_pos rfl]
    refine doorEvent_shows ?_
    rw [← bound]
    exact (congrFun (doorEvent_bindings d _ s) i).symm
  copy := by
    rw [doorRederive_door, if_pos rfl]
    show (doorEvent d (rederived s d) [] s).opu.doorStates[d] = _
    rw [doorEvent_doorStates]
    show (s.opu.doorStates.set d.val _)[d.val] = _
    exact Vector.getElem_set_self _

theorem stopReqUpdate_shown {d : Fin 4} {s : State} (h : DoorShown s d) : DoorShown (stopReqUpdate s) d := by
  refine h.of_same (sourceUpdate_bindings _ _ _ _ s) (by rw [stopReqUpdate_drs])
    (uptime_of_outside (stopReqUpdate_outside s)) (fun i bound => ?_) ?_
  · exact sourceUpdate_source_ne (by rw [bound]; exact nofun) _ _
  · exact congrArg (fun v : PowerState × Vector (Option DoorState) 4 => v.2[d])
      ((copies_closed s.opu.copies).source (s := s) rfl)

/-- Each present door is shown as it was re-derived (R126, R132). -/
theorem drsRestart_shown {s : State} {d : Fin 4} (present : s.cal.doors[d].present = true) :
    DoorShown (drsRestart s) d := by
  obtain ⟨l, perm, run⟩ := deliverAll_delivered (stopReqUpdate :: s.cal.presentDoors.map doorRederive) s
  have member : doorRederive d ∈ l :=
    perm.mem_iff.mpr (List.mem_cons_of_mem _ (List.mem_map.mpr ⟨d, mem_presentDoors.mpr present, rfl⟩))
  refine run.establishes (I := fun _ => True) (P := fun t => DoorShown t d) member (fun _ _ => trivial)
    (fun _ h => h.of_same rfl rfl rfl (fun _ _ => rfl) rfl) (fun _ _ _ _ => trivial) (fun t _ => doorRederive_shown d t)
    (fun e he t _ shown => ?_) trivial
  rcases mem_restartDoors (perm.mem_iff.mp he) with rfl | ⟨k, -, rfl⟩
  · exact stopReqUpdate_shown shown
  · by_cases own : d = k
    · subst own
      exact doorRederive_shown d t
    · refine shown.of_same (doorEvent_bindings k _ t) ?_ (uptime_of_inputs (doorRederive_inputs k t))
        (fun i bound => doorEvent_source ?_ (.inl ?_)) ?_
      · rw [doorRederive_door, if_neg own]
      · rw [bound]
        intro same
        exact own (doorSource_injective (congrArg Prod.snd same))
      · rw [bound]
        exact nofun
      · show (doorEvent k _ [] t).opu.doorStates[d] = _
        rw [doorEvent_doorStates]
        exact doorStates_set_ne _ own

theorem holdsFlags_doorEvent (d : Fin 4) (r : DoorRecord) (s : State) (p : Port) :
    holdsFlags p flagDoors (doorEvent d r [] s) := by
  have closed := holdsFlags_doors p flagDoors
  rw [doorEvent_eq]
  refine deliverAll_induct closed.drawn (fun e he t ht => ?_) (closed.activity _ ?_)
  · rcases mem_doorHandings he with rfl | rfl | he | ⟨-, rfl | rfl⟩ | rfl
    · exact closed.toSignalClosed.source ht
    · exact closed.opu _ _ ht
    · simp at he
    · exact closed.toSignalClosed.source ht
    · exact closed.opu _ _ ht
    · exact closed.toSignalClosed.reports ht
  · unfold holdsFlags
    rw [State.port_notice]
    exact flags_added _ _

/-- A re-derivation sets the DOORS notice (R126). -/
theorem drsRestart_notice {s : State} {d : Fin 4} (present : s.cal.doors[d].present = true) (p : Port) :
    holdsFlags p flagDoors (drsRestart s) := by
  obtain ⟨l, perm, run⟩ := deliverAll_delivered (stopReqUpdate :: s.cal.presentDoors.map doorRederive) s
  have closed := holdsFlags_doors p flagDoors
  have member : doorRederive d ∈ l :=
    perm.mem_iff.mpr (List.mem_cons_of_mem _ (List.mem_map.mpr ⟨d, mem_presentDoors.mpr present, rfl⟩))
  refine run.establishes (I := fun _ => True) (P := holdsFlags p flagDoors) member (fun _ _ => trivial)
    closed.drawn (fun _ _ _ _ => trivial) (fun t _ => holdsFlags_doorEvent d _ t p) (fun e he t _ ht => ?_) trivial
  rcases mem_restartDoors (perm.mem_iff.mp he) with rfl | ⟨k, -, rfl⟩
  · exact closed.toSignalClosed.source ht
  · exact closed.rederive ht

end Sys2Proof.Machine
end

section
/-! SUPPORT. The ignition-on: what each of its deliveries keeps (R204, R207). -/

namespace Sys2Proof.Machine

open Sys2Proof.Claims

/-- A property that every delivery of a run restart but the restart of SGT and SNI keeps, where an invariant holds. -/
structure SourceClosed (I P : State → Prop) : Prop where
  drawn : ∀ s, P s → P s.drawn
  tableEvent : ∀ s, I s → P s → P (tableEvent s)
  switchUpdate : ∀ n s, I s → P s → P (switchUpdate n s)
  ccuRestart : ∀ s, I s → P s → P (ccuRestart s)
  drsRestart : ∀ s, I s → P s → P (drsRestart s)
  aging : ∀ s, I s → P s → P (flmAging s)
  power : ∀ s, I s → P s → P (opuPower .run s)

/-- A property that every delivery of an ignition-on keeps. -/
structure RunClosed (P : State → Prop) : Prop extends SourceClosed (fun _ => True) P where
  tableRestart : ∀ s, P s → P (tableRestart s)
  ccuWake : ∀ s, P s → P (ccuWake s)
  drsWake : ∀ s, P s → P (drsWake s)

theorem mem_restartSources {d : Delivery} (h : d ∈ restartSources) :
    (∃ n, d = switchUpdate n) ∨ d = ccuRestart ∨ d = drsRestart := by
  unfold restartSources switchUpdates at h
  rcases List.mem_append.mp h with h | h
  · obtain ⟨n, -, rfl⟩ := List.mem_map.mp h
    exact .inl ⟨n, rfl⟩
  · simpa using Or.inr (a := ∃ n, d = switchUpdate n) (by simpa using h)

theorem mem_wakeSources {d : Delivery} (h : d ∈ wakeSources) : (∃ n, d = switchUpdate n) ∨ d = ccuWake ∨ d = drsWake := by
  unfold wakeSources switchUpdates at h
  rcases List.mem_append.mp h with h | h
  · obtain ⟨n, -, rfl⟩ := List.mem_map.mp h
    exact .inl ⟨n, rfl⟩
  · simpa using Or.inr (a := ∃ n, d = switchUpdate n) (by simpa using h)

theorem mem_onHandings {d : Delivery} (h : d ∈ onHandings) : d = flmAging ∨ d = opuPower .run := by
  simpa [onHandings] using h

namespace SourceClosed

variable {I P : State → Prop} (h : SourceClosed I P)
include h

theorem sources : ∀ d ∈ restartSources, ∀ s, I s → P s → P (d s) := by
  intro d hd s
  rcases mem_restartSources hd with ⟨n, rfl⟩ | rfl | rfl
  · exact h.switchUpdate n s
  · exact h.ccuRestart s
  · exact h.drsRestart s

theorem handings : ∀ d ∈ onHandings, ∀ s, I s → P s → P (d s) := by
  intro d hd s
  rcases mem_onHandings hd with rfl | rfl
  · exact h.aging s
  · exact h.power s

end SourceClosed

namespace RunClosed

variable {P : State → Prop} (h : RunClosed P)
include h

theorem source (I : State → Prop) : SourceClosed I P where
  drawn := h.drawn
  tableEvent s _ := h.tableEvent s trivial
  switchUpdate n s _ := h.switchUpdate n s trivial
  ccuRestart s _ := h.ccuRestart s trivial
  drsRestart s _ := h.drsRestart s trivial
  aging s _ := h.aging s trivial
  power s _ := h.power s trivial

theorem restart : ∀ g ∈ restartGroups, ∀ d ∈ g, ∀ s, P s → P (d s) := by
  intro g hg d hd s hs
  simp only [restartGroups, List.mem_cons, List.not_mem_nil, or_false] at hg
  rcases hg with rfl | rfl | rfl
  · rw [List.mem_singleton.mp hd]
    exact h.tableRestart s hs
  · rw [List.mem_singleton.mp hd]
    exact h.tableEvent s trivial hs
  · exact h.sources d hd s trivial hs

theorem wakes : ∀ d ∈ wakeSources, ∀ s, P s → P (d s) := by
  intro d hd s hs
  rcases mem_wakeSources hd with ⟨n, rfl⟩ | rfl | rfl
  · exact h.switchUpdate n s trivial hs
  · exact h.ccuWake s hs
  · exact h.drsWake s hs

theorem handing : ∀ d ∈ onHandings, ∀ s, P s → P (d s) := fun d hd s => h.handings d hd s trivial

theorem and {Q : State → Prop} (g : RunClosed Q) : RunClosed fun s => P s ∧ Q s where
  drawn s := And.imp (h.drawn s) (g.drawn s)
  tableEvent s _ := And.imp (h.tableEvent s trivial) (g.tableEvent s trivial)
  switchUpdate n s _ := And.imp (h.switchUpdate n s trivial) (g.switchUpdate n s trivial)
  ccuRestart s _ := And.imp (h.ccuRestart s trivial) (g.ccuRestart s trivial)
  drsRestart s _ := And.imp (h.drsRestart s trivial) (g.drsRestart s trivial)
  aging s _ := And.imp (h.aging s trivial) (g.aging s trivial)
  power s _ := And.imp (h.power s trivial) (g.power s trivial)
  tableRestart s := And.imp (h.tableRestart s) (g.tableRestart s)
  ccuWake s := And.imp (h.ccuWake s) (g.ccuWake s)
  drsWake s := And.imp (h.drsWake s) (g.drsWake s)

end RunClosed

/-- Changes of slots, together with what the blocks alter besides, kept: every delivery keeps the property. -/
theorem UpdateClosed.run {P : State → Prop} (h : UpdateClosed P) (ccu : ∀ x s, P s → P { s with ccu := x })
    (doors : DoorsClosed P) (restart : ∀ s, P s → P (Machine.tableRestart s))
    (table : ∀ s, P s → P (Machine.tableEvent s)) (aging : ∀ s, P s → P (flmAging s))
    (power : ∀ s, P s → P (opuPower .run s)) : RunClosed P where
  drawn := h.drawn
  tableEvent s _ := table s
  switchUpdate _ _ _ hs := h.source hs
  ccuRestart _ _ hs := h.restart ccu hs
  drsRestart _ _ hs := doors.restart hs
  aging s _ := aging s
  power s _ := power s
  tableRestart := restart
  ccuWake _ hs := h.wake ccu hs
  drsWake _ hs := doors.wake hs

/-! ## The frame of an ignition-on -/

/-- The state without what an ignition-on's deliveries alter. -/
def State.outsideRun (s : State) : State :=
  { s.outsideSignals with drs := drsReset, ccu := ccuReset, senders := Vector.replicate 8 senderReset }

theorem outsideRun_of {s t : State} (h : s.outsideSignals = t.outsideSignals) : s.outsideRun = t.outsideRun :=
  congrArg (fun u : State => { u with
    drs := drsReset, ccu := ccuReset, senders := Vector.replicate 8 senderReset }) h

theorem power_of_outsideRun {s t : State} (h : t.outsideRun = s.outsideRun) : t.pwc.power = s.pwc.power :=
  (congrArg (fun u : State => u.pwc.power) h :)

theorem outsideRun_signals (v : State) : SignalClosed fun t => t.outsideRun = v :=
  view_closed State.outsideRun (fun _ _ h => outsideRun_of h) v

theorem outsideRun_channels (v : State) : ChannelClosed fun t => t.outsideRun = v where
  toSignalClosed := outsideRun_signals v
  setChannel _ _ _ h := h
  putOdometer _ _ h := h
  putHours _ _ h := h
  mapChannels _ _ h := h
  request _ _ h := h

/-- In RUN door activity starts no quiet time (R206). -/
theorem outsideRun_doors {s : State} (run : s.pwc.power = .run) : DoorClosed fun t => t.outsideRun = s.outsideRun where
  toSignalClosed := outsideRun_signals _
  setDoor _ _ _ h := h
  putLatch _ _ h := h
  activity t h := by
    have power := power_of_outsideRun h
    unfold pwcActivity
    rw [if_neg (by rw [power, run]; exact nofun)]
    exact h

theorem flmAging_outside (s : State) : (flmAging s).outsideFaults = s.outsideFaults := flmEvent_outside _ s

theorem flmAging_outsideSignals (s : State) : (flmAging s).outsideSignals = s.outsideSignals :=
  outsideSignals_of (outsideWarnings_of (flmAging_outside s))

theorem tableEvent_outsideSignals (s : State) : (tableEvent s).outsideSignals = s.outsideSignals :=
  outsideSignals_of (tableEvent_outside s)

theorem switchUpdate_outside (n : Fin 32) (s : State) : (switchUpdate n s).outsideSignals = s.outsideSignals :=
  sourceUpdate_outside _ _ _ _ s

theorem opuPower_outsideSignals (p : PowerState) (s : State) : (opuPower p s).outsideSignals = s.outsideSignals :=
  outsideSignals_of (opuEvent_outside _ s)

theorem tableRestart_outside (s : State) : (tableRestart s).outsideRun = s.outsideRun := rfl

theorem outsideRun_closed {s : State} (run : s.pwc.power = .run) : RunClosed fun t => t.outsideRun = s.outsideRun where
  drawn _ h := h
  tableEvent t _ h := (outsideRun_of (tableEvent_outsideSignals t)).trans h
  switchUpdate n t _ h := (outsideRun_of (switchUpdate_outside n t)).trans h
  ccuRestart _ _ h := (outsideRun_channels _).restart h
  drsRestart _ _ h := (outsideRun_doors run).restart h
  aging t _ h := (outsideRun_of (flmAging_outsideSignals t)).trans h
  power t _ h := (outsideRun_of (opuPower_outsideSignals .run t)).trans h
  tableRestart t h := (tableRestart_outside t).trans h
  ccuWake _ h := (outsideRun_channels _).wake h
  drsWake _ h := (outsideRun_doors run).wake h

end Sys2Proof.Machine
end

section
namespace Sys2Proof.Machine

open Sys2Proof.Claims

/-! ## What every delivery of an ignition-on keeps -/

theorem tableRestart_slot (s : State) (i : Fin 96) :
    (tableRestart s).slots[i] = s.slots[i].unavailable s.pwc.uptime := by
  show (s.slots.map fun x => x.unavailable s.now)[i.val] = _
  rw [Vector.getElem_map]
  rfl

theorem Slot.unavailable_kind (x : Slot) (now : Time) : (x.unavailable now).kind = x.kind := by
  unfold Slot.unavailable
  split <;> rfl

theorem Slot.unavailable_index (x : Slot) (now : Time) : (x.unavailable now).index = x.index := by
  unfold Slot.unavailable
  split <;> rfl

theorem tableRestart_bindings (s : State) : (tableRestart s).bindings = s.bindings := by
  funext i
  show ((tableRestart s).slots[i].kind, (tableRestart s).slots[i].index) = (s.slots[i].kind, s.slots[i].index)
  rw [tableRestart_slot, Slot.unavailable_kind, Slot.unavailable_index]

theorem tableEvent_slots (s : State) : (tableEvent s).slots = s.slots := slots_of_outsideWarnings (tableEvent_outside s)

theorem flmAging_slots (s : State) : (flmAging s).slots = s.slots := slots_of_outsideFaults (flmAging_outside s)

theorem flmReports_slots (rs : List Report) (s : State) : (flmReports rs s).slots = s.slots :=
  slots_of_outsideFaults (flmReports_outside rs s)

theorem bindings_run (b : Fin 96 → SourceKind × Option (Fin 32)) : RunClosed fun t => t.bindings = b :=
  (bindings_closed b).run (fun _ _ h => h)
    ((bindings_closed b).doors (fun _ _ h => h) (fun s h => (pwcActivity_bindings s).trans h) (fun _ _ _ h => h)
      fun rs s h => (bindings_of_slots (flmReports_slots rs s)).trans h)
    (fun s h => (tableRestart_bindings s).trans h) (fun s h => (bindings_of_slots (tableEvent_slots s)).trans h)
    (fun s h => (bindings_of_slots (flmAging_slots s)).trans h) fun _ h => h

theorem roles_of_outside {s t : State} (h : t.outsideSignals = s.outsideSignals) : t.roles = s.roles :=
  (congrArg State.roles h :)

theorem roles_of_outsideDoors {s t : State} (h : t.outsideDoors = s.outsideDoors) : t.roles = s.roles :=
  (congrArg State.roles h :)

theorem roles_run (v : Calibration × RoleCount × RoleCount) : RunClosed fun t => t.roles = v where
  drawn _ h := h
  tableEvent s _ h := (roles_of_outside (tableEvent_outsideSignals s)).trans h
  switchUpdate n s _ h := (roles_of_outside (switchUpdate_outside n s)).trans h
  ccuRestart s _ h := by
    rw [ccuRestart_eq]
    exact ccuDeliverAll_keeps (P := fun t => t.roles = v) (fun _ h => h) (fun c _ => (roles_event c v).initial)
      ((restartBase_same s).1.trans h)
  drsRestart s _ h := (roles_of_outsideDoors ((doors_closed s.outsideDoors).restart rfl)).trans h
  aging s _ h := (roles_of_outside (flmAging_outsideSignals s)).trans h
  power s _ h := (roles_of_outside (opuPower_outsideSignals .run s)).trans h
  tableRestart _ h := h
  ccuWake _ h := ccuWake_keeps (P := fun t => t.roles = v) (fun _ h => h) (fun c _ => (roles_event c v).wake) h
  drsWake s h := (roles_of_outsideDoors ((doors_closed s.outsideDoors).wake rfl)).trans h

theorem drs_of_outsideChannels {s t : State} (h : t.outsideChannels = s.outsideChannels) : t.drs = s.drs :=
  (congrArg State.drs h :)

theorem ccuRestart_drs (s : State) : (ccuRestart s).drs = s.drs :=
  drs_of_outsideChannels ((channels_closed s.outsideChannels).restart rfl)

theorem ccuWake_drs (s : State) : (ccuWake s).drs = s.drs :=
  drs_of_outsideChannels ((channels_closed s.outsideChannels).wake rfl)

theorem doorCycles_of_drs {s t : State} (h : t.drs = s.drs) : t.doorCycles = s.doorCycles := by
  unfold State.doorCycles
  rw [h]

theorem doorCycles_run (v : Fin 4 → Count) : RunClosed fun t => t.doorCycles = v where
  drawn _ h := h
  tableEvent s _ h := (doorCycles_of_drs (drs_of_outside (tableEvent_outsideSignals s))).trans h
  switchUpdate n s _ h := (doorCycles_of_drs (drs_of_outside (switchUpdate_outside n s))).trans h
  ccuRestart s _ h := (doorCycles_of_drs (ccuRestart_drs s)).trans h
  drsRestart s _ h := (drsRestart_cycles s).trans h
  aging s _ h := (doorCycles_of_drs (drs_of_outside (flmAging_outsideSignals s))).trans h
  power s _ h := (doorCycles_of_drs (drs_of_outside (opuPower_outsideSignals .run s))).trans h
  tableRestart _ h := h
  ccuWake s h := (doorCycles_of_drs (ccuWake_drs s)).trans h
  drsWake s h := (drsWake_cycles s).trans h

/-- What an ignition-on's deliveries leave alone: the frame, the bindings, the role counts, the cycle counts. -/
structure Steady (s t : State) : Prop where
  frame : t.outsideRun = s.outsideRun
  bindings : t.bindings = s.bindings
  roles : t.roles = s.roles
  cycles : t.doorCycles = s.doorCycles

theorem Steady.refl (s : State) : Steady s s := ⟨rfl, rfl, rfl, rfl⟩

theorem inputs_of_outsideRun {s t : State} (h : t.outsideRun = s.outsideRun) : t.inputs = s.inputs :=
  (congrArg State.inputs h :)

theorem Steady.inputs {s t : State} (h : Steady s t) : t.inputs = s.inputs := inputs_of_outsideRun h.frame

theorem Steady.cal {s t : State} (h : Steady s t) : t.cal = s.cal := congrArg Prod.fst h.inputs

theorem Steady.uptime {s t : State} (h : Steady s t) : t.pwc.uptime = s.pwc.uptime := uptime_of_inputs h.inputs

theorem Steady.switches {s t : State} (h : Steady s t) : t.switches = s.switches :=
  congrArg (fun v : Calibration × Vector SwitchState 32 × Time => v.2.1) h.inputs

theorem steady_iff {s t : State} : Steady s t ↔ (t.outsideRun = s.outsideRun ∧ t.bindings = s.bindings)
    ∧ t.roles = s.roles ∧ t.doorCycles = s.doorCycles :=
  ⟨fun ⟨a, b, c, d⟩ => ⟨⟨a, b⟩, c, d⟩, fun ⟨⟨a, b⟩, c, d⟩ => ⟨a, b, c, d⟩⟩

theorem steady_run {s : State} (run : s.pwc.power = .run) : RunClosed (Steady s) := by
  have all := ((outsideRun_closed run).and (bindings_run s.bindings)).and
    ((roles_run s.roles).and (doorCycles_run s.doorCycles))
  rwa [show (Steady s) = fun t => (t.outsideRun = s.outsideRun ∧ t.bindings = s.bindings)
    ∧ t.roles = s.roles ∧ t.doorCycles = s.doorCycles from funext fun t => propext steady_iff]

/-! ## What a delivery of an ignition-on establishes, and the others keep -/

theorem flmReports_opu (rs : List Report) (s : State) : (flmReports rs s).opu = s.opu :=
  opu_of_outsideFaults (flmReports_outside rs s)

theorem wreTable_copies (s : State) : (wreTable s).opu.copies = s.opu.copies :=
  Opu.copies_of_outsideWarnings (wreFinish_opu _ s)

theorem opuTable_copies (s : State) : (opuTable s).opu.copies = s.opu.copies := Opu.decideOpen_copies _ _

theorem tableEvent_copies (s : State) : (tableEvent s).opu.copies = s.opu.copies := by
  refine deliverAll_keeps (fun t => t.opu.copies) (fun _ => rfl) (fun d hd t => ?_) s
  simp only [List.mem_cons, List.not_mem_nil, or_false] at hd
  rcases hd with rfl | rfl
  · exact wreTable_copies t
  · exact opuTable_copies t

theorem Opu.enter_copies (o : Opu) (p : PowerState) (now : Time) : (o.enter p now).copies = (p, o.doorStates) :=
  Opu.redecide_copies _ now

/-- OPU takes the power state and keeps the door states (R109, R111). -/
theorem opuPower_copies (p : PowerState) (s : State) : (opuPower p s).opu.copies = (p, s.opu.doorStates) := by
  cases p with
  | start => rfl
  | sleep => rfl
  | run =>
    show (if s.opu.deciding then _ else _ : Opu).copies = _
    split
    · rfl
    · exact (Opu.decideOpen_copies _ _).trans (Opu.enter_copies _ _ _)
  | afterrun =>
    show (if s.opu.deciding then _ else _ : Opu).copies = _
    split
    · rfl
    · exact (Opu.decideOpen_copies _ _).trans (Opu.enter_copies s.opu .afterrun s.now)

theorem opuPower_power (p : PowerState) (s : State) : (opuPower p s).opu.power = p :=
  congrArg Prod.fst (opuPower_copies p s)

/-- The power state that OPU knows stands through every change of slots. -/
theorem opuPower_closed (p : PowerState) : UpdateClosed fun t => t.opu.power = p where
  drawn _ h := h
  notice _ _ h := h
  liveChange i v st s h := (congrArg Prod.fst (opuLiveChange_copies i v st s)).trans h
  evaluate r s h := (congrArg Prod.fst ((copies_closed s.opu.copies).evaluate r s rfl)).trans h
  sample i v st s h := by
    rw [svcSample_opu]
    exact h
  endTest s h := (congrArg Prod.fst ((copies_closed s.opu.copies).endTest s rfl)).trans h
  unslot _ _ h := h
  endService _ h := h
  release i s h := (congrArg Prod.fst ((copies_closed s.opu.copies).release i s rfl)).trans h
  setSlot _ _ _ _ h := h

theorem flmAging_opu (s : State) : (flmAging s).opu = s.opu := opu_of_outsideFaults (flmAging_outside s)

theorem opuPower_run : RunClosed fun t => t.opu.power = .run :=
  (opuPower_closed .run).run (fun _ _ h => h)
    ((opuPower_closed .run).doors (fun _ _ h => h) (fun s h => by rw [pwcActivity_opu]; exact h)
      (fun f same s h => (same s.opu).trans h) fun rs s h => by rw [flmReports_opu]; exact h)
    (fun _ h => h) (fun s h => (congrArg Prod.fst (tableEvent_copies s)).trans h)
    (fun s h => by rw [flmAging_opu]; exact h) fun s _ => opuPower_power .run s

/-- Evaluations leave the mark of the table event (R96). -/
theorem evaluations_taken (s : State) (l : List (Fin 48)) {e : WreEvent} (h : e.wre.tableTaken = true) :
    (l.foldl (fun e r => e.evaluate s r) e).wre.tableTaken = true :=
  EventClosed.fold (Q := fun e => e.wre.tableTaken = true) (fun _ _ => (eventClosed_tableTaken s true).evaluate) h

theorem wreTable_taken (s : State) : (wreTable s).wre.tableTaken = true := by
  unfold wreTable wreEvent
  generalize allRules = rules
  rw [wreFinish_wre]
  exact evaluations_taken s rules rfl

theorem opuTable_wre (s : State) : (opuTable s).wre = s.wre := rfl

/-- The table event is taken (R96). -/
theorem tableEvent_taken (s : State) : (tableEvent s).wre.tableTaken = true := by
  unfold tableEvent
  rcases deliverAll_two wreTable opuTable s with order | order <;> rw [order]
  · rw [opuTable_wre]
    exact wreTable_taken _
  · exact wreTable_taken _

theorem pwcActivity_wre (s : State) : (pwcActivity s).wre = s.wre := by
  unfold pwcActivity
  split <;> rfl

theorem tableTaken_run : RunClosed fun t => t.wre.tableTaken = true :=
  tableTaken_closed.run (fun _ _ h => h)
    (tableTaken_closed.doors (fun _ _ h => h) (fun s h => by rw [pwcActivity_wre]; exact h) (fun _ _ _ h => h)
      fun rs s h => by rw [wre_of_outsideFaults (flmReports_outside rs s)]; exact h)
    (fun _ h => h) (fun s _ => tableEvent_taken s)
    (fun s h => by rw [wre_of_outsideFaults (flmAging_outside s)]; exact h) fun _ h => h

/-- A flag that a port holds stays through an ignition-on. -/
theorem holdsFlags_run (p : Port) (f : Notices) : RunClosed (holdsFlags p f) where
  drawn _ h := h
  tableEvent s _ h := by
    refine deliverAll_induct (P := holdsFlags p f) (fun _ h => h) (fun d hd t ht => ?_) h
    simp only [List.mem_cons, List.not_mem_nil, or_false] at hd
    rcases hd with rfl | rfl
    · exact holdsFlags_wreEvent p f _ ht
    · exact (holdsFlags_closed p f).opu _ _ ht
  switchUpdate _ _ _ h := (holdsFlags_closed p f).source h
  ccuRestart _ _ h := (holdsFlags_channels p f).restart h
  drsRestart _ _ h := (holdsFlags_doors p f).restart h
  aging _ _ h := holdsFlags_flmEvent p f _ h
  power s _ h := (holdsFlags_closed p f).opu _ _ h
  tableRestart _ h := h
  ccuWake _ h := (holdsFlags_channels p f).wake h
  drsWake _ h := (holdsFlags_doors p f).wake h

theorem unsubstituted_run (j : Fin 96) : RunClosed fun t => t.slots[j].substitution = none :=
  (unsubstituted_closed j).run (fun _ _ h => h)
    ((unsubstituted_closed j).doors (fun _ _ h => h) (fun s h => by rw [pwcActivity_slots]; exact h) (fun _ _ _ h => h)
      fun rs s h => by rw [flmReports_slots]; exact h)
    (fun s h => by
      rw [tableRestart_slot]
      unfold Slot.unavailable
      split
      · rfl
      · exact h)
    (fun s h => by rw [tableEvent_slots]; exact h) (fun s h => by rw [flmAging_slots]; exact h) fun _ h => h

end Sys2Proof.Machine
end

section
namespace Sys2Proof.Machine

open Sys2Proof.Claims

/-! ## The groups of an ignition-on -/

/-- What an ignition-on delivers in order: after the wake from SLEEP, and as a run restart with RSTRUN HIGH (R204, R207). -/
def onGroups (wake rstrun : Bool) : List (List Delivery) :=
  if wake then (if rstrun then wakeSources :: restartGroups else [tableEvent :: wakeSources])
  else (if rstrun then restartGroups else [[tableEvent]])

theorem ignitionOn_eq (s : State) :
    ignitionOn s = deliverGroups (onGroups false s.pwc.rstrun) onHandings (toRun s) := rfl

theorem wakeRun_eq (s : State) : wakeRun s
    = handStoreIdle (deliverGroups (onGroups true s.pwc.rstrun) onHandings (firstSample (toRun s))) := rfl

theorem mem_onGroups {wake rstrun : Bool} {g : List Delivery} (hg : g ∈ onGroups wake rstrun) {d : Delivery}
    (hd : d ∈ g) : d = tableEvent ∨ d ∈ wakeSources ∨ ∃ h ∈ restartGroups, d ∈ h := by
  have restart : g ∈ restartGroups → d = tableEvent ∨ d ∈ wakeSources ∨ ∃ h ∈ restartGroups, d ∈ h :=
    fun h => .inr (.inr ⟨g, h, hd⟩)
  cases wake <;> cases rstrun
  · rw [List.mem_singleton.mp hg] at hd
    exact .inl (List.mem_singleton.mp hd)
  · exact restart hg
  · rw [List.mem_singleton.mp hg] at hd
    exact (List.mem_cons.mp hd).imp_right .inl
  · rcases List.mem_cons.mp hg with rfl | h
    · exact .inr (.inl hd)
    · exact restart h

theorem tableEvent_mem_onGroups (wake rstrun : Bool) : ∃ g ∈ onGroups wake rstrun, tableEvent ∈ g := by
  cases wake <;> cases rstrun
  · exact ⟨_, List.mem_singleton_self _, List.mem_singleton_self _⟩
  · exact ⟨[tableEvent], by simp [onGroups, restartGroups], List.mem_singleton_self _⟩
  · exact ⟨_, List.mem_singleton_self _, List.mem_cons_self⟩
  · exact ⟨[tableEvent], by simp [onGroups, restartGroups], List.mem_singleton_self _⟩

namespace RunClosed

variable {P : State → Prop} (h : RunClosed P)
include h

theorem onGroups {wake rstrun : Bool} : ∀ g ∈ onGroups wake rstrun, ∀ d ∈ g, ∀ s, P s → P (d s) := by
  intro g hg d hd s hs
  rcases mem_onGroups hg hd with rfl | hd | ⟨k, hk, hd⟩
  · exact h.tableEvent s trivial hs
  · exact h.wakes d hd s hs
  · exact h.restart k hk d hd s hs

/-- What every delivery keeps stands in the end. -/
theorem delivered {wake rstrun : Bool} {s : State} (hs : P s) :
    P (deliverGroups (Machine.onGroups wake rstrun) onHandings s) :=
  deliverGroups_induct h.drawn h.onGroups h.handing hs

/-- What one delivery makes, and every one keeps, holds in the end. -/
theorem made {wake rstrun : Bool} {d : Delivery}
    (hd : d ∈ onHandings ∨ ∃ g ∈ Machine.onGroups wake rstrun, d ∈ g) (makes : ∀ u, P (d u)) (s : State) :
    P (deliverGroups (Machine.onGroups wake rstrun) onHandings s) := by
  obtain ⟨l, perm, run⟩ := deliverGroups_delivered (Machine.onGroups wake rstrun) onHandings s
  refine run.establishes (I := fun _ => True) (perm.mem_iff.mpr (List.mem_append.mpr ?_)) (fun _ _ => trivial)
    h.drawn (fun _ _ _ _ => trivial) (fun u _ => makes u) (fun e he u _ hu => ?_) trivial
  · exact hd.elim .inr fun ⟨g, hg, hd⟩ => .inl (List.mem_flatten.mpr ⟨g, hg, hd⟩)
  · rcases List.mem_append.mp (perm.mem_iff.mp he) with he | he
    · obtain ⟨g, hg, he⟩ := List.mem_flatten.mp he
      exact h.onGroups g hg e he u hu
    · exact h.handing e he u hu

end RunClosed

/-- OPU knows RUN, the table event is taken, and the POWER notice stands, however the deliveries fall. -/
theorem onGroups_run (wake rstrun : Bool) {s : State} (notice : NoticeOnAll flagPower s) :
    let t := deliverGroups (onGroups wake rstrun) onHandings s
    t.opu.power = .run ∧ NoticeOnAll flagPower t ∧ t.wre.tableTaken = true :=
  ⟨opuPower_run.made (.inl (List.mem_cons_of_mem _ List.mem_cons_self)) (opuPower_power .run) s,
    fun p => (holdsFlags_run p flagPower).delivered (notice p),
    tableTaken_run.made (.inr (tableEvent_mem_onGroups wake rstrun)) tableEvent_taken s⟩

/-! ## The aging step -/

/-- Fault Memory after an aging step (R146). -/
def agedFlm (limit : BitVec 8) (f : Flm) : Flm :=
  { f with
    list := f.list.filterMap (FaultEntry.aged limit)
    generation := if ∃ e ∈ f.list, e.active = false then f.generation + 1 else f.generation }

theorem aged_iff (s t : State) : Aged s t ↔ t.flm = agedFlm s.cal.general.agingLimit s.flm := by
  have entry (e : FaultEntry) : (if e.active then some e
      else if s.cal.general.agingLimit ≤ (if e.aging = 255 then 255 else e.aging + 1) then none
      else some { e with aging := if e.aging = 255 then 255 else e.aging + 1 })
      = e.aged s.cal.general.agingLimit := by
    unfold FaultEntry.aged satInc
    rw [show BitVec.allOnes 8 = 255 from rfl]
    by_cases last : e.aging = 255 <;> simp only [last, if_true, if_false]
  unfold Aged agedFlm
  simp only [entry]

theorem aged_of_active {limit : BitVec 8} {e : FaultEntry} (h : e.active = true) : e.aged limit = some e := if_pos h

theorem flmAging_flm (s : State) : (flmAging s).flm = agedFlm s.cal.general.agingLimit s.flm := by
  unfold flmAging Flm.agingStep agedFlm
  by_cases stored : ∃ e ∈ s.flm.list, e.active = false
  · rw [if_pos stored, if_pos (by simpa using stored)]
    rfl
  · rw [if_neg stored, if_neg (by simpa using stored)]
    have kept : s.flm.list.filterMap (FaultEntry.aged s.cal.general.agingLimit) = s.flm.list := by
      refine (List.filterMap_congr fun e he => aged_of_active ?_).trans (List.filterMap_some)
      by_contra quiet
      exact stored ⟨e, he, by simpa using quiet⟩
    rw [kept]
    rfl

/-- Where nothing else reports, an ignition-on ages the faults once (R146). -/
theorem deliverGroups_aged {groups : List (List Delivery)} {s : State}
    (quiet : ∀ g ∈ groups, ∀ d ∈ g, ∀ u : State, u.cal = s.cal → (d u).cal = s.cal ∧ (d u).flm = u.flm) :
    (deliverGroups groups onHandings s).flm = agedFlm s.cal.general.agingLimit s.flm := by
  obtain ⟨l, perm, run⟩ := deliverGroups_delivered groups onHandings s
  have others : ∀ e ∈ groups.flatten ++ [opuPower .run], ∀ u : State, u.cal = s.cal →
      (e u).cal = s.cal ∧ (e u).flm = u.flm := by
    intro e he u hu
    rcases List.mem_append.mp he with he | he
    · obtain ⟨g, hg, he⟩ := List.mem_flatten.mp he
      exact quiet g hg e he u hu
    · rw [List.mem_singleton.mp he]
      exact ⟨(cal_of_outside (opuPower_outsideSignals .run u)).trans hu, rfl⟩
  refine run.once (I := fun u => u.cal = s.cal) (view := State.flm) (d := flmAging)
    (perm.trans List.perm_middle) (fun _ h => h) (fun _ => rfl) (fun e he u hu => ?_) (fun u hu => ?_)
    (fun e he u hu => (others e he u hu).2) rfl
  · rcases List.mem_cons.mp he with rfl | he
    · exact (cal_of_outside (flmAging_outsideSignals u)).trans hu
    · exact (others e he u hu).1
  · rw [flmAging_flm, hu]

/-- Where no rule reports, the table event leaves Fault Memory. -/
theorem evaluations_reportless {s : State} (silent : s.cal.reportless) (l : List (Fin 48)) {e : WreEvent}
    (h : e.reports = []) : (l.foldl (fun e r => e.evaluate s r) e).reports = [] :=
  EventClosed.fold (Q := fun e => e.reports = []) (fun _ _ => (eventClosed_noReports silent).evaluate) h

theorem wreTable_flm {s : State} (silent : s.cal.reportless) : (wreTable s).flm = s.flm := by
  unfold wreTable wreEvent
  generalize allRules = rules
  refine wreFinish_flm ?_ s
  exact evaluations_reportless silent rules rfl

theorem opuTable_flm (s : State) : (opuTable s).flm = s.flm := rfl

theorem tableEvent_quiet {c : Calibration} (silent : c.reportless) {u : State} (hu : u.cal = c) :
    (tableEvent u).cal = c ∧ (tableEvent u).flm = u.flm := by
  refine ⟨(cal_of_outside (tableEvent_outsideSignals u)).trans hu, ?_⟩
  subst hu
  unfold tableEvent
  rcases deliverAll_two wreTable opuTable u with order | order <;> rw [order]
  · rw [opuTable_flm]
    exact wreTable_flm silent
  · exact wreTable_flm silent

/-- Where no rule reports and no door is present, nothing but the aging step reaches Fault Memory. -/
theorem onGroups_quiet {c : Calibration} (silent : c.reportless) (noDoor : ∀ d : Fin 4, c.doors[d].present = false)
    {wake rstrun : Bool} : ∀ g ∈ onGroups wake rstrun, ∀ d ∈ g, ∀ u : State, u.cal = c →
      (d u).cal = c ∧ (d u).flm = u.flm := by
  intro g hg d hd u hu
  have closed := flm_closed silent u.flm
  have start : u.cal = c ∧ u.flm = u.flm := ⟨hu, rfl⟩
  have doors : drsRestart u = stopReqUpdate u ∧ drsWake u = stopReqUpdate u :=
    drsRestart_of_noDoor (by rw [hu]; exact noDoor)
  rcases mem_onGroups hg hd with rfl | hd | ⟨k, hk, hd⟩
  · exact tableEvent_quiet silent hu
  · rcases mem_wakeSources hd with ⟨n, rfl⟩ | rfl | rfl
    · exact closed.source start
    · exact closed.wake (fun _ _ h => h) start
    · rw [doors.2]
      exact closed.source start
  · simp only [restartGroups, List.mem_cons, List.not_mem_nil, or_false] at hk
    rcases hk with rfl | rfl | rfl
    · rw [List.mem_singleton.mp hd]
      exact ⟨hu, rfl⟩
    · rw [List.mem_singleton.mp hd]
      exact tableEvent_quiet silent hu
    · rcases mem_restartSources hd with ⟨n, rfl⟩ | rfl | rfl
      · exact closed.source start
      · exact closed.restart (fun _ _ h => h) start
      · rw [doors.1]
        exact closed.source start

end Sys2Proof.Machine
end

section
namespace Sys2Proof.Machine

open Sys2Proof.Claims

/-! ## What a run restart establishes -/

theorem onGroups_restart (wake : Bool) : onGroups wake true
    = (if wake then [wakeSources] else []) ++ [tableRestart] :: [[tableEvent], restartSources] := by
  cases wake <;> rfl

/-- What a source of the run restart makes, and what runs beside it keeps, holds in the end. -/
theorem runRestart_makes {I P : State → Prop} (inv : RunClosed I) (wake : Bool) {d : Delivery}
    (hd : d ∈ restartSources) (drawn : ∀ u, P u → P u.drawn) (makes : ∀ u, I u → P (d u))
    (keeps : ∀ e, e ∈ restartSources → e ≠ d → ∀ u, I u → P u → P (e u))
    (aging : ∀ u, I u → P u → P (flmAging u)) (power : ∀ u, I u → P u → P (opuPower .run u)) {s : State} (hs : I s) :
    P (deliverGroups (onGroups wake true) onHandings s) := by
  have shape : onGroups wake true
      = ((if wake then [wakeSources] else []) ++ [[tableRestart], [tableEvent]]) ++ restartSources :: [] := by
    cases wake <;> rfl
  have kept := inv.onGroups (wake := wake) (rstrun := true)
  rw [shape] at kept ⊢
  refine deliverGroups_establishes hd inv.drawn drawn kept inv.handing makes (fun g hg e he u hu hp => ?_)
    (fun e he u hu hp => ?_) hs
  · rw [List.mem_singleton.mp hg] at he
    by_cases same : e = d
    · rw [same]
      exact makes u hu
    · exact keeps e he same u hu hp
  · rcases mem_onHandings he with rfl | rfl
    · exact aging u hu hp
    · exact power u hu hp

/-- What the restart of SGT and SNI makes, and the table event, the sources and the handings keep, holds in the end. -/
theorem tableRestart_makes {I P : State → Prop} (inv : RunClosed I) (wake : Bool)
    (makes : ∀ u, I u → P (tableRestart u)) (closed : SourceClosed I P) {s : State} (hs : I s) :
    P (deliverGroups (onGroups wake true) onHandings s) := by
  have kept := inv.onGroups (wake := wake) (rstrun := true)
  rw [onGroups_restart] at kept ⊢
  refine deliverGroups_establishes (List.mem_singleton_self _) inv.drawn closed.drawn kept inv.handing makes
    (fun g hg e he u hu hp => ?_) (fun e he u => closed.handings e he u) hs
  rcases List.mem_cons.mp hg with rfl | hg
  · rw [List.mem_singleton.mp he]
    exact makes u hu
  · rcases List.mem_cons.mp hg with rfl | hg
    · rw [List.mem_singleton.mp he]
      exact closed.tableEvent u hu hp
    · rw [List.mem_singleton.mp hg] at he
      exact closed.sources e he u hu hp

/-! ## What the sources leave of a slot -/

theorem flmAging_source (s : State) : (flmAging s).source = s.source := State.source_of_slots (flmAging_slots s)

theorem tableEvent_source (s : State) : (tableEvent s).source = s.source := State.source_of_slots (tableEvent_slots s)

theorem pwcActivity_source (s : State) : (pwcActivity s).source = s.source := State.source_of_slots (pwcActivity_slots s)

theorem flmReports_source (rs : List Report) (s : State) : (flmReports rs s).source = s.source :=
  State.source_of_slots (flmReports_slots rs s)

/-- The doors leave a slot that is bound neither to one of them nor to the latch. -/
theorem doorSlots_closed {b : State} {i : Fin 96} (door : ∀ d, b.bindings i ≠ (.door, doorSource d))
    (latch : b.bindings i ≠ (.stopReq, none)) :
    DoorsClosed fun u => u.bindings = b.bindings ∧ u.source i = b.source i where
  drawn _ h := h
  notice _ h := h
  drs _ _ h := h
  activity u h := ⟨(pwcActivity_bindings u).trans h.1, (congrFun (pwcActivity_source u) i).trans h.2⟩
  doorUpdate d st u h := ⟨(sourceUpdate_bindings _ _ _ _ u).trans h.1,
    (sourceUpdate_source_ne (by rw [h.1]; exact door d) _ _).trans h.2⟩
  stopReq u h := ⟨(sourceUpdate_bindings _ _ _ _ u).trans h.1,
    (sourceUpdate_source_ne (by rw [h.1]; exact latch) _ _).trans h.2⟩
  doorState _ _ _ h := h
  ramp _ _ _ h := h
  latch _ h := h
  reports rs u h := ⟨(bindings_of_slots (flmReports_slots rs u)).trans h.1, (congrFun (flmReports_source rs u) i).trans h.2⟩

/-- The slot is bound to no source that a run restart or a wake delivers from. -/
structure Silent (b : State) (i : Fin 96) : Prop where
  switch : ∀ n, b.bindings i ≠ (.switch, some n)
  channel : ∀ c, b.bindings i = (.channel, sourceOf c) → b.cal.channels[c].mode.counts = false
  door : ∀ d, b.bindings i ≠ (.door, doorSource d)
  latch : b.bindings i ≠ (.stopReq, none)

theorem Silent.of_same {b u : State} {i : Fin 96} (h : Silent b i) (cal : u.cal = b.cal) (bindings : u.bindings = b.bindings) :
    Silent u i where
  switch := by rw [bindings]; exact h.switch
  channel := by rw [bindings, cal]; exact h.channel
  door := by rw [bindings]; exact h.door
  latch := by rw [bindings]; exact h.latch

theorem Steady.silent {b u : State} {i : Fin 96} (steady : Steady b u) (h : Silent b i) : Silent u i :=
  h.of_same steady.cal steady.bindings

namespace Silent

variable {u : State} {i : Fin 96} (h : Silent u i)
include h

theorem switchUpdate (n : Fin 32) : (switchUpdate n u).source i = u.source i := sourceUpdate_source_ne (h.switch n) _ _

theorem ccuRestart : (ccuRestart u).source i = u.source i := ccuRestart_source h.channel

theorem ccuWake : (ccuWake u).source i = u.source i := ccuWake_source h.channel

theorem drsRestart : (drsRestart u).source i = u.source i :=
  ((doorSlots_closed h.door h.latch).restart ⟨rfl, rfl⟩).2

theorem drsWake : (drsWake u).source i = u.source i := ((doorSlots_closed h.door h.latch).wake ⟨rfl, rfl⟩).2

end Silent

theorem tableRestart_source (s : State) (i : Fin 96) :
    (tableRestart s).source i = (s.source i).unavailable s.pwc.uptime := by
  unfold State.source
  rw [tableRestart_slot, Slot.released_unavailable]

/-- A silent slot, as the restart of SGT will find it. -/
theorem silent_run {b : State} {i : Fin 96} (run : b.pwc.power = .run) (silent : Silent b i) : RunClosed fun u =>
    Steady b u ∧ (u.source i).unavailable b.pwc.uptime = (b.source i).unavailable b.pwc.uptime := by
  have steady := steady_run run
  have kept {e : Delivery} {u : State} (same : (e u).source i = u.source i)
      (h : (u.source i).unavailable b.pwc.uptime = (b.source i).unavailable b.pwc.uptime) :
      ((e u).source i).unavailable b.pwc.uptime = (b.source i).unavailable b.pwc.uptime := by rw [same]; exact h
  exact {
    drawn := fun u h => ⟨steady.drawn u h.1, h.2⟩
    tableEvent := fun u _ h => ⟨steady.tableEvent u trivial h.1, kept (congrFun (tableEvent_source u) i) h.2⟩
    switchUpdate := fun n u _ h => ⟨steady.switchUpdate n u trivial h.1, kept ((h.1.silent silent).switchUpdate n) h.2⟩
    ccuRestart := fun u _ h => ⟨steady.ccuRestart u trivial h.1, kept (h.1.silent silent).ccuRestart h.2⟩
    drsRestart := fun u _ h => ⟨steady.drsRestart u trivial h.1, kept (h.1.silent silent).drsRestart h.2⟩
    aging := fun u _ h => ⟨steady.aging u trivial h.1, kept (congrFun (flmAging_source u) i) h.2⟩
    power := fun u _ h => ⟨steady.power u trivial h.1, kept rfl h.2⟩
    tableRestart := fun u h => ⟨steady.tableRestart u h.1, by
      rw [tableRestart_source, h.1.uptime, Slot.unavailable_idem]
      exact h.2⟩
    ccuWake := fun u h => ⟨steady.ccuWake u h.1, kept (h.1.silent silent).ccuWake h.2⟩
    drsWake := fun u h => ⟨steady.drsWake u h.1, kept (h.1.silent silent).drsWake h.2⟩ }

/-- After the restart of SGT nothing reaches a silent slot. -/
theorem silent_closed {b : State} {i : Fin 96} (silent : Silent b i) (x : Slot) (Q : State → Prop) :
    SourceClosed (fun u => Steady b u ∧ Q u) fun u => u.source i = x where
  drawn _ h := h
  tableEvent u _ h := (congrFun (tableEvent_source u) i).trans h
  switchUpdate n _ hu h := ((hu.1.silent silent).switchUpdate n).trans h
  ccuRestart _ hu h := (hu.1.silent silent).ccuRestart.trans h
  drsRestart _ hu h := (hu.1.silent silent).drsRestart.trans h
  aging u _ h := (congrFun (flmAging_source u) i).trans h
  power _ _ h := h

theorem Slot.released_of_unsubstituted {x : Slot} (h : x.substitution = none) : x.released = x := by
  unfold Slot.released
  rw [← h]

theorem SourceClosed.and {I P Q : State → Prop} (h : SourceClosed I P) (g : SourceClosed I Q) :
    SourceClosed I fun s => P s ∧ Q s where
  drawn s := And.imp (h.drawn s) (g.drawn s)
  tableEvent s i := And.imp (h.tableEvent s i) (g.tableEvent s i)
  switchUpdate n s i := And.imp (h.switchUpdate n s i) (g.switchUpdate n s i)
  ccuRestart s i := And.imp (h.ccuRestart s i) (g.ccuRestart s i)
  drsRestart s i := And.imp (h.drsRestart s i) (g.drsRestart s i)
  aging s i := And.imp (h.aging s i) (g.aging s i)
  power s i := And.imp (h.power s i) (g.power s i)

theorem bound_of_bindings {s t : State} {i : Fin 96} (h : t.bindings i = s.bindings i) (bound : s.slots[i].bound = true) :
    t.slots[i].bound = true := by
  have kind : t.slots[i].kind = s.slots[i].kind := congrArg Prod.fst h
  unfold Slot.bound at bound ⊢
  rw [kind]
  exact bound

theorem Slot.unavailable_unsubstituted {x : Slot} (bound : x.bound = true) (now : Time) :
    (x.unavailable now).substitution = none := by
  unfold Slot.unavailable
  rw [if_pos bound]

/-- A silent slot after a run restart (R16). -/
theorem restart_silent {b : State} {i : Fin 96} (run : b.pwc.power = .run) (silent : Silent b i)
    (bound : b.slots[i].bound = true) (wake : Bool) :
    (deliverGroups (onGroups wake true) onHandings b).slots[i] = { b.slots[i] with
      liveStatus := .notAvailable, updateTime := b.pwc.uptime, substitution := none, refreshTimer := none } := by
  have made := tableRestart_makes (silent_run run silent) wake
    (P := fun u => u.source i = (b.source i).unavailable b.pwc.uptime ∧ u.slots[i].substitution = none)
    (fun u hu => ⟨?_, ?_⟩) ((silent_closed silent _ _).and ((unsubstituted_run i).source _))
    ⟨Steady.refl b, rfl⟩
  · obtain ⟨source, free⟩ := made
    unfold State.source at source
    rw [Slot.released_of_unsubstituted free] at source
    rw [source, Slot.unavailable]
    exact if_pos (show b.slots[i].released.bound = true from bound)
  · rw [tableRestart_source, hu.1.uptime]
    exact hu.2
  · rw [tableRestart_slot]
    exact Slot.unavailable_unsubstituted (bound_of_bindings (congrFun hu.1.bindings i) bound) _

end Sys2Proof.Machine
end

section
namespace Sys2Proof.Machine

open Sys2Proof.Claims

/-! ## Slots that a source of the run restart feeds -/

theorem switchUpdate_mem_restartSources (n : Fin 32) : switchUpdate n ∈ restartSources :=
  List.mem_append.mpr (.inl (List.mem_map.mpr ⟨n, List.mem_finRange n, rfl⟩))

theorem ccuRestart_mem_restartSources : ccuRestart ∈ restartSources :=
  List.mem_append.mpr (.inr List.mem_cons_self)

theorem drsRestart_mem_restartSources : drsRestart ∈ restartSources :=
  List.mem_append.mpr (.inr (List.mem_cons_of_mem _ List.mem_cons_self))

theorem Steady.sources {b u : State} (run : b.pwc.power = .run) {e : Delivery} (he : e ∈ restartSources)
    (steady : Steady b u) : Steady b (e u) :=
  ((steady_run run).source fun _ => True).sources e he u trivial steady

theorem Steady.handings {b u : State} (run : b.pwc.power = .run) {e : Delivery} (he : e ∈ onHandings)
    (steady : Steady b u) : Steady b (e u) := (steady_run run).handing e he u steady

/-- What a channel delivers follows from the role counts. -/
theorem restartCount_of_roles {s t : State} (h : t.roles = s.roles) (it : ChannelItem) :
    restartCount it t.ccu = restartCount it s.ccu := by
  have odometer : t.ccu.odometer = s.ccu.odometer :=
    congrArg (fun v : Calibration × RoleCount × RoleCount => v.2.1) h
  have hours : t.ccu.hours = s.ccu.hours := congrArg (fun v : Calibration × RoleCount × RoleCount => v.2.2) h
  unfold restartCount
  rw [odometer, hours]

section

variable {b : State} (run : b.pwc.power = .run) (wake : Bool)
include run

/-- A slot that one source alone feeds shows what it delivers. -/
theorem runRestart_shows {i : Fin 96} {v : Value} {d : Delivery} (hd : d ∈ restartSources)
    (makes : ∀ u, Steady b u → (d u).shows i v)
    (others : ∀ e ∈ restartSources, e ≠ d → ∀ u, Steady b u → (e u).source i = u.source i) :
    (deliverGroups (onGroups wake true) onHandings b).shows i v := by
  have time {e : Delivery} {u : State} (hu : Steady b u) (he : Steady b (e u)) : (e u).pwc.uptime = u.pwc.uptime :=
    he.uptime.trans hu.uptime.symm
  refine runRestart_makes (steady_run run) wake hd (P := fun u => u.shows i v) (fun _ h => h) makes
    (fun e he other u hu shows => shows_of_same (others e he other u hu) (time hu (hu.sources run he)) shows)
    (fun u hu shows => ?_) (fun u hu shows => ?_) (Steady.refl b)
  · exact shows_of_same (congrFun (flmAging_source u) i) (time hu (hu.handings run List.mem_cons_self)) shows
  · exact shows_of_same rfl (time hu (hu.handings run (List.mem_cons_of_mem _ List.mem_cons_self))) shows

theorem restart_switch {i : Fin 96} {n : Fin 32} (bound : b.bindings i = (.switch, some n)) :
    (deliverGroups (onGroups wake true) onHandings b).shows i (if b.switches[n].active then 1 else 0) := by
  refine runRestart_shows run wake (switchUpdate_mem_restartSources n) (fun u hu => ?_) fun e he other u hu => ?_
  · rw [← hu.switches]
    exact sourceUpdate_shows (by rw [hu.bindings]; exact bound) _
  · have here : u.bindings i = (.switch, some n) := by rw [hu.bindings]; exact bound
    rcases mem_restartSources he with ⟨m, rfl⟩ | rfl | rfl
    · refine sourceUpdate_source_ne (fun same => other ?_) _ _
      rw [here] at same
      rw [Option.some.inj (congrArg Prod.snd same)]
    · exact ccuRestart_source fun c same => by rw [here] at same; cases same
    · exact ((doorSlots_closed (fun d => by rw [here]; exact nofun) (by rw [here]; exact nofun)).restart ⟨rfl, rfl⟩).2

theorem restart_channel {i : Fin 96} {c : Fin 8} (counts : b.cal.channels[c].mode.counts = true)
    (bound : b.bindings i = (.channel, sourceOf c)) :
    (deliverGroups (onGroups wake true) onHandings b).shows i (clampCount (restartCount b.cal.channels[c] b.ccu)) := by
  refine runRestart_shows run wake ccuRestart_mem_restartSources (fun u hu => ?_) fun e he other u hu => ?_
  · have shown := ccuRestart_shows (s := u) (by rw [hu.cal]; exact counts) (by rw [hu.bindings]; exact bound)
    rwa [hu.cal, restartCount_of_roles hu.roles] at shown
  · have here : u.bindings i = (.channel, sourceOf c) := by rw [hu.bindings]; exact bound
    rcases mem_restartSources he with ⟨m, rfl⟩ | rfl | rfl
    · exact sourceUpdate_source_ne (by rw [here]; exact nofun) _ _
    · exact absurd rfl other
    · exact ((doorSlots_closed (fun d => by rw [here]; exact nofun) (by rw [here]; exact nofun)).restart ⟨rfl, rfl⟩).2

/-- The STOPREQ slots show the latch after a run restart (R132). -/
theorem restart_latchShown : (deliverGroups (onGroups wake true) onHandings b).latchShown := by
  have kept {e : Delivery} {u : State} (hu : Steady b u) (he : Steady b (e u)) (drs : (e u).drs = u.drs)
      (source : ∀ i, u.bindings i = (.stopReq, none) → (e u).source i = u.source i) (shown : u.latchShown) :
      (e u).latchShown :=
    latchShown_of_same (he.bindings.trans hu.bindings.symm) (congrArg Drs.latch drs)
      (he.uptime.trans hu.uptime.symm) source shown
  refine runRestart_makes (steady_run run) wake drsRestart_mem_restartSources (P := State.latchShown) (fun _ h => h)
    (fun u _ => drsRestart_latchShown u) (fun e he other u hu shown => ?_) (fun u hu shown => ?_)
    (fun u hu shown => ?_) (Steady.refl b)
  · have steady := hu.sources run he
    rcases mem_restartSources he with ⟨m, rfl⟩ | rfl | rfl
    · exact kept hu steady (drs_of_outside (switchUpdate_outside m u))
        (fun i bound => sourceUpdate_source_ne (by rw [bound]; exact nofun) _ _) shown
    · exact kept hu steady (ccuRestart_drs u)
        (fun i bound => ccuRestart_source fun c same => by rw [bound] at same; cases same) shown
    · exact absurd rfl other
  · exact kept hu (hu.handings run List.mem_cons_self) (drs_of_outside (flmAging_outsideSignals u))
      (fun i _ => congrFun (flmAging_source u) i) shown
  · exact kept hu (hu.handings run (List.mem_cons_of_mem _ List.mem_cons_self))
      (drs_of_outside (opuPower_outsideSignals .run u)) (fun _ _ => rfl) shown

end

end Sys2Proof.Machine
end

section
namespace Sys2Proof.Machine

open Sys2Proof.Claims

/-! ## The senders and the channels after a run restart (R34, R59) -/

theorem senders_of_outside {s t : State} (h : t.outsideSignals = s.outsideSignals) : t.senders = s.senders :=
  (congrArg State.senders h :)

theorem senders_of_outsideChannels {s t : State} (h : t.outsideChannels = s.outsideChannels) : t.senders = s.senders :=
  (congrArg State.senders h :)

theorem senders_of_outsideDoors {s t : State} (h : t.outsideDoors = s.outsideDoors) : t.senders = s.senders :=
  (congrArg State.senders h :)

theorem ccu_of_outsideDoors {s t : State} (h : t.outsideDoors = s.outsideDoors) : t.ccu = s.ccu :=
  (congrArg State.ccu h :)

theorem drsRestart_outsideDoors (s : State) : (drsRestart s).outsideDoors = s.outsideDoors :=
  (doors_closed s.outsideDoors).restart rfl

theorem drsWake_outsideDoors (s : State) : (drsWake s).outsideDoors = s.outsideDoors :=
  (doors_closed s.outsideDoors).wake rfl

theorem ccuRestart_outsideChannels (s : State) : (ccuRestart s).outsideChannels = s.outsideChannels :=
  (channels_closed s.outsideChannels).restart rfl

theorem ccuWake_outsideChannels (s : State) : (ccuWake s).outsideChannels = s.outsideChannels :=
  (channels_closed s.outsideChannels).wake rfl

/-- A sender without its last publication. -/
def SenderState.unpublished (x : SenderState) : SenderState := { x with lastPublication := none }

theorem tableRestart_sender (s : State) (n : Fin 8) : (tableRestart s).senders[n] = s.senders[n].unpublished := by
  show (s.senders.map SenderState.unpublished)[n.val] = _
  rw [Vector.getElem_map]
  rfl

theorem senders_closed (I : State → Prop) (Q : Vector SenderState 8 → Prop) :
    SourceClosed I fun u => Q u.senders where
  drawn _ h := h
  tableEvent u _ h := by rw [senders_of_outside (tableEvent_outsideSignals u)]; exact h
  switchUpdate n u _ h := by rw [senders_of_outside (switchUpdate_outside n u)]; exact h
  ccuRestart u _ h := by rw [senders_of_outsideChannels (ccuRestart_outsideChannels u)]; exact h
  drsRestart u _ h := by rw [senders_of_outsideDoors (drsRestart_outsideDoors u)]; exact h
  aging u _ h := by rw [senders_of_outside (flmAging_outsideSignals u)]; exact h
  power u _ h := by rw [senders_of_outside (opuPower_outsideSignals .run u)]; exact h

/-- A sender, as the restart of SNI will find it. -/
theorem sender_run (n : Fin 8) (x : SenderState) : RunClosed fun u => u.senders[n].unpublished = x where
  toSourceClosed := senders_closed _ fun v => v[n].unpublished = x
  tableRestart u h := by rw [tableRestart_sender]; exact h
  ccuWake u h := by rw [senders_of_outsideChannels (ccuWake_outsideChannels u)]; exact h
  drsWake u h := by rw [senders_of_outsideDoors (drsWake_outsideDoors u)]; exact h

theorem restart_sender (b : State) (n : Fin 8) (wake : Bool) :
    (deliverGroups (onGroups wake true) onHandings b).senders[n] = b.senders[n].unpublished :=
  tableRestart_makes (sender_run n b.senders[n].unpublished) wake (P := fun u => u.senders[n] = b.senders[n].unpublished)
    (fun u hu => (tableRestart_sender u n).trans hu) (senders_closed _ fun v => v[n] = b.senders[n].unpublished) rfl

/-- What the restart of the channels makes of their records stands: nothing beside it alters them. -/
theorem restart_ccu {b : State} {I : State → Prop} (inv : RunClosed I) (Q : Ccu → Prop)
    (makes : ∀ u, I u → Q (ccuRestart u).ccu) (wake : Bool) (hb : I b) :
    Q (deliverGroups (onGroups wake true) onHandings b).ccu := by
  refine runRestart_makes inv wake ccuRestart_mem_restartSources (P := fun u => Q u.ccu) (fun _ h => h) makes
    (fun e he other u _ h => ?_) (fun u _ h => ?_) (fun u _ h => ?_) hb
  · rcases mem_restartSources he with ⟨m, rfl⟩ | rfl | rfl
    · rw [ccu_of_outside (switchUpdate_outside m u)]
      exact h
    · exact absurd rfl other
    · rw [ccu_of_outsideDoors (drsRestart_outsideDoors u)]
      exact h
  · rw [ccu_of_outside (flmAging_outsideSignals u)]
    exact h
  · rw [ccu_of_outside (opuPower_outsideSignals .run u)]
    exact h

theorem restart_plain {b : State} {c : Fin 8} (run : b.pwc.power = .run) (plain : b.cal.channels[c].role = .noRole)
    (wake : Bool) : (deliverGroups (onGroups wake true) onHandings b).ccu.channels[c]
      = restartedChannel b.cal.channels[c] (fun n => b.switches[n].active) b.pwc.uptime := by
  refine restart_ccu (steady_run run)
    (fun x => x.channels[c] = restartedChannel b.cal.channels[c] (fun n => b.switches[n].active) b.pwc.uptime)
    (fun u hu => ?_) wake (Steady.refl b)
  rw [ccuRestart_plain (by rw [hu.cal]; exact plain), hu.cal, hu.switches, hu.uptime]

/-- A counting channel with a role keeps its record, but for its deliveries. -/
theorem undelivered_run {b : State} {c : Fin 8} (run : b.pwc.power = .run) (role : b.cal.channels[c].role ≠ .noRole)
    (counts : b.cal.channels[c].mode.counts = true) : RunClosed fun u =>
      Steady b u ∧ u.ccu.channels[c].undelivered = b.ccu.channels[c].undelivered := by
  have steady := steady_run run
  have kept {e : Delivery} {u : State} (same : (e u).ccu = u.ccu)
      (h : u.ccu.channels[c].undelivered = b.ccu.channels[c].undelivered) :
      (e u).ccu.channels[c].undelivered = b.ccu.channels[c].undelivered := by rw [same]; exact h
  exact {
    drawn := fun u h => ⟨steady.drawn u h.1, h.2⟩
    tableEvent := fun u _ h =>
      ⟨steady.tableEvent u trivial h.1, kept (ccu_of_outside (tableEvent_outsideSignals u)) h.2⟩
    switchUpdate := fun n u _ h =>
      ⟨steady.switchUpdate n u trivial h.1, kept (ccu_of_outside (switchUpdate_outside n u)) h.2⟩
    ccuRestart := fun u _ h => ⟨steady.ccuRestart u trivial h.1, by
      rw [ccuRestart_role (by rw [h.1.cal]; exact role) (by rw [h.1.cal]; exact counts)]
      exact h.2⟩
    drsRestart := fun u _ h =>
      ⟨steady.drsRestart u trivial h.1, kept (ccu_of_outsideDoors (drsRestart_outsideDoors u)) h.2⟩
    aging := fun u _ h => ⟨steady.aging u trivial h.1, kept (ccu_of_outside (flmAging_outsideSignals u)) h.2⟩
    power := fun u _ h => ⟨steady.power u trivial h.1, kept (ccu_of_outside (opuPower_outsideSignals .run u)) h.2⟩
    tableRestart := fun u h => ⟨steady.tableRestart u h.1, h.2⟩
    ccuWake := fun u h => ⟨steady.ccuWake u h.1,
      (ccuWake_undelivered (by rw [h.1.cal]; exact role) (by rw [h.1.cal]; exact counts)).trans h.2⟩
    drsWake := fun u h => ⟨steady.drsWake u h.1, kept (ccu_of_outsideDoors (drsWake_outsideDoors u)) h.2⟩ }

theorem delivered_of_undelivered {x y : Channel} (h : x.undelivered = y.undelivered) (n : Option Count) :
    { x with lastDelivery := n, holdOff := none } = { y with lastDelivery := n, holdOff := none } :=
  congrArg (fun z : Channel => { z with lastDelivery := n, holdOff := none }) h

theorem restart_role {b : State} {c : Fin 8} (run : b.pwc.power = .run) (role : b.cal.channels[c].role ≠ .noRole)
    (counts : b.cal.channels[c].mode.counts = true) (wake : Bool) :
    (deliverGroups (onGroups wake true) onHandings b).ccu.channels[c] = { b.ccu.channels[c] with
      lastDelivery := some (restartCount b.cal.channels[c] b.ccu), holdOff := none } := by
  refine restart_ccu (undelivered_run run role counts)
    (fun x => x.channels[c] = { b.ccu.channels[c] with
      lastDelivery := some (restartCount b.cal.channels[c] b.ccu), holdOff := none })
    (fun u hu => ?_) wake ⟨Steady.refl b, rfl⟩
  rw [ccuRestart_role (by rw [hu.1.cal]; exact role) (by rw [hu.1.cal]; exact counts), hu.1.cal,
    restartCount_of_roles hu.1.roles]
  exact delivered_of_undelivered hu.2 _

/-! ## The run restart (R16, R25, R34, R59, R132) -/

/-- A slot of a sender, of the network or of a channel that does not count is fed by no source of the restart. -/
theorem silent_of_kind {b : State} {i : Fin 96} (h : b.slots[i].kind = .sender ∨ b.slots[i].kind = .network
    ∨ (b.slots[i].kind = .channel ∧ ∃ c : Fin 8,
      b.slots[i].index = some (c.castLE (by omega)) ∧ b.cal.channels[c].mode.counts = false)) : Silent b i := by
  have other {k : SourceKind} (kind : b.slots[i].kind ≠ k) (index : Option (Fin 32)) : b.bindings i ≠ (k, index) :=
    fun same => kind (congrArg Prod.fst same)
  have kinds : b.slots[i].kind ≠ .switch ∧ b.slots[i].kind ≠ .door ∧ b.slots[i].kind ≠ .stopReq := by
    rcases h with h | h | ⟨h, -⟩ <;> rw [h] <;> exact ⟨nofun, nofun, nofun⟩
  refine ⟨fun n => other kinds.1 _, fun c bound => ?_, fun d => other kinds.2.1 _, other kinds.2.2 _⟩
  have channel : b.slots[i].kind = .channel := congrArg Prod.fst bound
  rcases h with h | h | ⟨-, k, index, silent⟩
  · rw [h] at channel
    cases channel
  · rw [h] at channel
    cases channel
  · have same : c = k := sourceOf_injective ((congrArg Prod.snd bound).symm.trans index)
    rw [same]
    exact silent

theorem runRestart_restarted {b : State} (run : b.pwc.power = .run) (wake : Bool) :
    Restarted b (deliverGroups (onGroups wake true) onHandings b) := by
  have steady : Steady b (deliverGroups (onGroups wake true) onHandings b) :=
    (steady_run run).delivered (Steady.refl b)
  have valid {i : Fin 96} {v : Value} (h : (deliverGroups (onGroups wake true) onHandings b).shows i v) :
      (deliverGroups (onGroups wake true) onHandings b).slots[i].liveStatus = .valid
        ∧ (deliverGroups (onGroups wake true) onHandings b).slots[i].liveValue = v
        ∧ (deliverGroups (onGroups wake true) onHandings b).slots[i].updateTime = b.pwc.uptime := by
    obtain ⟨status, value, time⟩ := h
    exact ⟨status, value, time.trans steady.uptime⟩
  refine ⟨fun i => ⟨fun silent => ?_, fun n kind index => ?_, fun kind index => ?_⟩,
    fun n => restart_sender b n wake, fun c => ⟨fun plain _ => ?_, fun role counts => ?_, fun counts i kind index => ?_⟩⟩
  · refine restart_silent run (silent_of_kind silent) ?_ wake
    unfold Slot.bound
    rcases silent with h | h | ⟨h, -⟩ <;> rw [h] <;> rfl
  · rw [steady.switches]
    exact valid (restart_switch run wake (Prod.ext kind index))
  · have bound : b.bindings i = (.stopReq, none) := Prod.ext kind index
    exact valid (restart_latchShown run wake i (by rw [steady.bindings]; exact bound))
  · rw [steady.switches]
    exact restart_plain run plain wake
  · exact restart_role run role counts wake
  · exact restart_channel run wake counts (Prod.ext kind index)

end Sys2Proof.Machine
end

section
namespace Sys2Proof.Machine

open Sys2Proof.Claims

/-! ## The doors after a run restart from AFTERRUN (R132) -/

/-- What an ignition-on from AFTERRUN with RSTRUN HIGH delivers besides the restart of the doors. -/
def besideDoors : List Delivery := [tableRestart, tableEvent] ++ switchUpdates ++ [ccuRestart] ++ onHandings

theorem onGroups_doors : ((onGroups false true).flatten ++ onHandings).Perm (drsRestart :: besideDoors) := by
  have shape : (onGroups false true).flatten ++ onHandings
      = ([tableRestart, tableEvent] ++ switchUpdates ++ [ccuRestart]) ++ drsRestart :: onHandings := by
    simp [onGroups, restartGroups, restartSources]
  rw [shape]
  exact List.perm_middle

theorem besideDoors_drs : ∀ e ∈ besideDoors, ∀ u : State, (e u).drs = u.drs := by
  intro e he u
  unfold besideDoors switchUpdates onHandings at he
  simp only [List.mem_append, List.mem_cons, List.not_mem_nil, or_false, List.mem_map] at he
  rcases he with (((rfl | rfl) | ⟨n, -, rfl⟩) | rfl) | rfl | rfl
  · rfl
  · exact drs_of_outside (tableEvent_outsideSignals u)
  · exact drs_of_outside (switchUpdate_outside n u)
  · exact ccuRestart_drs u
  · exact drs_of_outside (flmAging_outsideSignals u)
  · exact drs_of_outside (opuPower_outsideSignals .run u)

/-- Each present door is re-derived once, from the inputs as they stand. -/
theorem restart_door {b : State} (run : b.pwc.power = .run) (d : Fin 4) :
    (deliverGroups (onGroups false true) onHandings b).drs.doors[d]
      = if b.cal.doors[d].present = true then rederivedFrom b.inputs d b.drs.doors[d] else b.drs.doors[d] := by
  obtain ⟨l, perm, delivered⟩ := deliverGroups_delivered (onGroups false true) onHandings b
  have steady := steady_run run
  refine delivered.once (I := Steady b) (view := fun u => u.drs.doors[d])
    (turn := fun x => if b.cal.doors[d].present = true then rederivedFrom b.inputs d x else x)
    (perm.trans onGroups_doors) steady.drawn (fun _ => rfl) (fun e he u hu => ?_) (fun u hu => ?_)
    (fun e he u _ => by rw [besideDoors_drs e he u]) (Steady.refl b)
  · rcases List.mem_append.mp (onGroups_doors.mem_iff.mpr he) with he | he
    · obtain ⟨g, hg, he⟩ := List.mem_flatten.mp he
      exact steady.onGroups g hg e he u hu
    · exact hu.handings run he
  · rw [drsRestart_door, hu.cal, hu.inputs]

/-- Each present door is shown as it was re-derived (R126). -/
theorem restart_doorShown {b : State} (run : b.pwc.power = .run) {d : Fin 4} (present : b.cal.doors[d].present = true)
    (wake : Bool) : DoorShown (deliverGroups (onGroups wake true) onHandings b) d := by
  have kept {e : Delivery} {u : State} (hu : Steady b u) (he : Steady b (e u)) (drs : (e u).drs = u.drs)
      (copy : (e u).opu.doorStates = u.opu.doorStates)
      (source : ∀ i, u.bindings i = (.door, doorSource d) → (e u).source i = u.source i) (shown : DoorShown u d) :
      DoorShown (e u) d :=
    shown.of_same (he.bindings.trans hu.bindings.symm) (by rw [drs]) (he.uptime.trans hu.uptime.symm) source
      (by rw [copy])
  have copies {u v : State} (h : v.opu.copies = u.opu.copies) : v.opu.doorStates = u.opu.doorStates :=
    congrArg Prod.snd h
  refine runRestart_makes (steady_run run) wake drsRestart_mem_restartSources (P := fun u => DoorShown u d)
    (fun _ h => h.of_same rfl rfl rfl (fun _ _ => rfl) rfl)
    (fun u hu => drsRestart_shown (by rw [hu.cal]; exact present)) (fun e he other u hu shown => ?_)
    (fun u hu shown => ?_) (fun u hu shown => ?_) (Steady.refl b)
  · have steady := hu.sources run he
    rcases mem_restartSources he with ⟨m, rfl⟩ | rfl | rfl
    · exact kept hu steady (drs_of_outside (switchUpdate_outside m u))
        (copies ((copies_closed u.opu.copies).source rfl))
        (fun i bound => sourceUpdate_source_ne (by rw [bound]; exact nofun) _ _) shown
    · exact kept hu steady (ccuRestart_drs u) (copies ((copies_closed u.opu.copies).restart (fun _ _ h => h) rfl))
        (fun i bound => ccuRestart_source fun c same => by rw [bound] at same; cases same) shown
    · exact absurd rfl other
  · exact kept hu (hu.handings run List.mem_cons_self) (drs_of_outside (flmAging_outsideSignals u))
      (by rw [flmAging_opu]) (fun i _ => congrFun (flmAging_source u) i) shown
  · exact kept hu (hu.handings run (List.mem_cons_of_mem _ List.mem_cons_self))
      (drs_of_outside (opuPower_outsideSignals .run u)) (congrArg Prod.snd (opuPower_copies .run u))
      (fun _ _ => rfl) shown

/-- A re-derivation sets the DOORS notice (R126). -/
theorem restart_notice {b : State} (run : b.pwc.power = .run) {d : Fin 4} (present : b.cal.doors[d].present = true)
    (wake : Bool) : NoticeOnAll flagDoors (deliverGroups (onGroups wake true) onHandings b) := by
  intro p
  have closed := holdsFlags_run p flagDoors
  refine runRestart_makes (steady_run run) wake drsRestart_mem_restartSources (P := holdsFlags p flagDoors) closed.drawn
    (fun u hu => drsRestart_notice (by rw [hu.cal]; exact present) p) (fun e he _ u _ h => ?_)
    (fun u _ h => closed.aging u trivial h) (fun u _ h => closed.power u trivial h) (Steady.refl b)
  exact (closed.source fun _ => True).sources e he u trivial h

/-! ## The ignition-on -/

theorem pwc_of_outsideRun {s t : State} (h : t.outsideRun = s.outsideRun) :
    t.pwc = { s.pwc with storeIdle := t.pwc.storeIdle } :=
  (congrArg (fun u : State => { u.pwc with storeIdle := t.pwc.storeIdle }) h :)

theorem sameBase_of_outsideRun {s t : State} (h : t.outsideRun = s.outsideRun) : SameBase s t :=
  ⟨(congrArg State.cal h :), (congrArg State.calLoaded h :), (congrArg State.pins h :), (congrArg State.supply h :),
    (congrArg State.pending h :)⟩

theorem sameStore_of_outsideRun {s t : State} (h : t.outsideRun = s.outsideRun) : SameStore s t :=
  (congrArg (fun u : State => { u.rst with queue := t.rst.queue }) h :)

theorem ports_of_outsideRun {s t : State} (h : t.outsideRun = s.outsideRun) : t.ptu.unflagged = s.ptu.unflagged :=
  (congrArg State.ptu h :)

/-- The entry into RUN, before its deliveries (R204). -/
def enteredRun (s : State) : State := toRun (s.setPwc { s.pwc with ignition := true, ignitionDisagreement := 0 })

/-- What an ignition-on leaves of the state it starts from. -/
structure Ignited (s t : State) : Prop where
  pwc : t.pwc = { (enteredRun s).pwc with storeIdle := t.pwc.storeIdle }
  base : SameBase s t
  store : SameStore s t
  ports : SamePorts s t
  cycles : ∀ d : Fin 4, t.drs.doors[d].cycles = s.drs.doors[d].cycles
  odometer : t.ccu.odometer = s.ccu.odometer
  hours : t.ccu.hours = s.ccu.hours

theorem sameBase_trans {s t u : State} (h : SameBase s t) (g : SameBase t u) : SameBase s u := by
  obtain ⟨a, b, c, d, e⟩ := h
  obtain ⟨a', b', c', d', e'⟩ := g
  exact ⟨a'.trans a, b'.trans b, c'.trans c, d'.trans d, e'.trans e⟩

theorem samePorts_trans {s t u : State} (h : SamePorts s t) (g : SamePorts t u) : SamePorts s u := by
  intro p
  have first := h p
  have last := g p
  unfold SameButFlags at first last ⊢
  rw [first] at last
  exact last

theorem sameStore_trans {s t u : State} (h : SameStore s t) (g : SameStore t u) : SameStore s u := by
  unfold SameStore at h g ⊢
  rw [h] at g
  exact g

/-- A state that an ignition-on starts to deliver from. -/
structure Entered (s b : State) : Prop where
  pwc : b.pwc = (enteredRun s).pwc
  base : SameBase s b
  store : SameStore s b
  ports : SamePorts s b
  notice : NoticeOnAll flagPower b
  slots : b.slots = s.slots
  senders : b.senders = s.senders
  ccu : b.ccu = s.ccu
  drs : b.drs = s.drs
  flm : b.flm = s.flm

theorem enteredRun_notice (s : State) : NoticeOnAll flagPower (enteredRun s) := by
  intro p
  unfold enteredRun toRun
  exact powerTo_notice .run _ p

/-- The entry into RUN alters the Power Controller and sets the notice, and nothing else. -/
theorem enteredRun_eq (s : State) : enteredRun s = (s.setPwc (enteredRun s).pwc).notice flagPower := rfl

theorem notice_frame (s : State) (x : Pwc) (f : Notices) : SameBase s ((s.setPwc x).notice f)
    ∧ SameStore s ((s.setPwc x).notice f) ∧ SamePorts s ((s.setPwc x).notice f) :=
  ⟨⟨rfl, rfl, rfl, rfl, rfl⟩, rfl, samePorts_of_unflagged rfl⟩

theorem enteredRun_entered (s : State) : Entered s (enteredRun s) := by
  have notice := enteredRun_notice s
  have shape := enteredRun_eq s
  generalize (enteredRun s).pwc = x at shape
  rw [shape] at notice ⊢
  obtain ⟨base, store, ports⟩ := notice_frame s x flagPower
  constructor
  case pwc => rw [shape]
  case base => exact base
  case store => exact store
  case ports => exact ports
  case notice => exact notice
  all_goals rfl

/-- Other inputs leave the entry into RUN as it is. -/
theorem Entered.sampled {s b : State} (h : Entered s b) (v : Vector SwitchState 32) :
    Entered s { b with switches := v } := by
  obtain ⟨pwc, base, store, ports, notice, slots, senders, ccu, drs, flm⟩ := h
  exact ⟨pwc, base, store, fun p => by cases p <;> [exact ports .cluster; exact ports .body; exact ports .service],
    fun p => by cases p <;> [exact notice .cluster; exact notice .body; exact notice .service],
    slots, senders, ccu, drs, flm⟩

namespace Entered

variable {s b : State} (h : Entered s b)
include h

theorem run : b.pwc.power = .run := by
  rw [h.pwc]
  rfl

theorem uptime : b.pwc.uptime = s.pwc.uptime := by
  rw [h.pwc]
  rfl

theorem cal : b.cal = s.cal := h.base.1

theorem delivered (wake rstrun : Bool) : Ignited s (deliverGroups (onGroups wake rstrun) onHandings b) := by
  have steady : Steady b (deliverGroups (onGroups wake rstrun) onHandings b) :=
    (steady_run h.run).delivered (Steady.refl b)
  obtain ⟨frame, -, roles, cycles⟩ := steady
  have pwc := pwc_of_outsideRun frame
  exact {
    pwc := by
      rw [h.pwc] at pwc
      exact pwc
    base := sameBase_trans h.base (sameBase_of_outsideRun frame)
    store := sameStore_trans h.store (sameStore_of_outsideRun frame)
    ports := samePorts_trans h.ports (samePorts_of_unflagged (ports_of_outsideRun frame))
    cycles := fun d => (congrFun cycles d).trans (by unfold State.doorCycles; rw [h.drs])
    odometer := (congrArg (fun v : Calibration × RoleCount × RoleCount => v.2.1) roles).trans
      (congrArg Ccu.odometer h.ccu)
    hours := (congrArg (fun v : Calibration × RoleCount × RoleCount => v.2.2) roles).trans (congrArg Ccu.hours h.ccu) }

/-- A run restart is told by what the state's slots, senders, channels and calibration were at its time. -/
theorem restarted {t : State} (r : Restarted b t) : Restarted s t := by
  unfold Restarted ChannelSlotsTake at r ⊢
  rw [h.cal, h.slots, h.senders, h.ccu, h.uptime] at r
  exact r

end Entered

/-- The first sample alters the inputs alone (R21). -/
theorem firstSample_eq (s : State) (n : Fin 32) : (firstSample s).switches[n] = ⟨s.sampled n, 0⟩
    ∧ firstSample s = { s with switches := (firstSample s).switches } := by
  unfold firstSample
  refine ⟨?_, rfl⟩
  show (Vector.ofFn fun n : Fin 32 => (⟨s.sampled n, 0⟩ : SwitchState))[n.val] = _
  rw [Vector.getElem_ofFn]

theorem handStoreIdle_of_run {t : State} (run : t.pwc.power = .run) :
    handStoreIdle t = t.setPwc { t.pwc with storeIdle := t.storeIdle } := by
  unfold handStoreIdle
  dsimp only
  split
  · next same => rw [same]; rfl
  · split
    · unfold sleepDecision
      rw [if_neg (by show ¬((decide (t.pwc.power = .afterrun) && _ && _) = true); rw [run]; simp)]
    · rfl

end Sys2Proof.Machine
end

section
namespace Sys2Proof.Machine

open Sys2Proof.Claims

theorem exec_ignitionChange (s : State) : exec .ignitionChange s = act s ignitionChange := by
  rfl

theorem exec_ignitionChange_of {s : State} (supply : s.supply = true) (full : s.pwc.ignitionDisagreement = 50) :
    (s.pwc.power = .afterrun → s.pwc.ignition = false → exec .ignitionChange s
      = .next (deliverGroups (onGroups false s.pwc.rstrun) onHandings (enteredRun s)))
    ∧ (s.pwc.power = .sleep → s.pwc.ignition = false → exec .ignitionChange s
      = .next (handStoreIdle (deliverGroups (onGroups true s.pwc.rstrun) onHandings (firstSample (enteredRun s)))))
    ∧ (s.pwc.power = .run → s.pwc.ignition = true → exec .ignitionChange s
      = .next (ignitionOff (s.setPwc { s.pwc with ignition := false, ignitionDisagreement := 0 }))) := by
  have acts : exec .ignitionChange s = .next (ignitionChange s) := by
    rw [exec_ignitionChange, act, if_pos supply]
  have full : s.pwc.ignitionDisagreement = ignitionClass := full
  refine ⟨fun power off => ?_, fun power off => ?_, fun power on => ?_⟩
  · rw [acts, ignitionChange, if_pos full]
    simp only [off, power, State.setPwc_pwc, Bool.not_false]
    exact congrArg Host.Outcome.next (ignitionOn_eq _)
  · rw [acts, ignitionChange, if_pos full]
    simp only [off, power, State.setPwc_pwc, Bool.not_false]
    exact congrArg Host.Outcome.next (wakeRun_eq _)
  · rw [acts, ignitionChange, if_pos full]
    simp only [on, power, State.setPwc_pwc, Bool.not_true]

/-- An ignition-on without a run restart from AFTERRUN leaves the sources and the slots. -/
theorem tableOnly_keeps (b : State) :
    let t := deliverGroups (onGroups false false) onHandings b
    t.senders = b.senders ∧ t.ccu = b.ccu ∧ t.drs = b.drs ∧ t.slots = b.slots := by
  have outside : (deliverGroups (onGroups false false) onHandings b).outsideWarnings = b.outsideWarnings := by
    refine deliverGroups_keeps State.outsideWarnings (fun _ => rfl) (fun g hg d hd u => ?_) (fun d hd u => ?_) b
    · rw [List.mem_singleton.mp hg] at hd
      rw [List.mem_singleton.mp hd]
      exact tableEvent_outside u
    · rcases mem_onHandings hd with rfl | rfl
      · exact outsideWarnings_of (flmAging_outside u)
      · exact opuEvent_outside _ u
  have signals := outsideSignals_of outside
  exact ⟨senders_of_outside signals, ccu_of_outside signals, drs_of_outside signals, slots_of_outsideWarnings outside⟩

theorem tableOnly_quiet {c : Calibration} (silent : c.reportless) :
    ∀ g ∈ onGroups false false, ∀ d ∈ g, ∀ u : State, u.cal = c → (d u).cal = c ∧ (d u).flm = u.flm := by
  intro g hg d hd u hu
  rw [List.mem_singleton.mp hg] at hd
  rw [List.mem_singleton.mp hd]
  exact tableEvent_quiet silent hu

namespace Entered

variable {s b t : State} (h : Entered s b)
include h

theorem aged {groups : List (List Delivery)}
    (quiet : ∀ g ∈ groups, ∀ d ∈ g, ∀ u : State, u.cal = s.cal → (d u).cal = s.cal ∧ (d u).flm = u.flm) :
    Aged s (deliverGroups groups onHandings b) := by
  rw [aged_iff, ← h.flm, ← h.cal]
  refine deliverGroups_aged ?_
  rw [h.cal]
  exact quiet

/-- Without a run restart an ignition-on from AFTERRUN reaches neither the sources nor the slots. -/
theorem kept (same : t = deliverGroups (onGroups false false) onHandings b) :
    t.senders = s.senders ∧ t.ccu = s.ccu ∧ t.drs = s.drs ∧ t.slots = s.slots := by
  obtain ⟨senders, ccu, drs, slots⟩ := tableOnly_keeps b
  rw [same]
  exact ⟨senders.trans h.senders, ccu.trans h.ccu, drs.trans h.drs, slots.trans h.slots⟩

theorem door (inputs : b.switches = s.switches) (same : t = deliverGroups (onGroups false true) onHandings b)
    (d : Fin 4) : t.drs.doors[d] = if s.cal.doors[d].present = true
      then rederivedDoor s.cal.doors[d] s.drs.doors[d] (fun n => s.switches[n].active) s.pwc.uptime
      else s.drs.doors[d] := by
  rw [same, restart_door h.run, h.cal, h.drs]
  unfold rederivedFrom State.inputs
  rw [h.cal, h.uptime, inputs]

/-- A present door after a run restart from AFTERRUN is shown (R126, R132). -/
theorem doorShown (same : t = deliverGroups (onGroups false true) onHandings b) {d : Fin 4}
    (present : s.cal.doors[d].present = true) : t.opu.doorStates[d] = some t.drs.doors[d].state ∧ NoticeOnAll flagDoors t
      ∧ ∀ i : Fin 96, s.slots[i].kind = .door → s.slots[i].index = some (d.castLE (by omega)) →
        t.slots[i].liveStatus = .valid ∧ t.slots[i].liveValue = BitVec.ofNat 32 t.drs.doors[d].state.number := by
  have present : b.cal.doors[d].present = true := by rw [h.cal]; exact present
  have steady : Steady b t := same ▸ (steady_run h.run).delivered (Steady.refl b)
  have shown : DoorShown t d := same ▸ restart_doorShown h.run present false
  refine ⟨shown.copy, same ▸ restart_notice h.run present false, fun i kind index => ?_⟩
  have bound : s.bindings i = (.door, doorSource d) := Prod.ext kind index
  obtain ⟨status, value, -⟩ := shown.slots i (by rw [steady.bindings, bindings_of_slots h.slots]; exact bound)
  exact ⟨status, value⟩

end Entered

end Sys2Proof.Machine
end

section
/-! SUPPORT. The ignition-off (R205): what each of its handings establishes, and the others keep. -/

namespace Sys2Proof.Machine

open Sys2Proof.Claims

/-- What an ignition-off hands, without order (R201, R205). -/
def offHandings : List Delivery :=
  [rstRequest .counterSave, svcIgnitionOff, wreIgnitionOff, latchOff, opuPower .afterrun]

theorem ignitionOff_eq (s : State) : ignitionOff s = deliverAll offHandings (toAfterrun s) := rfl

/-- A property that every handing of an ignition-off keeps. -/
structure OffClosed (P : State → Prop) : Prop where
  drawn : ∀ s, P s → P s.drawn
  save : ∀ s, P s → P (rstRequest .counterSave s)
  service : ∀ s, P s → P (svcIgnitionOff s)
  warnings : ∀ s, P s → P (wreIgnitionOff s)
  latch : ∀ s, P s → P (latchOff s)
  power : ∀ s, P s → P (opuPower .afterrun s)

namespace OffClosed

variable {P : State → Prop} (h : OffClosed P)
include h

theorem handing : ∀ d ∈ offHandings, ∀ s, P s → P (d s) := by
  intro d hd s hs
  simp only [offHandings, List.mem_cons, List.not_mem_nil, or_false] at hd
  rcases hd with rfl | rfl | rfl | rfl | rfl
  · exact h.save s hs
  · exact h.service s hs
  · exact h.warnings s hs
  · exact h.latch s hs
  · exact h.power s hs

theorem kept {s : State} (hs : P s) : P (deliverAll offHandings s) := deliverAll_induct h.drawn h.handing hs

/-- What one handing makes, and every one keeps, holds in the end. -/
theorem made {I : State → Prop} (inv : OffClosed I) {d : Delivery} (hd : d ∈ offHandings) (makes : ∀ u, I u → P (d u))
    {s : State} (hs : I s) : P (deliverAll offHandings s) := by
  obtain ⟨l, perm, run⟩ := deliverAll_delivered offHandings s
  exact run.establishes (perm.mem_iff.mpr hd) inv.drawn h.drawn (fun e he => inv.handing e (perm.mem_iff.mp he)) makes
    (fun e he u _ hu => h.handing e (perm.mem_iff.mp he) u hu) hs

end OffClosed

theorem offClosed_true : OffClosed fun _ => True := by
  constructor <;> exact fun _ _ => trivial

/-- Changes of slots, with what else the handings of an ignition-off alter. -/
theorem UpdateClosed.off {P : State → Prop} (h : UpdateClosed P) (save : ∀ s, P s → P (rstRequest .counterSave s))
    (warnings : ∀ s, P s → P (wreIgnitionOff s)) (drs : ∀ x s, P s → P { s with drs := x })
    (latch : ∀ s, P s → P (opuLatch false false s)) (power : ∀ s, P s → P (opuPower .afterrun s)) : OffClosed P where
  drawn := h.drawn
  save := save
  service s hs := by
    unfold svcIgnitionOff
    split
    · exact h.svcExit hs
    · exact hs
  warnings := warnings
  latch s hs := by
    unfold latchOff
    split
    · refine deliverAll_induct h.drawn (fun d hd t ht => ?_) (h.notice _ _ (drs _ _ hs))
      simp only [latchHandings, List.mem_cons, List.not_mem_nil, or_false] at hd
      rcases hd with rfl | rfl
      · exact h.source ht
      · exact latch t ht
    · exact hs
  power := power

theorem SignalClosed.off {P : State → Prop} (h : SignalClosed P) (save : ∀ s, P s → P (rstRequest .counterSave s))
    (warnings : ∀ s, P s → P (wreIgnitionOff s)) (drs : ∀ x s, P s → P { s with drs := x }) : OffClosed P :=
  h.updates.off save warnings drs (fun s => h.opu _ s) (fun s => h.opu _ s)

/-! ## The frame -/

/-- The state without what an ignition-off's handings alter. -/
def State.outsideOff (s : State) : State := { s.outsideSignals with drs := drsReset }

theorem outsideOff_of {s t : State} (h : s.outsideSignals = t.outsideSignals) : s.outsideOff = t.outsideOff :=
  congrArg (fun u : State => { u with drs := drsReset }) h

theorem wreIgnitionOff_outside (s : State) : (wreIgnitionOff s).outsideWarnings = s.outsideWarnings :=
  wreEvent_outside _ s

theorem outsideOff_closed (v : State) : OffClosed fun t => t.outsideOff = v :=
  (view_closed State.outsideOff (fun _ _ h => outsideOff_of h) v).off
    (fun s h => (outsideOff_of (outsideSignals_of (outsideWarnings_of (outsideFaults_of (rstRequest_outside _ s))))).trans h)
    (fun s h => (outsideOff_of (outsideSignals_of (wreIgnitionOff_outside s))).trans h) fun _ _ h => h

theorem pwc_of_outsideOff {s t : State} (h : t.outsideOff = s.outsideOff) :
    t.pwc = { s.pwc with storeIdle := t.pwc.storeIdle } :=
  (congrArg (fun u : State => { u.pwc with storeIdle := t.pwc.storeIdle }) h :)

theorem sameBase_of_outsideOff {s t : State} (h : t.outsideOff = s.outsideOff) : SameBase s t :=
  ⟨(congrArg State.cal h :), (congrArg State.calLoaded h :), (congrArg State.pins h :), (congrArg State.supply h :),
    (congrArg State.pending h :)⟩

theorem sameStore_of_outsideOff {s t : State} (h : t.outsideOff = s.outsideOff) : SameStore s t :=
  (congrArg (fun u : State => { u.rst with queue := t.rst.queue }) h :)

theorem samePorts_of_outsideOff {s t : State} (h : t.outsideOff = s.outsideOff) : SamePorts s t :=
  samePorts_of_unflagged (congrArg State.ptu h :)

theorem inputs_of_outsideOff {s t : State} (h : t.outsideOff = s.outsideOff) :
    t.switches = s.switches ∧ t.senders = s.senders ∧ t.ccu = s.ccu :=
  ⟨(congrArg State.switches h :), (congrArg State.senders h :), (congrArg State.ccu h :)⟩

/-! ## What each handing establishes -/

theorem wreIgnitionOff_copies (s : State) : (wreIgnitionOff s).opu.copies = s.opu.copies :=
  Opu.copies_of_outsideWarnings (wreFinish_opu _ s)

theorem power_of_copies {s t : State} (h : t.opu.copies = s.opu.copies) : t.opu.power = s.opu.power :=
  congrArg Prod.fst h

theorem opuPower_off : OffClosed fun t => t.opu.power = .afterrun :=
  (opuPower_closed .afterrun).off (fun _ h => h) (fun s h => (power_of_copies (wreIgnitionOff_copies s)).trans h)
    (fun _ _ h => h) (fun _ h => h) fun s _ => opuPower_power .afterrun s

theorem holdsFlags_off (p : Port) (f : Notices) : OffClosed (holdsFlags p f) :=
  (holdsFlags_closed p f).off (fun _ h => holdsFlags_request p f _ h) (fun _ h => holdsFlags_wreEvent p f _ h)
    fun _ _ h => holdsFlags_of_ptu rfl h

theorem serviceOff_off : OffClosed fun t => t.svc.state = .off :=
  serviceOff_closed.off (fun _ h => h)
    (fun s h => by
      rw [svc_of_outsideWarnings (wreIgnitionOff_outside s)]
      exact h)
    (fun _ _ h => h) (fun _ h => h) fun _ h => h

theorem svcExit_off (s : State) : (svcExit s).svc.state = .off := by
  unfold svcExit
  dsimp only
  refine deliverAll_induct (P := fun t => t.svc.state = .off) serviceOff_closed.drawn (fun d hd t ht => ?_) rfl
  obtain ⟨i, -, rfl⟩ := List.mem_map.mp hd
  exact serviceOff_closed.release i t ht

theorem svcIgnitionOff_off (s : State) : (svcIgnitionOff s).svc.state = .off := by
  unfold svcIgnitionOff
  split
  · exact svcExit_off s
  · next off => exact not_not.mp off

/-! ## The rules at rest -/

/-- A rule returned to IDLE at the ignition-off, unless it is DISABLED (R95). -/
def WreEvent.rest (s : State) (e : WreEvent) (r : Fin 48) : WreEvent :=
  if e.wre.rules[r].phase = .disabled then e else (e.endFault s r).setRule r (ruleReset .idle)

theorem allIdle_eq (s : State) (e : WreEvent) : e.allIdle s
    = if (allRules.foldl (WreEvent.rest s) e).wre.list.isEmpty then allRules.foldl (WreEvent.rest s) e
      else (allRules.foldl (WreEvent.rest s) e).setList [] := by
  unfold WreEvent.allIdle
  generalize allRules = rules
  rfl

theorem rest_resting {s : State} {e : WreEvent} {r k : Fin 48} (h : k = r ∨ e.wre.rules[k].resting) :
    (e.rest s r).wre.rules[k].resting := by
  unfold WreEvent.rest
  split
  · next disabled =>
    rcases h with rfl | h
    · exact .inl disabled
    · exact h
  · rw [WreEvent.setRule_rule]
    split
    · exact .inr rfl
    · next other =>
      rw [WreEvent.endFault_rule, if_neg other]
      exact h.resolve_left other

theorem rests_resting (s : State) (k : Fin 48) (l : List (Fin 48)) {e : WreEvent} (h : k ∈ l ∨ e.wre.rules[k].resting) :
    (l.foldl (WreEvent.rest s) e).wre.rules[k].resting := by
  induction l generalizing e with
  | nil => exact h.resolve_left (by simp)
  | cons r l ih =>
    refine ih ?_
    rcases h with h | h
    · rcases List.mem_cons.mp h with rfl | h
      · exact .inr (rest_resting (.inl rfl))
      · exact .inl h
    · exact .inr (rest_resting (.inr h))

/-- Every rule is at rest, and the list is empty (R95). -/
def Wre.atRest (w : Wre) : Prop := w.list = [] ∧ ∀ r : Fin 48, w.rules[r].resting

theorem allIdle_atRest (s : State) (e : WreEvent) : (e.allIdle s).wre.atRest := by
  have resting (k : Fin 48) := rests_resting s k allRules (e := e) (.inl (List.mem_finRange k))
  rw [allIdle_eq]
  generalize allRules.foldl (WreEvent.rest s) e = f at resting
  split
  · next empty => exact ⟨List.isEmpty_iff.mp empty, resting⟩
  · exact ⟨rfl, resting⟩

theorem atRest_markTable {e : WreEvent} (h : e.wre.atRest) (taken : Bool) : (e.markTable taken).wre.atRest := h

theorem wreEvent_wre (f : WreEvent → WreEvent) (s : State) : (wreEvent f s).wre = (f s.wre.event).wre := wreFinish_wre _ s

theorem wreIgnitionOff_atRest (s : State) : (wreIgnitionOff s).wre.atRest := by
  have rest := atRest_markTable (allIdle_atRest s s.wre.event) false
  rwa [← wreEvent_wre (fun e => (e.allIdle s).markTable false) s] at rest

theorem power_of_outside {s t : State} (h : s.outsideSignals = t.outsideSignals) : s.pwc.power = t.pwc.power :=
  (congrArg (fun u : State => u.pwc.power) h :)

theorem power_of_outsideWarnings {s t : State} (h : t.outsideWarnings = s.outsideWarnings) : t.pwc.power = s.pwc.power :=
  (congrArg (fun u : State => u.pwc.power) h :)

theorem atRest_off : OffClosed fun t => t.pwc.power ≠ .run ∧ t.wre.atRest :=
  (wre_closed Wre.atRest).off (fun _ h => h)
    (fun s h => ⟨by
      rw [power_of_outsideWarnings (wreIgnitionOff_outside s)]
      exact h.1, wreIgnitionOff_atRest s⟩)
    (fun _ _ h => h) (fun _ h => h) fun _ h => h

theorem outOfRun_off (power : PowerState) : OffClosed fun t => t.pwc.power = power :=
  (view_closed (fun t => t.pwc.power) (fun _ _ h => power_of_outside h) power).off (fun _ h => h)
    (fun s h => (power_of_outsideWarnings (wreIgnitionOff_outside s)).trans h) fun _ _ h => h

end Sys2Proof.Machine
end

section
namespace Sys2Proof.Machine

open Sys2Proof.Claims

/-! ## The queued COUNTER_SAVE (R160, R161, R205) -/

theorem counterSave_mem_coalesce {q : List Job} {j : Job} (h : Job.counterSave ∈ q ∨ j = .counterSave) :
    Job.counterSave ∈ coalesce q j := by
  unfold coalesce
  cases j with
  | counterSave => exact mem_joinQueue.mpr (.inr rfl)
  | faultAppend c =>
    have queued := h.resolve_right nofun
    show Job.counterSave ∈ if _ then _ else _
    split
    · exact queued
    · exact mem_joinQueue.mpr (.inl queued)
  | faultRewrite =>
    have queued := h.resolve_right nofun
    exact mem_joinQueue.mpr (.inl (List.mem_filter.mpr ⟨queued, rfl⟩))
  | calibWrite => exact mem_joinQueue.mpr (.inl (h.resolve_right nofun))

/-- A COUNTER_SAVE, once queued, is not displaced by a request (R161). -/
theorem counterSave_mem_enqueue {q : List Job} {j : Job} (h : Job.counterSave ∈ q ∨ j = .counterSave) :
    Job.counterSave ∈ enqueue q j := by
  unfold enqueue
  split
  · exact counterSave_mem_coalesce h
  · exact counterSave_mem_coalesce (h.imp_left fun queued => counterSave_mem_coalesce (.inl queued))

/-- A COUNTER_SAVE is queued. -/
def State.saveQueued (s : State) : Prop := Job.counterSave ∈ s.rst.queue

theorem rstRequest_saveQueued {j : Job} {s : State} (h : s.saveQueued ∨ j = .counterSave) :
    (rstRequest j s).saveQueued := counterSave_mem_enqueue h

theorem flmReport_saveQueued (r : Report) {s : State} (h : s.saveQueued) : (flmReport r s).saveQueued := by
  unfold flmReport flmEvent
  split
  · split
    · exact foldl_induct (fun j _ t ht => rstRequest_saveQueued (.inl ht)) h
    · exact h
  · exact h

theorem wreEvent_saveQueued (f : WreEvent → WreEvent) {s : State} (h : s.saveQueued) : (wreEvent f s).saveQueued :=
  wreFinish_keeps (P := State.saveQueued) (fun _ h => h) (fun _ _ h => h) (fun _ _ h => h)
    (fun r _ h => flmReport_saveQueued r h) h

theorem saveQueued_closed : SignalClosed State.saveQueued where
  drawn _ h := h
  setSlot _ _ _ h := h
  setSvc _ _ h := h
  opu _ _ h := h
  notice _ _ h := h
  noticeOn p _ _ h := by cases p <;> exact h
  evaluate r s h := by
    unfold wreEvaluate
    split
    · exact wreEvent_saveQueued _ h
    · exact h
  release i s h := by
    unfold wreRelease
    split
    · exact wreEvent_saveQueued _ h
    · exact h
  report r _ h := flmReport_saveQueued r h

theorem saveQueued_off : OffClosed State.saveQueued :=
  saveQueued_closed.off (fun _ h => rstRequest_saveQueued (.inl h)) (fun _ h => wreEvent_saveQueued _ h) fun _ _ h => h

/-! ## The latch (R129, R205) -/

/-- The Door Supervisor with its latch clear. -/
def Drs.unlatched (x : Drs) : Drs := { x with latch := false }

theorem latchOff_drs (s : State) : (latchOff s).drs = s.drs.unlatched := by
  unfold latchOff
  split
  · refine (deliverAll_keeps State.drs (fun _ => rfl) (fun d hd t => ?_) _).trans rfl
    simp only [latchHandings, List.mem_cons, List.not_mem_nil, or_false] at hd
    rcases hd with rfl | rfl
    · exact stopReqUpdate_drs t
    · rfl
  · next clear =>
    unfold Drs.unlatched
    rw [← show s.drs.latch = false by simpa using clear]

/-- What is said of the doors apart from the latch stands. -/
theorem unlatched_off (Q : Drs → Prop) (latched : ∀ x, Q x → Q x.unlatched) : OffClosed fun t => Q t.drs where
  drawn _ h := h
  save _ h := h
  service s h := by
    unfold svcIgnitionOff
    split
    · rw [drs_of_outside ((signals_closed s.outsideSignals).svcExit rfl)]
      exact h
    · exact h
  warnings s h := by
    rw [drs_of_outside (outsideSignals_of (wreIgnitionOff_outside s))]
    exact h
  latch s h := by
    rw [latchOff_drs]
    exact latched _ h
  power s h := by
    rw [drs_of_outside (opuPower_outsideSignals .afterrun s)]
    exact h

/-! ## The ignition-off -/

/-- Each of the handings happens, and the others leave what it did. -/
theorem offHandings_done {w : State} (power : w.pwc.power = .afterrun) (notice : NoticeOnAll flagPower w) :
    let t := deliverAll offHandings w
    t.opu.power = .afterrun ∧ NoticeOnAll flagPower t ∧ t.svc.state = .off ∧ t.wre.atRest
      ∧ t.drs = w.drs.unlatched ∧ t.saveQueued := by
  refine ⟨?_, fun p => (holdsFlags_off p flagPower).kept (notice p), ?_, ?_, ?_, ?_⟩
  · exact opuPower_off.made offClosed_true (d := opuPower .afterrun) (by simp [offHandings])
      (fun u _ => opuPower_power .afterrun u) trivial
  · exact serviceOff_off.made offClosed_true (d := svcIgnitionOff) (by simp [offHandings])
      (fun u _ => svcIgnitionOff_off u) trivial
  · refine (atRest_off.made (outOfRun_off .afterrun) (d := wreIgnitionOff) (by simp [offHandings])
      (fun u hu => ⟨?_, wreIgnitionOff_atRest u⟩) power).2
    rw [power_of_outsideWarnings (wreIgnitionOff_outside u), hu]
    exact nofun
  · refine (unlatched_off (fun x => x = w.drs.unlatched) fun x h => by rw [h]; rfl).made
      (unlatched_off (fun x => x.unlatched = w.drs.unlatched) fun _ h => h) (d := latchOff) (by simp [offHandings])
      (fun u hu => (latchOff_drs u).trans hu) rfl
  · exact saveQueued_off.made offClosed_true (d := rstRequest .counterSave) (by simp [offHandings])
      (fun u _ => rstRequest_saveQueued (.inr rfl)) trivial

end Sys2Proof.Machine
end

section
/-! The ignition's debounced change (R204, R205, R207): from AFTERRUN, from SLEEP and from RUN. -/

namespace Sys2Proof.Machine

open Sys2Proof.Claims

/-- The Power Controller as an ignition-on enters RUN (R204). -/
def Pwc.ignited (x : Pwc) : Pwc :=
  { x with
    power := .run, ignition := true, ignitionDisagreement := 0, quiet := false, quietTimer := none
    ignitionCycles := if x.ignitionCycles = BitVec.allOnes 16 then BitVec.allOnes 16 else x.ignitionCycles + 1 }

theorem enteredRun_pwc (s : State) : (enteredRun s).pwc = s.pwc.ignited := by
  have counted (n : BitVec 16) : satInc n = if n = BitVec.allOnes 16 then BitVec.allOnes 16 else n + 1 := by
    unfold satInc
    split
    · next last => exact last
    · rfl
  unfold Pwc.ignited
  rw [← counted]
  rfl

theorem Ignited.pwc_eq {s t : State} (h : Ignited s t) : t.pwc = { s.pwc.ignited with storeIdle := t.pwc.storeIdle } := by
  rw [← enteredRun_pwc]
  exact h.pwc

theorem Ignited.setStoreIdle {s t : State} (h : Ignited s t) (idle : Bool) :
    (t.setPwc { t.pwc with storeIdle := idle }).pwc = { s.pwc.ignited with storeIdle := idle } := by
  show { t.pwc with storeIdle := idle } = _
  rw [h.pwc_eq]

/-- The store idle condition is PWC's own (R206). -/
theorem Ignited.handStoreIdle {s t : State} (h : Ignited s t) :
    handStoreIdle t = t.setPwc { t.pwc with storeIdle := t.storeIdle } := by
  refine handStoreIdle_of_run ?_
  rw [h.pwc]
  rfl

/-- The Power Controller as an ignition-off leaves it (R205). -/
def Pwc.extinguished (x : Pwc) : Pwc :=
  { x with
    power := .afterrun, ignition := false, ignitionDisagreement := 0, quiet := false
    quietTimer := startTimer x.uptime 10000 }

/-- The entry into AFTERRUN, before its handings (R205). -/
def enteredOff (s : State) : State := toAfterrun (s.setPwc { s.pwc with ignition := false, ignitionDisagreement := 0 })

theorem enteredOff_eq (s : State) : enteredOff s = (s.setPwc s.pwc.extinguished).notice flagPower := rfl

theorem notice_outsideOff (s : State) (f : Notices) : (s.notice f).outsideOff = s.outsideOff :=
  outsideOff_of (outsideSignals_of (outsideWarnings_of (notice_outsideFaults f s)))

/-- What an ignition-off leaves of the state it starts from, and what its handings make. -/
theorem ignitionOff_done {s w t : State} (start : w = enteredOff s) (same : t = deliverAll offHandings w) :
    t.pwc = { s.pwc.extinguished with storeIdle := t.pwc.storeIdle }
    ∧ (SameBase s t ∧ SameStore s t ∧ SamePorts s t)
    ∧ (t.switches = s.switches ∧ t.senders = s.senders ∧ t.ccu = s.ccu)
    ∧ t.opu.power = .afterrun ∧ NoticeOnAll flagPower t ∧ t.svc.state = .off ∧ t.wre.atRest
    ∧ t.drs = s.drs.unlatched ∧ t.saveQueued := by
  have frame : w.outsideOff = (s.setPwc s.pwc.extinguished).outsideOff := by
    rw [start, enteredOff_eq]
    exact notice_outsideOff _ _
  have notice : NoticeOnAll flagPower w := by
    intro p
    rw [start, enteredOff, toAfterrun]
    exact powerTo_notice .afterrun _ p
  have power : w.pwc.power = .afterrun := by
    rw [start]
    rfl
  have drs : w.drs = s.drs := by
    rw [start]
    rfl
  have done := offHandings_done power notice
  have outside := (outsideOff_closed _).kept frame
  rw [← same] at done outside
  rw [drs] at done
  have base : SameBase s (s.setPwc s.pwc.extinguished) := ⟨rfl, rfl, rfl, rfl, rfl⟩
  have store : SameStore s (s.setPwc s.pwc.extinguished) := rfl
  have ports : SamePorts s (s.setPwc s.pwc.extinguished) := samePorts_of_unflagged rfl
  have inputs := inputs_of_outsideOff outside
  exact ⟨pwc_of_outsideOff outside, ⟨sameBase_trans base (sameBase_of_outsideOff outside),
    sameStore_trans store (sameStore_of_outsideOff outside), samePorts_trans ports (samePorts_of_outsideOff outside)⟩,
    inputs, done⟩

/-- The wake to RUN from SLEEP (R207). -/
theorem wakeRun_done {s t : State} (same : t = deliverGroups (onGroups true s.pwc.rstrun) onHandings
      (firstSample (enteredRun s))) :
    t.opu.power = .run ∧ NoticeOnAll flagPower t ∧ t.wre.tableTaken = true
    ∧ (∀ n : Fin 32, t.switches[n] = ⟨s.pins.switches[n] == (s.cal.switches[n].polarity == .activeHigh), 0⟩)
    ∧ (s.cal.reportless → (∀ d : Fin 4, s.cal.doors[d].present = false) → Aged s t)
    ∧ (s.pwc.rstrun = true → Restarted s t) ∧ Ignited s t := by
  obtain ⟨-, first⟩ := firstSample_eq (enteredRun s) 0
  have sampled (n : Fin 32) := (firstSample_eq (enteredRun s) n).1
  have pins (n : Fin 32) : (enteredRun s).sampled n
      = (s.pins.switches[n] == (s.cal.switches[n].polarity == .activeHigh)) := rfl
  have entered := (enteredRun_entered s).sampled (firstSample (enteredRun s)).switches
  rw [← first] at entered
  generalize firstSample (enteredRun s) = b at same sampled entered
  have steady := (steady_run entered.run).delivered (wake := true) (rstrun := s.pwc.rstrun) (Steady.refl b)
  obtain ⟨opu, notice, taken⟩ := onGroups_run true s.pwc.rstrun entered.notice
  have ignited := entered.delivered true s.pwc.rstrun
  rw [← same] at steady opu notice taken ignited
  refine ⟨opu, notice, taken, fun n => ?_, fun silent noDoor => ?_, fun high => ?_, ignited⟩
  · rw [steady.switches, sampled, pins]
  · rw [same]
    exact entered.aged (onGroups_quiet silent noDoor)
  · rw [same, high]
    exact entered.restarted (runRestart_restarted entered.run true)

end Sys2Proof.Machine

open Sys2Proof Sys2Proof.Machine Sys2Proof.Claims in
/-- Settles O59, from what every delivery of the change keeps and what one of them establishes. -/
theorem ignitionTurnsThePowerState : Obligations.IgnitionTurnsThePowerState := by
  unfold Obligations.IgnitionTurnsThePowerState
  intro s supply full
  obtain ⟨fromAfterrun, fromSleep, fromRun⟩ := exec_ignitionChange_of supply full
  have entered := enteredRun_entered s
  refine ⟨fun power off => ?_, fun power off => ?_, fun power on => ?_⟩
  · obtain ⟨opu, notice, taken⟩ := onGroups_run false s.pwc.rstrun entered.notice
    have steady := (steady_run entered.run).delivered (wake := false) (rstrun := s.pwc.rstrun) (Steady.refl _)
    have ignited := entered.delivered false s.pwc.rstrun
    have inputs : (enteredRun s).switches = s.switches := rfl
    refine ⟨_, fromAfterrun power off, ignited.pwc_eq, opu, notice, taken, fun silent quiet => entered.aged ?_,
      fun low => entered.kept (by rw [low]), fun high => ?_, ignited.base, ignited.store, ignited.ports,
      steady.switches.trans inputs, ignited.cycles, ignited.odometer, ignited.hours⟩
    · rcases quiet with low | noDoor
      · rw [low]
        exact tableOnly_quiet silent
      · exact onGroups_quiet silent noDoor
    · rw [high]
      refine ⟨entered.restarted (runRestart_restarted entered.run false), fun d present => ⟨?_, ?_⟩, fun d absent => ?_⟩
      · rw [entered.door inputs rfl, if_pos present]
      · exact entered.doorShown rfl present
      · rw [entered.door inputs rfl, if_neg (by rw [absent]; exact nofun)]
  · obtain ⟨opu, notice, taken, inputs, aged, restarted, ignited⟩ := wakeRun_done (s := s) rfl
    rw [ignited.handStoreIdle] at fromSleep
    exact ⟨_, fromSleep power off, ignited.setStoreIdle _, opu, notice, taken, inputs, aged, restarted, ignited.base,
      ignited.store, ignited.ports, ignited.cycles, ignited.odometer, ignited.hours⟩
  · obtain ⟨pwc, ⟨base, store, ports⟩, ⟨switches, senders, ccu⟩, opu, notice, svc, ⟨list, rules⟩, drs, queued⟩ :=
      ignitionOff_done (s := s) rfl rfl
    rw [ignitionOff_eq] at fromRun
    exact ⟨_, fromRun power on, pwc, opu, notice, svc, list, fun r => (rules r).symm, drs, queued, base, store, ports,
      switches, senders, ccu⟩
end

section
/-! SUPPORT. Deliveries of which one alone turns a view, and updates of slots that nobody listens to. -/

namespace Sys2Proof.Machine

open Sys2Proof.Claims

/-- A delivery that turns one property into another brings the other about, whatever the order, where the other
deliveries keep both. -/
theorem Delivered.turns {P Q : State → Prop} {d : Delivery} {l rest : List Delivery} {s t : State}
    (run : Delivered l s t) (perm : l.Perm (d :: rest)) (drawP : ∀ u, P u → P u.drawn) (drawQ : ∀ u, Q u → Q u.drawn)
    (keepP : ∀ e ∈ rest, ∀ u, P u → P (e u)) (keepQ : ∀ e ∈ rest, ∀ u, Q u → Q (e u)) (turn : ∀ u, P u → Q (d u))
    (hs : P s) : Q t := by
  obtain ⟨pre, post, rfl⟩ := List.append_of_mem (perm.mem_iff.mpr List.mem_cons_self)
  have others : ∀ e, e ∈ pre ∨ e ∈ post → e ∈ rest := fun e he =>
    (List.perm_middle.symm.trans perm).cons_inv.mem_iff.mp (List.mem_append.mpr he)
  obtain ⟨u, first, last⟩ := run.split
  have hu : P u := first.induct drawP (fun e he => keepP e (others e (.inl he))) hs
  clear run first perm
  generalize both : d :: post = ds at last
  induction last with
  | done => cases both
  | draw _ ih => exact ih (drawP _ hu) both
  | take part _ =>
    obtain ⟨rfl, rfl⟩ := List.cons.inj both
    exact part.induct drawQ (fun e he => keepQ e (others e (.inr he))) (turn _ hu)

/-- A view that one delivery turns, and the others keep, is turned in some state in which it still stands. -/
theorem Delivered.single {α : Type} {I : State → Prop} {view : State → α} {d : Delivery} {l rest : List Delivery}
    {s t : State} (run : Delivered l s t) (perm : l.Perm (d :: rest)) (drawI : ∀ u, I u → I u.drawn)
    (drawn : ∀ u, view u.drawn = view u) (keepI : ∀ e ∈ d :: rest, ∀ u, I u → I (e u))
    (keeps : ∀ e ∈ rest, ∀ u, I u → view (e u) = view u) (hs : I s) :
    ∃ u, I u ∧ view u = view s ∧ view t = view (d u) :=
  (run.turns (P := fun u => I u ∧ view u = view s)
    (Q := fun w => I w ∧ ∃ u, I u ∧ view u = view s ∧ view w = view (d u)) perm
    (fun u ⟨hu, same⟩ => ⟨drawI u hu, (drawn u).trans same⟩)
    (fun w ⟨hw, u, hu, before, after⟩ => ⟨drawI w hw, u, hu, before, (drawn w).trans after⟩)
    (fun e he u ⟨hu, same⟩ => ⟨keepI e (List.mem_cons_of_mem _ he) u hu, (keeps e he u hu).trans same⟩)
    (fun e he w ⟨hw, u, hu, before, after⟩ =>
      ⟨keepI e (List.mem_cons_of_mem _ he) w hw, u, hu, before, (keeps e he w hw).trans after⟩)
    (fun u ⟨hu, same⟩ => ⟨keepI d List.mem_cons_self u hu, u, hu, same, rfl⟩) ⟨hs, rfl⟩).2

/-! ## Updates of several slots -/

/-- A slot updated among others takes its update once, where the other deliveries leave what its source left. -/
theorem updates_source {l : List (Fin 96)} {others : List Delivery} {i : Fin 96} (once : l.Nodup) (hi : i ∈ l)
    (st : LiveStatus) (v : Value) {s : State} {I : State → Prop} (drawI : ∀ u, I u → I u.drawn)
    (updateI : ∀ j u, I u → I (sgtUpdate j st v u)) (othersI : ∀ e ∈ others, ∀ u, I u → I (e u))
    (uptime : ∀ u, I u → u.pwc.uptime = s.pwc.uptime)
    (others_source : ∀ e ∈ others, ∀ u, I u → (e u).source i = u.source i) (hs : I s) :
    (deliverAll (l.map (sgtUpdate · st v) ++ others) s).source i
      = (s.source i).updated st v s.pwc.uptime s.pwc.uptime := by
  obtain ⟨k, perm, run⟩ := deliverAll_delivered (l.map (sgtUpdate · st v) ++ others) s
  have split : (l.map (sgtUpdate · st v) ++ others).Perm
      (sgtUpdate i st v :: ((l.erase i).map (sgtUpdate · st v) ++ others)) :=
    ((List.perm_cons_erase hi).map (sgtUpdate · st v)).append_right others
  refine run.once (view := fun u => u.source i)
    (turn := fun x => x.updated st v s.pwc.uptime s.pwc.uptime) (perm.trans split) drawI (fun _ => rfl)
    (fun e he u hu => ?_) (fun u hu => ?_) (fun e he u hu => ?_) hs
  · rcases List.mem_append.mp (split.mem_iff.mpr he) with he | he
    · obtain ⟨j, -, rfl⟩ := List.mem_map.mp he
      exact updateI j u hu
    · exact othersI e he u hu
  · rw [sgtUpdate_source, Function.update_self, uptime u hu]
  · rcases List.mem_append.mp he with he | he
    · obtain ⟨j, hj, rfl⟩ := List.mem_map.mp he
      have other : i ≠ j := fun same => (once.mem_erase_iff.mp hj).1 same.symm
      rw [sgtUpdate_source, Function.update_of_ne other]
    · exact others_source e he u hu

theorem boundTo_nodup (s : State) (k : SourceKind) (index : Option (Fin 32)) : (s.boundTo k index).Nodup :=
  (List.nodup_finRange 96).filter _

/-! ## Slots that nobody listens to -/

/-- WRE and Fault Memory. -/
def State.alarms (s : State) : Wre × Flm := (s.wre, s.flm)

/-- A change of a slot reaches no rule, nor does the end of service mode: outside RUN, and in RUN with service mode
OFF where no rule in use refers to the slot (R78, R97). -/
def State.unheard (s : State) (i : Fin 96) : Prop :=
  s.pwc.power = .run → s.svc.state = .off ∧ rulesOn s.cal i = []

theorem opuLiveChange_alarms (i : Fin 96) (v : Value) (st : LiveStatus) (s : State) :
    (opuLiveChange i v st s).alarms = s.alarms := by
  unfold opuLiveChange
  dsimp only
  split <;> rfl

theorem svcSample_alarms (i : Fin 96) (v : Value) (st : Status) (s : State) : (svcSample i v st s).alarms = s.alarms :=
  Prod.ext (svcSample_same i v st s).2.1 (svcSample_flm i v st s)

/-- Outside RUN no change of a slot reaches WRE or Fault Memory. -/
theorem alarms_closed (a : Wre × Flm) : ChangeClosed fun t => t.pwc.power ≠ .run ∧ t.alarms = a where
  drawn _ h := h
  notice _ _ h := h
  liveChange i x st s := by
    rintro ⟨power, h⟩
    rw [power_of_outsideWarnings (opuLiveChange_outside i x st s), opuLiveChange_alarms]
    exact ⟨power, h⟩
  evaluate r s := by
    rintro ⟨power, h⟩
    unfold wreEvaluate
    rw [if_neg (by simp [State.evaluating, power])]
    exact ⟨power, h⟩
  sample i x st s := by
    rintro ⟨power, h⟩
    rw [(svcSample_same i x st s).2.2.1, svcSample_alarms]
    exact ⟨power, h⟩
  endTest _ h := h
  unslot _ _ h := h
  endService _ h := h
  release i s := by
    rintro ⟨power, h⟩
    rw [wreRelease_of_not_run i power]
    exact ⟨power, h⟩

/-- The receivers of a change with service mode OFF and no rule on the slot: SVC's sample at most. -/
theorem changeEvents_alarms_of_off {i : Fin 96} {old x : Slot} {s : State} (off : s.svc.state = .off)
    (rules : rulesOn s.cal i = []) : (changeEvents i old x s).alarms = s.alarms := by
  unfold changeEvents
  dsimp only
  generalize noticed : (if entersFailure old.liveStatus x.liveStatus = true then s.notice flagSignal else s) = u
  have start : u.svc.state = .off ∧ u.cal = s.cal ∧ u.alarms = s.alarms := by
    subst noticed
    split <;> exact ⟨off, rfl, rfl⟩
  generalize told : (if old.liveDiffers x = true then opuLiveChange i x.liveValue x.liveStatus u else u) = w
  have told' : w.svc.state = .off ∧ w.cal = s.cal ∧ w.alarms = s.alarms := by
    subst told
    split
    · have outside := opuLiveChange_outside i x.liveValue x.liveStatus u
      rw [svc_of_outsideWarnings outside, cal_of_outsideWarnings outside, opuLiveChange_alarms]
      exact start
    · exact start
  obtain ⟨off', cal, alarms⟩ := told'
  refine (deliverAll_keeps State.alarms (fun _ => rfl) (fun d hd t => ?_) w).trans alarms
  have live : liveReceivers i x w = [] := by
    unfold liveReceivers
    rw [off']
    rfl
  rw [live, visibleReceivers, cal, rules] at hd
  have sampled : d = svcSample i x.visibleValue x.visibleStatus := by
    rcases List.mem_append.mp hd with hd | hd
    · split at hd
      · rcases List.mem_append.mp hd with hd | hd
        · simp at hd
        · split at hd
          · exact List.mem_singleton.mp hd
          · simp at hd
      · simp at hd
    · simp at hd
  rw [sampled]
  exact svcSample_alarms i _ _ t

/-- New contents of a slot that nobody listens to leave WRE and Fault Memory. -/
theorem sgtAlter_alarms {i : Fin 96} {x : Slot} {s : State} (h : s.unheard i) : (sgtAlter i x s).alarms = s.alarms := by
  by_cases power : s.pwc.power = .run
  · obtain ⟨off, rules⟩ := h power
    unfold sgtAlter
    rw [if_neg (by rw [power]; exact nofun)]
    exact changeEvents_alarms_of_off off rules
  · exact ((alarms_closed s.alarms).alter ⟨power, rfl⟩).2

theorem UpdateClosed.and {P Q : State → Prop} (h : UpdateClosed P) (g : UpdateClosed Q) :
    UpdateClosed fun t => P t ∧ Q t where
  drawn s hs := ⟨h.drawn s hs.1, g.drawn s hs.2⟩
  notice f s hs := ⟨h.notice f s hs.1, g.notice f s hs.2⟩
  liveChange i v st s hs := ⟨h.liveChange i v st s hs.1, g.liveChange i v st s hs.2⟩
  evaluate r s hs := ⟨h.evaluate r s hs.1, g.evaluate r s hs.2⟩
  sample i v st s hs := ⟨h.sample i v st s hs.1, g.sample i v st s hs.2⟩
  endTest s hs := ⟨h.endTest s hs.1, g.endTest s hs.2⟩
  unslot i s hs := ⟨h.unslot i s hs.1, g.unslot i s hs.2⟩
  endService s hs := ⟨h.endService s hs.1, g.endService s hs.2⟩
  release i s hs := ⟨h.release i s hs.1, g.release i s hs.2⟩
  setSlot i st v s hs := ⟨h.setSlot i st v s hs.1, g.setSlot i st v s hs.2⟩

theorem UpdateClosed.guard {P : State → Prop} (h : UpdateClosed P) (p : Prop) : UpdateClosed fun t => p → P t where
  drawn s hs hp := h.drawn s (hs hp)
  notice f s hs hp := h.notice f s (hs hp)
  liveChange i v st s hs hp := h.liveChange i v st s (hs hp)
  evaluate r s hs hp := h.evaluate r s (hs hp)
  sample i v st s hs hp := h.sample i v st s (hs hp)
  endTest s hs hp := h.endTest s (hs hp)
  unslot i s hs hp := h.unslot i s (hs hp)
  endService s hs hp := h.endService s (hs hp)
  release i s hs hp := h.release i s (hs hp)
  setSlot i st v s hs hp := h.setSlot i st v s (hs hp)

/-- Power state and calibration stand, and service mode is OFF where the part is in RUN. -/
def Hushed (b u : State) : Prop :=
  (u.pwc.power, u.cal) = (b.pwc.power, b.cal) ∧ (b.pwc.power = .run → u.svc.state = .off)

theorem hushed_closed (b : State) : UpdateClosed (Hushed b) :=
  (view_closed (fun t => (t.pwc.power, t.cal)) (fun _ _ h => Prod.ext (power_of_outside h) (cal_of_outside h)) _).updates.and
    (serviceOff_closed.guard _)

theorem Hushed.unheard {b u : State} (h : Hushed b u) {i : Fin 96} (rules : b.pwc.power = .run → rulesOn b.cal i = []) :
    u.unheard i := by
  obtain ⟨same, off⟩ := h
  obtain ⟨power, cal⟩ := Prod.mk.inj same
  unfold State.unheard
  rw [power, cal]
  exact fun run => ⟨off run, rules run⟩

theorem Hushed.of_unwatched {s : State} {named : Fin 96 → Prop} (h : Unwatched s named) : Hushed s s :=
  ⟨rfl, fun run => (h run).1⟩

/-- No rule in use refers to a slot that is not watched. -/
theorem rulesOn_of_unwatched {s : State} {named : Fin 96 → Prop} (h : Unwatched s named) {i : Fin 96} (hi : named i)
    (run : s.pwc.power = .run) : rulesOn s.cal i = [] := by
  refine List.eq_nil_iff_forall_not_mem.mpr fun r hr => ?_
  obtain ⟨enabled, refers⟩ := mem_rulesOn.mp hr
  obtain ⟨signal, qualifier⟩ := (h run).2 i hi r enabled
  rcases refers with same | ⟨q, known, same⟩
  · exact signal same
  · exact qualifier q known same

end Sys2Proof.Machine
end

section
/-! SUPPORT. A sample of a sender (R28 to R32): the filter, the curve, the publication and the report. -/

namespace Sys2Proof.Machine

open Sys2Proof.Claims

/-! ## Quotients rounded toward zero -/

/-- A part of a difference, rounded toward zero, lies between 0 and the difference. -/
theorem tdiv_part {a w d : Int} (low : 0 ≤ a) (high : a ≤ w) (pos : 0 < w) :
    (0 ≤ d → 0 ≤ Int.tdiv (a * d) w ∧ Int.tdiv (a * d) w ≤ d)
      ∧ (d ≤ 0 → d ≤ Int.tdiv (a * d) w ∧ Int.tdiv (a * d) w ≤ 0) := by
  have up {d : Int} (hd : 0 ≤ d) : 0 ≤ Int.tdiv (a * d) w ∧ Int.tdiv (a * d) w ≤ d := by
    have product : 0 ≤ a * d := Int.mul_nonneg low hd
    rw [Int.tdiv_eq_ediv_of_nonneg product]
    exact ⟨Int.ediv_nonneg product pos.le,
      Int.ediv_le_of_le_mul pos (by rw [Int.mul_comm d w]; exact Int.mul_le_mul_of_nonneg_right high hd)⟩
  refine ⟨up, fun hd => ?_⟩
  obtain ⟨low', high'⟩ := up (Int.neg_nonneg_of_nonpos hd)
  rw [Int.mul_neg, Int.neg_tdiv] at low' high'
  omega

/-- The filter divides the difference by a power of 2, rounded toward zero (R28). -/
theorem filtered_toNat (it : SenderItem) (g raw : BitVec 12) : ((filtered it (some g) raw).toNat : Int)
    = g.toNat + Int.tdiv ((raw.toNat : Int) - g.toNat) (2 ^ it.filterLevel.val) := by
  have pos : (0 : Int) < 2 ^ it.filterLevel.val := Int.pow_pos (by decide)
  obtain ⟨up, down⟩ := tdiv_part (a := 1) (d := (raw.toNat : Int) - g.toNat) (by decide) pos pos
  rw [Int.one_mul] at up down
  have hg := g.isLt
  have hr := raw.isLt
  unfold filtered quotient
  dsimp only
  rw [BitVec.toNat_ofInt]
  generalize Int.tdiv ((raw.toNat : Int) - g.toNat) (2 ^ it.filterLevel.val) = q at up down
  rcases Int.le_total 0 ((raw.toNat : Int) - g.toNat) with sign | sign
  · obtain ⟨_, _⟩ := up sign
    omega
  · obtain ⟨_, _⟩ := down sign
    omega

/-! ## The curve (R31) -/

/-- The points of a curve rise. -/
def Rising (l : List CurvePoint) : Prop := l.Pairwise fun p q => p.raw < q.raw

theorem interpolate_start (p q : CurvePoint) : interpolate p q p.raw.toNat = p.value.toInt := by
  unfold interpolate quotient
  simp

theorem interpolate_end {p q : CurvePoint} (h : p.raw < q.raw) : interpolate p q q.raw.toNat = q.value.toInt := by
  have apart : ((q.raw.toNat : Int) - p.raw.toNat) ≠ 0 := by
    have : p.raw.toNat < q.raw.toNat := h
    omega
  unfold interpolate quotient
  dsimp only
  rw [Int.mul_tdiv_cancel_left _ apart]
  omega

/-- A segment's value lies between those of its ends. -/
theorem interpolate_between {p q : CurvePoint} {f : Int} (h : p.raw < q.raw) (low : p.raw.toNat ≤ f)
    (high : f ≤ q.raw.toNat) : min p.value.toInt q.value.toInt ≤ interpolate p q f
      ∧ interpolate p q f ≤ max p.value.toInt q.value.toInt := by
  have apart : (0 : Int) < (q.raw.toNat : Int) - p.raw.toNat := by
    have : p.raw.toNat < q.raw.toNat := h
    omega
  obtain ⟨up, down⟩ := tdiv_part (a := f - p.raw.toNat) (w := (q.raw.toNat : Int) - p.raw.toNat)
    (d := q.value.toInt - p.value.toInt) (by omega) (by omega) apart
  unfold interpolate quotient
  dsimp only
  rcases Int.le_total 0 (q.value.toInt - p.value.toInt) with sign | sign
  · obtain ⟨_, _⟩ := up sign
    omega
  · obtain ⟨_, _⟩ := down sign
    omega

theorem curveValue_first {p : CurvePoint} {l : List CurvePoint} {f : Int} (h : f ≤ p.raw.toNat) :
    curveValue (p :: l) f = p.value.toInt := by
  cases l with
  | nil => rfl
  | cons q l => exact if_pos h

theorem curveValue_last {l : List CurvePoint} {p : CurvePoint} {f : Int} (rising : Rising l)
    (last : l.getLast? = some p) (h : p.raw.toNat ≤ f) : curveValue l f = p.value.toInt := by
  induction l with
  | nil => cases last
  | cons a l ih =>
    cases l with
    | nil =>
      obtain rfl : a = p := by simpa using last
      rfl
    | cons b l =>
      obtain ⟨above, rising'⟩ := List.pairwise_cons.mp rising
      rw [List.getLast?_cons_cons] at last
      have later : a.raw.toNat < p.raw.toNat := above p (List.mem_of_getLast? last)
      unfold curveValue
      rw [if_neg (by omega)]
      split
      · next inside =>
        have first := curveValue_first (l := l) inside
        rw [ih rising' last] at first
        cases l with
        | nil =>
          obtain rfl : b = p := by simpa using last
          obtain rfl : f = b.raw.toNat := by omega
          exact interpolate_end (above b List.mem_cons_self)
        | cons c l =>
          have : b.raw.toNat < p.raw.toNat := (List.pairwise_cons.mp rising').1 p
            (List.mem_of_getLast? (by rwa [List.getLast?_cons_cons] at last))
          omega
      · exact ih rising' last

theorem curveValue_segment {before after : List CurvePoint} {p q : CurvePoint} {f : Int}
    (rising : Rising (before ++ p :: q :: after)) (low : p.raw.toNat ≤ f) (high : f ≤ q.raw.toNat) :
    curveValue (before ++ p :: q :: after) f = interpolate p q f := by
  induction before with
  | nil =>
    rw [List.nil_append]
    rw [curveValue, if_pos high]
    split
    · next first =>
      obtain rfl : f = p.raw.toNat := by omega
      exact (interpolate_start p q).symm
    · rfl
  | cons a before ih =>
    obtain ⟨above, rising'⟩ := List.pairwise_cons.mp rising
    have first : a.raw.toNat < p.raw.toNat := above p (by simp)
    cases before with
    | nil =>
      show curveValue (a :: p :: q :: after) f = _
      rw [curveValue, if_neg (by omega)]
      split
      · obtain rfl : f = p.raw.toNat := by omega
        rw [interpolate_start]
        exact interpolate_end (above p (by simp))
      · exact ih rising'
    | cons b before =>
      have second : b.raw.toNat < p.raw.toNat := (List.pairwise_cons.mp rising').1 p (by simp)
      show curveValue (a :: b :: (before ++ p :: q :: after)) f = _
      rw [curveValue, if_neg (by omega), if_neg (by omega)]
      exact ih rising'

/-- The value of a rising curve, as a slot value, is the one of R31. -/
theorem curveValue_onCurve {l : List CurvePoint} (rising : Rising l) (f : BitVec 12) :
    OnCurve l f (BitVec.ofInt 32 (curveValue l f.toNat)) := by
  refine ⟨fun p head low => ?_, fun p last high => ?_, fun before p q after split low high => ?_⟩
  · obtain ⟨l, rfl⟩ : ∃ k, l = p :: k := by
      cases l with
      | nil => cases head
      | cons a l => exact ⟨l, by rw [Option.some.inj head]⟩
    rw [curveValue_first (Int.ofNat_le.mpr low), BitVec.ofInt_toInt]
  · rw [curveValue_last rising last (Int.ofNat_le.mpr high), BitVec.ofInt_toInt]
  · subst split
    have apart : p.raw < q.raw :=
      (List.pairwise_cons.mp (List.pairwise_append.mp rising).2.1).1 q List.mem_cons_self
    have low : (p.raw.toNat : Int) ≤ f.toNat := Int.ofNat_le.mpr low
    have high : (f.toNat : Int) ≤ q.raw.toNat := Int.ofNat_le.mpr high
    rw [curveValue_segment rising low high, BitVec.toInt_ofInt, Int.bmod_eq_of_le]
    · rfl
    all_goals
      have := interpolate_between apart low high
      have := p.value.le_toInt
      have := p.value.toInt_lt
      have := q.value.le_toInt
      have := q.value.toInt_lt
      omega

end Sys2Proof.Machine
end

section
namespace Sys2Proof.Machine

open Sys2Proof.Claims

/-! ## The publication at its slots (R32) -/

/-- The status that a publication gives its slots. -/
def Publication.status : Publication → LiveStatus
  | .valid _ => .valid
  | .outOfRange => .outOfRange

/-- The value that a publication carries; OUT_OF_RANGE carries none. -/
def Publication.value : Publication → Value
  | .valid v => v
  | .outOfRange => 0

theorem Publication.update_eq (p : Publication) : p.update = (sgtUpdate · p.status p.value) := by
  cases p <;> rfl

/-! ## Reports of a sender at Fault Memory (R30) -/

theorem replaceable_of_stored {l : List FaultEntry} (h : ∃ e ∈ l, e.active = false) :
    ∃ e, replaceable l = some e := by
  have stands : ∀ (l : List FaultEntry) (b : FaultEntry), ∃ e, l.foldl olderOf (some b) = some e := by
    intro l
    induction l with
    | nil => exact fun b => ⟨b, rfl⟩
    | cons a l ih =>
      intro b
      rw [List.foldl_cons, olderOf]
      split <;> exact ih _
  unfold replaceable
  induction l with
  | nil => simp at h
  | cons a l ih =>
    rw [List.foldl_cons, olderOf]
    split
    · next active =>
      refine ih ?_
      obtain ⟨e, member, stored⟩ := h
      rcases List.mem_cons.mp member with rfl | member
      · rw [active] at stored
        cases stored
      · exact ⟨e, member, stored⟩
    · exact stands l a

/-- An occurrence that finds a place leaves an ACTIVE entry of its code and source (R138, R139, R141). -/
theorem occurrence_active {f : Flm} {code : BitVec 16} (place : HasPlace f.list code) (source : FaultSource)
    (number : BitVec 8) (st : FaultStamp) : (f.occurrence code source number st).changed = true
      ∧ ∃ e ∈ (f.occurrence code source number st).list, e.code = code ∧ e.source = source ∧ e.active = true := by
  unfold Flm.occurrence
  split
  · next holds =>
    obtain ⟨e, member, same⟩ := List.mem_map.mp (holds_iff.mp holds)
    refine ⟨rfl, e.occur source number st, List.mem_map.mpr ⟨e, member, if_pos same⟩, same, rfl, rfl⟩
  · next absent =>
    have new (l : List FaultEntry) :
        ∃ e ∈ l ++ [newEntry code source number st], e.code = code ∧ e.source = source ∧ e.active = true :=
      ⟨_, List.mem_append_right l List.mem_cons_self, rfl, rfl, rfl⟩
    split
    · exact ⟨rfl, new _⟩
    · next full =>
      have stored : ∃ e ∈ f.list, e.active = false := by
        rcases place with ⟨e, member, same⟩ | room | stored
        · exact absurd (holds_iff.mpr (List.mem_map.mpr ⟨e, member, same⟩)) absent
        · exact absurd room full
        · exact stored
      obtain ⟨old, found⟩ := replaceable_of_stored stored
      rw [found]
      exact ⟨rfl, new _⟩

/-- No entry of the code is ACTIVE after its end (R143). -/
theorem ended_stored (f : Flm) (code : BitVec 16) :
    ∀ e ∈ if (f.ended code).changed then (f.ended code).list else f.list, e.code = code → e.active = false := by
  intro e he same
  unfold Flm.ended at he
  split at he
  · obtain ⟨x, -, rfl⟩ := List.mem_map.mp he
    split at same
    · next named =>
      rw [if_pos named]
      rfl
    · next other => exact absurd same other
  · next none =>
    have member : e ∈ f.list := he
    rw [List.any_eq_true] at none
    cases active : e.active with
    | false => rfl
    | true => exact absurd ⟨e, member, by simp [same, active]⟩ none

theorem flmReport_occurrence {s : State} {code : BitVec 16} (replayed : s.flm.replayDone = true)
    (place : HasPlace s.flm.list code) (kept : storedAtOnce code = false) (source : FaultSource) :
    ∃ e ∈ (flmReport (.occurrence code source) s).flm.list, e.code = code ∧ e.source = source ∧ e.active = true := by
  unfold flmReport Flm.apply
  obtain ⟨changed, entry⟩ := occurrence_active place source 1 s.faultStamp
  rw [if_pos replayed]
  dsimp only
  rw [if_neg (by rw [kept]; exact nofun), flmEvent_list, if_pos changed]
  exact entry

theorem flmReport_ended {s : State} (replayed : s.flm.replayDone = true) (code : BitVec 16) :
    ∀ e ∈ (flmReport (.ended code) s).flm.list, e.code = code → e.active = false := by
  unfold flmReport Flm.apply
  rw [if_pos replayed, flmEvent_list]
  exact ended_stored s.flm code

theorem senderCode_not_storedAtOnce : ∀ n : Fin 8, storedAtOnce (senderCode n) = false := by decide

/-! ## The sample -/

/-- The state of a sender after a sample. -/
def sampledSender (s : State) (n : Fin 8) (raw : BitVec 12) : SenderState :=
  let it := s.cal.senders[n]
  let x := s.senders[n]
  let f := filtered it x.filtered raw
  let d := diagnose x.outOfRange x.pendingTime (it.outside f) s.now
  ⟨some f, d.1, d.2, some (publicationOf it d.1 f)⟩

/-- What a sample hands to the slots. -/
def sampleUpdates (s : State) (n : Fin 8) (p : Publication) : List Delivery :=
  if s.senders[n].lastPublication ≠ some p then (s.boundTo .sender (sourceOf n)).map (sgtUpdate · p.status p.value)
  else []

/-- What a sample reports. -/
def sampleReports (s : State) (n : Fin 8) (isOut : Bool) : List Delivery :=
  if s.senders[n].outOfRange = isOut then [] else [flmReports (senderReports n s.senders[n].outOfRange isOut)]

theorem senderSample_eq {s : State} {n : Fin 8} (awake : s.pwc.power ≠ .sleep) (used : s.cal.senderInUse n = true)
    (raw : BitVec 12) {p : Publication} (new : (sampledSender s n raw).lastPublication = some p) : senderSample n raw s
      = deliverAll (sampleUpdates s n p ++ sampleReports s n (sampledSender s n raw).outOfRange)
          (s.setSender n (sampledSender s n raw)) := by
  obtain rfl := Option.some.inj new
  have reports (old isOut : Bool) : (if (senderReports n old isOut).isEmpty then []
      else [flmReports (senderReports n old isOut)])
      = if old = isOut then [] else [flmReports (senderReports n old isOut)] := by
    unfold senderReports
    cases old <;> cases isOut <;> rfl
  unfold senderSample sampleUpdates sampleReports
  rw [if_pos (by simp [used, awake]), ← reports, ← Publication.update_eq]
  simp only [bne_iff_ne, ne_eq]
  rfl

/-- The judgement of a filtered value (R29). -/
theorem outside_iff (it : SenderItem) (f : BitVec 12) : it.outside f = true ↔ Outside it f := by
  unfold SenderItem.outside Outside
  simp [Option.any_eq_true]

/-- A judgement that agrees with the diagnosis state drops the pending time (R29). -/
theorem diagnose_agrees {isOut judged : Bool} (h : judged = isOut) (pending : Option Time) (now : Time) :
    diagnose isOut pending judged now = (isOut, none) := if_pos h

theorem diagnose_first {isOut judged : Bool} (h : judged ≠ isOut) (now : Time) :
    diagnose isOut none judged now = (isOut, some now) := if_neg h

/-- A judgement that differs turns the diagnosis state after 500 ms (R29). -/
theorem diagnose_pending {isOut judged : Bool} (h : judged ≠ isOut) (since now : Time) :
    diagnose isOut (some since) judged now
      = if (now - since).toNat < 500 then (isOut, some since) else (!isOut, none) := by
  have turned : judged = !isOut := by
    cases judged <;> cases isOut <;> simp_all
  unfold diagnose elapsed
  rw [if_neg h, turned]
  by_cases early : (now - since).toNat < 500
  · rw [if_pos early]
    exact if_neg (by omega)
  · rw [if_neg early]
    exact if_pos (by omega)

end Sys2Proof.Machine
end

section
namespace Sys2Proof.Machine

open Sys2Proof.Claims

/-! ## What the handings of a sample keep and make -/

theorem flmReports_hushed {b u : State} (h : Hushed b u) (rs : List Report) : Hushed b (flmReports rs u) := by
  have outside := outsideWarnings_of (flmReports_outside rs u)
  unfold Hushed
  rw [power_of_outsideWarnings outside, cal_of_outsideWarnings outside, svc_of_outsideWarnings outside]
  exact h

section

variable {s : State} {n : Fin 8} {p : Publication} {e : Delivery}

theorem mem_sampleUpdates (he : e ∈ sampleUpdates s n p) :
    ∃ i, s.bindings i = (.sender, sourceOf n) ∧ e = sgtUpdate i p.status p.value := by
  unfold sampleUpdates at he
  split at he
  · obtain ⟨i, bound, rfl⟩ := List.mem_map.mp he
    exact ⟨i, mem_boundTo.mp bound, rfl⟩
  · simp at he

theorem mem_sampleReports {isOut : Bool} (he : e ∈ sampleReports s n isOut) :
    e = flmReports (senderReports n s.senders[n].outOfRange isOut) := by
  unfold sampleReports at he
  split at he
  · simp at he
  · exact List.mem_singleton.mp he

theorem sampleHandings_outside {isOut : Bool} (he : e ∈ sampleUpdates s n p ++ sampleReports s n isOut) (u : State) :
    (e u).outsideSignals = u.outsideSignals := by
  rcases List.mem_append.mp he with he | he
  · obtain ⟨i, -, rfl⟩ := mem_sampleUpdates he
    exact sgtUpdate_outside i _ _ u
  · rw [mem_sampleReports he]
    exact outsideSignals_of (outsideWarnings_of (flmReports_outside _ u))

/-- The updates of a sample reach neither WRE nor Fault Memory where no rule looks at the sender's slots. -/
theorem sampleUpdates_unheard {b : State} (he : e ∈ sampleUpdates s n p)
    (rules : ∀ i, s.bindings i = (.sender, sourceOf n) → b.pwc.power = .run → rulesOn b.cal i = []) {u : State}
    (hu : Hushed b u) : Hushed b (e u) ∧ (e u).alarms = u.alarms := by
  obtain ⟨i, bound, rfl⟩ := mem_sampleUpdates he
  exact ⟨(hushed_closed b).alter ((hushed_closed b).setSlot i _ _ u hu), sgtAlter_alarms (hu.unheard (rules i bound))⟩

end

/-- A new publication reaches every slot bound to the sender (R32). -/
theorem senderSample_source {s : State} {n : Fin 8} {p : Publication} {isOut : Bool} {i : Fin 96}
    (news : s.senders[n].lastPublication ≠ some p) (bound : s.bindings i = (.sender, sourceOf n)) (x : SenderState) :
    (deliverAll (sampleUpdates s n p ++ sampleReports s n isOut) (s.setSender n x)).source i
      = (s.source i).updated p.status p.value s.pwc.uptime s.pwc.uptime := by
  have reports {e : Delivery} (he : e ∈ sampleReports s n isOut) (u : State) : (e u).source = u.source := by
    rw [mem_sampleReports he]
    exact flmReports_source _ u
  have uptime {u : State} (hu : u.outsideSignals = (s.setSender n x).outsideSignals) : u.pwc.uptime = s.pwc.uptime :=
    uptime_of_outside (s := s.setSender n x) hu
  rw [sampleUpdates, if_pos news]
  exact updates_source (I := fun u => u.outsideSignals = (s.setSender n x).outsideSignals) (boundTo_nodup _ _ _)
    (mem_boundTo.mpr bound) p.status p.value (fun _ h => h) (fun j u hu => (sgtUpdate_outside j _ _ u).trans hu)
    (fun e he u hu => (sampleHandings_outside (p := p) (List.mem_append_right _ he) u).trans hu) (fun _ => uptime)
    (fun e he u _ => congrFun (reports he u) i) rfl

/-- The report of a sample is the only thing that Fault Memory sees of it, where no rule looks at the slots (R30). -/
theorem senderSample_flm {s : State} {n : Fin 8} {p : Publication} {isOut : Bool} (x : SenderState)
    (unwatched : Unwatched s fun i => s.slots[i].kind = .sender ∧ s.slots[i].index = some (n.castLE (by omega))) :
    let t := deliverAll (sampleUpdates s n p ++ sampleReports s n isOut) (s.setSender n x)
    (s.senders[n].outOfRange = isOut → t.flm = s.flm)
      ∧ (s.senders[n].outOfRange ≠ isOut → ∃ u : State, u.flm = s.flm
        ∧ t.flm = (flmReports (senderReports n s.senders[n].outOfRange isOut) u).flm) := by
  have rules (i : Fin 96) (bound : s.bindings i = (.sender, sourceOf n)) (run : (s.setSender n x).pwc.power = .run) :
      rulesOn (s.setSender n x).cal i = [] :=
    rulesOn_of_unwatched unwatched ⟨congrArg Prod.fst bound, congrArg Prod.snd bound⟩ run
  have start : Hushed (s.setSender n x) (s.setSender n x) := Hushed.of_unwatched unwatched
  refine ⟨fun same => ?_, fun turned => ?_⟩
  · rw [sampleReports, if_pos same, List.append_nil]
    have kept := deliverAll_induct (ds := sampleUpdates s n p)
      (P := fun u => Hushed (s.setSender n x) u ∧ u.alarms = s.alarms) (fun _ h => h)
      (fun e he u ⟨hu, alarms⟩ => (sampleUpdates_unheard he rules hu).imp_right (·.trans alarms)) ⟨start, rfl⟩
    exact congrArg Prod.snd kept.2
  · rw [sampleReports, if_neg turned]
    obtain ⟨l, perm, run⟩ := deliverAll_delivered (sampleUpdates s n p
      ++ [flmReports (senderReports n s.senders[n].outOfRange isOut)]) (s.setSender n x)
    have hushed : ∀ e ∈ flmReports (senderReports n s.senders[n].outOfRange isOut) :: sampleUpdates s n p,
        ∀ u, Hushed (s.setSender n x) u → Hushed (s.setSender n x) (e u) := by
      intro e he u hu
      rcases List.mem_cons.mp he with rfl | he
      · exact flmReports_hushed hu _
      · exact (sampleUpdates_unheard he rules hu).1
    obtain ⟨u, -, before, after⟩ := run.single (view := State.alarms) (perm.trans List.perm_append_comm) (fun _ h => h)
      (fun _ => rfl) hushed (fun e he u hu => (sampleUpdates_unheard he rules hu).2) start
    exact ⟨u, congrArg Prod.snd before, congrArg Prod.snd after⟩

theorem exec_senderSample (n : Fin 8) (raw : BitVec 12) (s : State) :
    exec (.senderSample n raw) s = act s (senderSample n raw) := by
  rfl

/-- The diagnosis of a sample (R29). -/
theorem sampledSender_diagnosis {x y : SenderState} {isOut : Bool} {now : Time} {judged : Prop}
    (h : (isOut = true) ↔ judged)
    (diagnosis : (y.outOfRange, y.pendingTime) = diagnose x.outOfRange x.pendingTime isOut now) :
    ((x.outOfRange = true ↔ judged) → y.outOfRange = x.outOfRange ∧ y.pendingTime = none)
      ∧ (¬(x.outOfRange = true ↔ judged) →
        (x.pendingTime = none → y.outOfRange = x.outOfRange ∧ y.pendingTime = some now)
        ∧ ∀ since, x.pendingTime = some since →
          if (now - since).toNat < 500 then y.outOfRange = x.outOfRange ∧ y.pendingTime = some since
          else y.outOfRange = !x.outOfRange ∧ y.pendingTime = none) := by
  have agrees : (x.outOfRange = true ↔ judged) ↔ isOut = x.outOfRange := by
    rw [← h]
    exact ⟨fun e => Bool.eq_iff_iff.mpr e.symm, fun e => e ▸ Iff.rfl⟩
  rw [agrees]
  refine ⟨fun same => ?_, fun other => ⟨fun none => ?_, fun since some => ?_⟩⟩
  · rw [diagnose_agrees same] at diagnosis
    exact Prod.mk.inj diagnosis
  · rw [none, diagnose_first other] at diagnosis
    exact Prod.mk.inj diagnosis
  · rw [some, diagnose_pending other] at diagnosis
    split
    · next early =>
      rw [if_pos early] at diagnosis
      exact Prod.mk.inj diagnosis
    · next late =>
      rw [if_neg late] at diagnosis
      exact Prod.mk.inj diagnosis

/-- The report of a sample at Fault Memory, where no rule looks at the slots (R30). -/
theorem senderSample_reports {s : State} {n : Fin 8} {p : Publication} {isOut : Bool} (x : SenderState)
    (replayed : s.flm.replayDone = true)
    (unwatched : Unwatched s fun i => s.slots[i].kind = .sender ∧ s.slots[i].index = some (n.castLE (by omega))) :
    let t := deliverAll (sampleUpdates s n p ++ sampleReports s n isOut) (s.setSender n x)
    (s.senders[n].outOfRange = false → isOut = true → HasPlace s.flm.list (senderCode n) →
        ∃ e ∈ t.flm.list, e.code = senderCode n ∧ e.source = .sender n ∧ e.active = true)
      ∧ (s.senders[n].outOfRange = true → isOut = false → ∀ e ∈ t.flm.list, e.code = senderCode n → e.active = false)
      ∧ (isOut = s.senders[n].outOfRange → t.flm = s.flm) := by
  obtain ⟨silent, reported⟩ := senderSample_flm (p := p) x unwatched (isOut := isOut)
  refine ⟨fun was now place => ?_, fun was now => ?_, fun same => silent same.symm⟩
  · obtain ⟨u, before, after⟩ := reported (by rw [was, now]; exact nofun)
    rw [after, was, now]
    rw [← before] at replayed place
    exact flmReport_occurrence replayed place (senderCode_not_storedAtOnce n) (.sender n)
  · obtain ⟨u, before, after⟩ := reported (by rw [was, now]; exact nofun)
    rw [after, was, now]
    rw [← before] at replayed
    exact flmReport_ended replayed (senderCode n)

end Sys2Proof.Machine
end

open Sys2Proof Sys2Proof.Machine Sys2Proof.Claims in
/-- Settles O31: filter, diagnosis and curve by their own lemmas, the slots and Fault Memory by the one handing of the
sample that reaches each. -/
theorem senderSampleFiltersAndDiagnoses : Obligations.SenderSampleFiltersAndDiagnoses := by
  unfold Obligations.SenderSampleFiltersAndDiagnoses
  intro s n raw supply awake used
  dsimp only
  obtain ⟨x, taken⟩ : ∃ x, x = sampledSender s n raw := ⟨_, rfl⟩
  obtain ⟨f, filter⟩ : ∃ f, f = filtered s.cal.senders[n] s.senders[n].filtered raw := ⟨_, rfl⟩
  obtain ⟨p, formed⟩ : ∃ p, p = publicationOf s.cal.senders[n] x.outOfRange f := ⟨_, rfl⟩
  have new : x.lastPublication = some p := by
    rw [formed, filter, taken]
    rfl
  have known : x.filtered = some f := by
    rw [filter, taken]
    rfl
  have diagnosis : (x.outOfRange, x.pendingTime) = diagnose s.senders[n].outOfRange s.senders[n].pendingTime
      (s.cal.senders[n].outside f) s.pwc.uptime := by
    rw [filter, taken]
    rfl
  have sample := senderSample_eq (p := p) awake used raw (by rw [← taken]; exact new)
  rw [← taken] at sample
  obtain ⟨t, same⟩ : ∃ t, t = deliverAll (sampleUpdates s n p ++ sampleReports s n x.outOfRange) (s.setSender n x) :=
    ⟨_, rfl⟩
  have outside : t.outsideSignals = (s.setSender n x).outsideSignals := by
    rw [same]
    exact deliverAll_keeps State.outsideSignals (fun _ => rfl) (fun e he u => sampleHandings_outside he u) _
  have senders : t.senders = s.senders.set n x := senders_of_outside outside
  have own : t.senders[n] = x := by
    rw [senders]
    exact Vector.getElem_set_self _
  obtain ⟨agrees, differs⟩ := sampledSender_diagnosis (outside_iff s.cal.senders[n] f) diagnosis
  obtain ⟨base, store, power, switches, -, ccu, drs⟩ := signalFrame_of_outside outside
  rw [← same] at sample
  refine ⟨t, f, by rw [exec_senderSample, act_supplied supply, sample], ?_⟩
  rw [own]
  refine ⟨known, fun first => ?_, fun g before => ?_, agrees, differs, fun isOut => ?_, fun inside _ rising => ?_,
    fun news i bound => ?_, fun old => ?_, fun replayed unwatched => ?_, fun m other => ?_, base, store, power, switches,
    ccu, drs, (samePorts_of_outside outside : SamePorts (s.setSender n x) t)⟩
  · rw [filter, first]
    rfl
  · rw [filter, before]
    exact filtered_toNat _ g raw
  · rw [new, formed, isOut]
    rfl
  · refine ⟨_, ?_, curveValue_onCurve rising f⟩
    rw [new, formed, inside]
    rfl
  · rw [new] at news ⊢
    have source := senderSample_source (isOut := x.outOfRange) (Ne.symm news) (Prod.ext bound.1 bound.2) x
    rw [← same] at source
    cases p with
    | valid v => exact ⟨congrArg Slot.liveStatus source, congrArg Slot.liveValue source⟩
    | outOfRange => exact ⟨congrArg Slot.liveStatus source, (congrArg Slot.liveValue source :)⟩
  · rw [same, sampleUpdates, if_neg (by rw [← old, new]; exact fun h => h rfl)]
    refine deliverAll_keeps State.slots (fun _ => rfl) (fun e he u => ?_) _
    rw [mem_sampleReports he]
    exact flmReports_slots _ u
  · rw [same]
    exact senderSample_reports x replayed unwatched
  · rw [senders]
    exact Vector.getElem_set_ne _ _ fun e => other (Fin.ext e.symm)

section
/-! SUPPORT. An increment along its chain of FOLLOW channels (R43 to R46, R50, R51): which channels it reaches, what it
makes of each, and what it leaves. -/

namespace Sys2Proof.Machine

open Sys2Proof.Claims

/-! ## Chains -/

/-- An increment of a channel is a completion that the next channel, in mode FOLLOW with an OPEN gate, counts. -/
def State.passes (s : State) (c d : Fin 8) : Prop :=
  s.cal.channels[c].role = .noRole ∧ completes s.ccu.channels[c].count s.ccu.channels[c].setPoint = true
    ∧ s.follower c = some d ∧ s.ccu.channels[d].gateOpen = true

/-- An increment at one channel reaches another along FOLLOW channels. -/
inductive Chain (s : State) : Fin 8 → Fin 8 → Prop
  | here (c : Fin 8) : Chain s c c
  | next {c d k : Fin 8} : s.passes c d → Chain s d k → Chain s c k

/-- The channels above one, up to another, are in mode FOLLOW. -/
def Follows (cal : Calibration) (c k : Fin 8) : Prop :=
  c ≤ k ∧ ∀ j : Fin 8, c < j → j ≤ k → cal.channels[j].mode = .follow

theorem follower_eq_some {s : State} {c d : Fin 8} :
    s.follower c = some d ↔ d.val = c.val + 1 ∧ s.cal.channels[d].mode = .follow := by
  unfold State.follower
  rw [Option.filter_eq_some_iff, beq_iff_eq]
  refine and_congr_left fun _ => ⟨fun h => ?_, fun h => ?_⟩
  · unfold toIndex at h
    split at h
    · exact (congrArg Fin.val (Option.some.inj h)).symm
    · cases h
  · rw [← h]
    exact toIndex_val d

theorem State.passes.above {s : State} {c d : Fin 8} (h : s.passes c d) : c < d := by
  have := (follower_eq_some.mp h.2.2.1).1
  omega

theorem Chain.follows {s : State} {c k : Fin 8} (h : Chain s c k) : Follows s.cal c k := by
  induction h with
  | here c => exact ⟨le_refl c, fun j above below => absurd (lt_of_lt_of_le above below) (lt_irrefl c)⟩
  | @next c d k pass _ ih =>
    obtain ⟨up, follow⟩ := follower_eq_some.mp pass.2.2.1
    obtain ⟨below, rest⟩ := ih
    refine ⟨by omega, fun j above le => ?_⟩
    by_cases same : j = d
    · rw [same]
      exact follow
    · exact rest j (by omega) le

/-- A chain depends on the channels that follow its start alone. -/
theorem Chain.congr {s u : State} {c k : Fin 8} (h : Chain s c k) (cal : u.cal = s.cal)
    (same : ∀ j, c ≤ j → j ≤ k → u.ccu.channels[j] = s.ccu.channels[j]) : Chain u c k := by
  induction h with
  | here c => exact .here c
  | @next c d k pass rest ih =>
    obtain ⟨plain, full, follower, isOpen⟩ := pass
    obtain ⟨up, -⟩ := follower_eq_some.mp follower
    have below := rest.follows.1
    refine .next ⟨?_, ?_, ?_, ?_⟩ (ih fun j above => same j (by omega))
    · rw [cal]
      exact plain
    · rw [same c (le_refl c) (by omega)]
      exact full
    · unfold State.follower at follower ⊢
      rw [cal]
      exact follower
    · rw [same d (by omega) below]
      exact isOpen

/-! ## States that agree above a channel -/

/-- What stands beside the channels above one: the calibration, the uptime and those channels. -/
structure Agree (c : Fin 8) (s u : State) : Prop where
  cal : u.cal = s.cal
  uptime : u.pwc.uptime = s.pwc.uptime
  above : ∀ j, c < j → u.ccu.channels[j] = s.ccu.channels[j]

theorem setChannel_ne {c j : Fin 8} (h : j ≠ c) (x : Channel) (s : State) :
    (s.setChannel c x).ccu.channels[j] = s.ccu.channels[j] := by
  show (s.ccu.channels.set c.val x)[j.val] = s.ccu.channels[j.val]
  exact Vector.getElem_set_ne _ _ fun e => h (Fin.ext e.symm)

theorem Agree.refl (c : Fin 8) (s : State) : Agree c s s := ⟨rfl, rfl, fun _ _ => rfl⟩

theorem Agree.trans {c : Fin 8} {s u w : State} (h : Agree c s u) (g : Agree c u w) : Agree c s w where
  cal := g.cal.trans h.cal
  uptime := g.uptime.trans h.uptime
  above j above := (g.above j above).trans (h.above j above)

theorem Agree.setChannel (c : Fin 8) (x : Channel) (s : State) : Agree c s (s.setChannel c x) where
  cal := rfl
  uptime := rfl
  above _ above := setChannel_ne (ne_of_gt above) x s

theorem Agree.drawn {c : Fin 8} {s u : State} (h : Agree c s u) : Agree c s u.drawn := ⟨h.cal, h.uptime, h.above⟩

theorem ccuDeliver_agree (c k : Fin 8) (v : Value) (s : State) : Agree k s (ccuDeliver c v s) where
  cal := ccuDeliver_cal c v s
  uptime := uptime_of_outside (ccuDeliver_outside c v s)
  above j _ := by rw [ccuDeliver_ccu]

theorem publishCount_agree (c : Fin 8) (s : State) : Agree c s (publishCount c s) := by
  unfold publishCount
  split
  · exact (Agree.setChannel c _ s).trans (ccuDeliver_agree c c _ _)
  · exact Agree.refl c s

/-! ## One increment -/

/-- The record of a channel without a role after an increment, before it is published (R43, R45). -/
def Channel.incremented (x : Channel) : Channel :=
  if completes x.count x.setPoint then
    { x with count := 0, setPoint := x.pendingSetPoint.getD x.setPoint, pendingSetPoint := none }
  else { x with count := x.count + 1 }

section

variable {c : Fin 8} {s : State} (fuel : Nat)

theorem hasRole_iff {it : ChannelItem} : it.hasRole = true ↔ it.role ≠ .noRole := bne_iff_ne

theorem increment_role (role : s.cal.channels[c].role ≠ .noRole) : increment (fuel + 1) c s = roleIncrement c s := by
  unfold increment
  exact if_pos (hasRole_iff.mpr role)

/-- An increment that no other channel counts is published, and that is all. -/
theorem increment_stops (plain : s.cal.channels[c].role = .noRole) (stops : ∀ d, ¬s.passes c d) :
    increment (fuel + 1) c s = publishCount c (s.setChannel c s.ccu.channels[c].incremented)
      ∨ increment (fuel + 1) c s = publishCount c (s.setChannel c s.ccu.channels[c].incremented).drawn := by
  have free : ¬s.cal.channels[c].hasRole = true := fun role => hasRole_iff.mp role plain
  unfold increment Channel.incremented
  dsimp only
  rw [if_neg free]
  split
  · next full =>
    split
    · exact .inl rfl
    · next d follower =>
      have above : d ≠ c := by
        have := (follower_eq_some.mp follower).1
        intro same
        omega
      have closed {u : State} (same : u.ccu.channels[d] = s.ccu.channels[d]) :
          (if u.ccu.channels[d].gateOpen then increment fuel d u else u) = u := by
        rw [same]
        exact if_neg fun isOpen => stops d ⟨plain, full, follower, isOpen⟩
      have below : c < d := by
        have := (follower_eq_some.mp follower).1
        omega
      rcases deliverAll_two (publishCount c) (fun t => if t.ccu.channels[d].gateOpen then increment fuel d t else t) _
        with order | order <;> rw [order]
      · exact .inr (closed (((publishCount_agree c _).above d below).trans (setChannel_ne above _ s)))
      · exact .inr (congrArg (publishCount c) (closed (setChannel_ne above _ s)))
  · exact .inl rfl

/-- An increment that the next channel counts: published before it or after it. -/
theorem increment_passes {d : Fin 8} (pass : s.passes c d) :
    let u := (s.setChannel c s.ccu.channels[c].incremented).drawn
    increment (fuel + 1) c s = increment fuel d (publishCount c u)
      ∨ increment (fuel + 1) c s = publishCount c (increment fuel d u) := by
  obtain ⟨plain, full, follower, isOpen⟩ := pass
  have free : ¬s.cal.channels[c].hasRole = true := fun role => hasRole_iff.mp role plain
  have below : c < d := by
    have := (follower_eq_some.mp follower).1
    omega
  have counts {u : State} (agree : Agree c s u) :
      (if u.ccu.channels[d].gateOpen then increment fuel d u else u) = increment fuel d u := by
    rw [agree.above d below]
    exact if_pos isOpen
  have taken := (Agree.setChannel c s.ccu.channels[c].incremented s).drawn
  have whole : increment (fuel + 1) c s = deliverAll [publishCount c,
      fun t => if t.ccu.channels[d].gateOpen then increment fuel d t else t]
        (s.setChannel c s.ccu.channels[c].incremented) := by
    have follower' (x : Channel) : (s.setChannel c x).follower c = some d := follower
    rw [increment, if_neg free, Channel.incremented]
    dsimp only
    rw [if_pos full, if_pos full, follower']
  dsimp only
  rw [whole]
  exact (deliverAll_two (publishCount c) _ _).imp
    (fun order => order.trans (counts (taken.trans (publishCount_agree c _))))
    (fun order => order.trans (congrArg (publishCount c) (counts taken)))

end

/-! ## What the events at the other channels keep -/

/-- A property that the counting events at every channel but one keep. -/
structure Beside (k : Fin 8) (P : State → Prop) : Prop where
  drawn : ∀ s, P s → P s.drawn
  setChannel : ∀ j x s, j ≠ k → P s → P (s.setChannel j x)
  deliver : ∀ c v s, P s → P (ccuDeliver c v s)
  role : ∀ j s, j ≠ k → P s → P (roleIncrement j s)

/-- The rest of a chain is the same in states that agree above its start. -/
theorem Agree.chain_iff {c d k : Fin 8} {s u : State} (h : Agree c s u) (above : c < d) : Chain u d k ↔ Chain s d k :=
  ⟨fun chain => chain.congr h.cal.symm fun j le _ => (h.above j (lt_of_lt_of_le above le)).symm,
    fun chain => chain.congr h.cal fun j le _ => h.above j (lt_of_lt_of_le above le)⟩

namespace Beside

variable {k : Fin 8} {P : State → Prop} (h : Beside k P)
include h

theorem publish {j : Fin 8} (other : j ≠ k) {s : State} (hs : P s) : P (publishCount j s) := by
  unfold publishCount
  split
  · exact h.deliver _ _ _ (h.setChannel _ _ _ other hs)
  · exact hs

/-- An increment that does not reach a channel leaves what stands beside the other channels. -/
theorem increment {fuel : Nat} {c : Fin 8} {s : State} (apart : ¬Chain s c k) (hs : P s) :
    P (Machine.increment fuel c s) := by
  induction fuel generalizing c s with
  | zero => exact hs
  | succ fuel ih =>
    have other : c ≠ k := fun same => apart (same ▸ .here c)
    have taken := h.setChannel c s.ccu.channels[c].incremented s other hs
    by_cases role : s.cal.channels[c].role = .noRole
    · by_cases pass : ∃ d, s.passes c d
      · obtain ⟨d, pass⟩ := pass
        have agree := (Agree.setChannel c s.ccu.channels[c].incremented s).drawn
        have next {u : State} (hu : Agree c s u) : ¬Chain u d k := fun chain =>
          apart (.next pass ((hu.chain_iff pass.above).mp chain))
        rcases increment_passes fuel pass with order | order <;> rw [order]
        · exact ih (next (agree.trans (publishCount_agree c _))) (h.publish other (h.drawn _ taken))
        · exact h.publish other (ih (next agree) (h.drawn _ taken))
      · rcases increment_stops fuel role (not_exists.mp pass) with order | order <;> rw [order]
        · exact h.publish other taken
        · exact h.publish other (h.drawn _ taken)
    · rw [increment_role fuel role]
      exact h.role c s other hs

end Beside

/-- An increment that reaches a channel is an increment of that channel, with events beside it before and after. -/
theorem increment_reaches {k : Fin 8} {P Q : State → Prop} (hP : Beside k P) (hQ : Beside k Q) {fuel : Nat} {c : Fin 8}
    {s : State} (enough : 8 ≤ fuel + c.val) (chain : Chain s c k)
    (turn : ∀ u f, u.cal = s.cal → u.pwc.uptime = s.pwc.uptime → u.ccu.channels[k] = s.ccu.channels[k] → P u →
      Q (increment (f + 1) k u)) (hs : P s) : Q (increment fuel c s) := by
  induction fuel generalizing c s with
  | zero => omega
  | succ fuel ih =>
    cases chain with
    | here => exact turn s fuel rfl rfl rfl hs
    | @next _ d _ pass rest =>
      have above := pass.above
      have below : c < k := lt_of_lt_of_le above rest.follows.1
      have other : c ≠ k := ne_of_lt below
      have agree := (Agree.setChannel c s.ccu.channels[c].incremented s).drawn
      have taken := hP.drawn _ (hP.setChannel c s.ccu.channels[c].incremented s other hs)
      have next {u : State} (hu : Agree c s u) (start : P u) : Q (increment fuel d u) :=
        ih (by omega) ((hu.chain_iff above).mpr rest) (fun w g cal uptime same =>
          turn w g (cal.trans hu.cal) (uptime.trans hu.uptime) (same.trans (hu.above k below))) start
      rcases increment_passes fuel pass with order | order <;> rw [order]
      · exact next (agree.trans (publishCount_agree c _)) (hP.publish other taken)
      · exact hQ.publish other (next agree taken)

end Sys2Proof.Machine
end

section
/-! SUPPORT. What an increment makes of its own channel or role count (R43, R50, R51, R53). -/

namespace Sys2Proof.Machine

open Sys2Proof.Claims

/-! ## A channel without a role -/

/-- A record after its count is published (R53). -/
def Channel.published (x : Channel) (n : Count) (now : Time) : Channel :=
  if x.holdOff = none then { x with lastDelivery := some n, holdOff := startTimer now 10 } else x

theorem ccuDeliverCount_ccu (c : Fin 8) (holdOff : Timer) (s : State) : (ccuDeliverCount c holdOff s).ccu
    = (s.setChannel c { s.ccu.channels[c] with lastDelivery := some (s.count c), holdOff := holdOff }).ccu :=
  ccuDeliver_ccu c _ _

theorem publishCount_channel (c : Fin 8) (s : State) :
    (publishCount c s).ccu.channels[c] = s.ccu.channels[c].published (s.count c) s.pwc.uptime := by
  unfold publishCount Channel.published
  by_cases free : s.ccu.channels[c].holdOff = none
  · rw [if_pos (by rw [free]; rfl), if_pos free, ccuDeliverCount_ccu, setChannel_same]
    rfl
  · rw [if_neg (fun isNone => free (Option.isNone_iff_eq_none.mp isNone)), if_neg free]

theorem count_plain {s : State} {c : Fin 8} (plain : s.cal.channels[c].role = .noRole) :
    s.count c = s.ccu.channels[c].count := by
  unfold State.count
  rw [plain]

theorem completes_iff (count setPoint : Count) :
    completes count setPoint = true ↔ setPoint ≠ 0 ∧ setPoint.toNat ≤ count.toNat + 1 := by
  unfold completes
  rw [Bool.and_eq_true, bne_iff_ne, decide_eq_true_eq]
  exact Iff.rfl

theorem incremented_published (x : Channel) (now : Time) :
    x.incremented.published x.incremented.count now = counted x now := by
  have holdOff : x.incremented.holdOff = x.holdOff := by
    unfold Channel.incremented
    split <;> rfl
  unfold Channel.published counted
  rw [holdOff]
  unfold Channel.incremented
  simp only [completes_iff]

theorem cal_of_outsideChannels {s t : State} (h : t.outsideChannels = s.outsideChannels) : t.cal = s.cal :=
  (congrArg State.cal h :)

/-- A property that only the role's own increments can alter (R50, R51). -/
theorem roleIncrement_keeps {P : State → Prop} {j : Fin 8} {s : State} (drawn : ∀ u, P u → P u.drawn)
    (publish : ∀ u, P u → P (publishCount j u)) (save : ∀ u, P u → P (rstRequest .counterSave u))
    (odometer : ∀ r, s.cal.channels[j].role = .odometer → P s → P (s.putOdometer r))
    (hours : ∀ r, s.cal.channels[j].role = .hours → P s → P (s.putHours r)) (hs : P s) : P (roleIncrement j s) := by
  have changed (b : Bool) {u : State} (hu : P u) : P (roleChanged j b u) := by
    refine deliverAll_induct drawn (fun d hd w hw => ?_) hu
    rcases List.mem_cons.mp hd with rfl | hd
    · exact publish w hw
    · split at hd
      · rw [List.mem_singleton.mp hd]
        exact save w hw
      · simp at hd
  unfold roleIncrement
  split
  · exact hs
  · split
    · next role => exact changed _ (odometer _ role hs)
    · next role => exact changed _ (hours _ role hs)
    · exact hs

theorem publishCount_channel_ne {c k : Fin 8} (other : k ≠ c) (s : State) :
    (publishCount c s).ccu.channels[k] = s.ccu.channels[k] := by
  unfold publishCount
  split
  · exact (congrArg (fun x : Ccu => x.channels[k]) (ccuDeliverCount_ccu c _ s)).trans (setChannel_ne other _ s)
  · rfl

/-- The counting events at the other channels leave a channel. -/
theorem channel_beside (k : Fin 8) (x : Channel) : Beside k fun u => u.ccu.channels[k] = x where
  drawn _ h := h
  setChannel j y s other h := (setChannel_ne other.symm y s).trans h
  deliver c v s h := by
    rw [ccuDeliver_ccu]
    exact h
  role j s other h := roleIncrement_keeps (P := fun u => u.ccu.channels[k] = x) (fun _ h => h)
    (fun u hu => (publishCount_channel_ne other.symm u).trans hu) (fun _ h => h) (fun _ _ h => h) (fun _ _ h => h) h

/-- An increment of a channel without a role counts it and publishes it once (R43, R45, R53). -/
theorem increment_channel {k : Fin 8} {s : State} (plain : s.cal.channels[k].role = .noRole) (fuel : Nat) :
    (increment (fuel + 1) k s).ccu.channels[k] = counted s.ccu.channels[k] s.pwc.uptime := by
  have published {u : State} (hu : u = s.setChannel k s.ccu.channels[k].incremented
      ∨ u = (s.setChannel k s.ccu.channels[k].incremented).drawn) :
      (publishCount k u).ccu.channels[k] = counted s.ccu.channels[k] s.pwc.uptime := by
    have cal : u.cal = s.cal := by rcases hu with rfl | rfl <;> rfl
    have uptime : u.pwc.uptime = s.pwc.uptime := by rcases hu with rfl | rfl <;> rfl
    have record : u.ccu.channels[k] = s.ccu.channels[k].incremented := by
      rcases hu with rfl | rfl <;> exact setChannel_same k s _
    have count : u.count k = s.ccu.channels[k].incremented.count := by
      rw [count_plain (by rw [cal]; exact plain), record]
    rw [publishCount_channel, record, count, uptime, incremented_published]
  by_cases pass : ∃ d, s.passes k d
  · obtain ⟨d, pass⟩ := pass
    have apart {u : State} : ¬Chain u d k := fun chain => absurd chain.follows.1 (not_le_of_gt pass.above)
    rcases increment_passes fuel pass with order | order <;> rw [order]
    · exact ((channel_beside k _).increment apart rfl).trans (published (.inr rfl))
    · generalize start : (s.setChannel k s.ccu.channels[k].incremented).drawn = u
      have record : (increment fuel d u).ccu.channels[k] = u.ccu.channels[k] :=
        (channel_beside k _).increment apart rfl
      have outside : (increment fuel d u).outsideChannels = u.outsideChannels := (channels_closed _).increment rfl
      have cal : (increment fuel d u).cal = u.cal := cal_of_outsideChannels outside
      have plain : u.cal.channels[k].role = .noRole := by
        rw [← start]
        exact plain
      have count : (increment fuel d u).count k = u.count k := by
        rw [count_plain plain, count_plain (by rw [cal]; exact plain), record]
      rw [publishCount_channel, record, count, uptime_of_outsideChannels outside, ← publishCount_channel]
      exact published (.inr start.symm)
  · rcases increment_stops fuel plain (not_exists.mp pass) with order | order <;> rw [order]
    · exact published (.inl rfl)
    · exact published (.inr rfl)

end Sys2Proof.Machine
end

section
/-! SUPPORT. What an increment makes of a role count, and what the other increments leave of it (R50, R51). -/

namespace Sys2Proof.Machine

open Sys2Proof.Claims

/-! ## The role counts -/

/-- The count of a role with its increments since save. -/
def State.roleCount (s : State) : Role → RoleCount
  | .odometer => s.ccu.odometer
  | .hours => s.ccu.hours
  | .noRole => ⟨0, 0⟩

/-- Set the count of a role. -/
def State.putRole (s : State) (which : Role) (r : RoleCount) : State :=
  match which with
  | .odometer => s.putOdometer r
  | .hours => s.putHours r
  | .noRole => s

theorem roleCount_putRole {which : Role} (role : which ≠ .noRole) (r : RoleCount) (s : State) :
    (s.putRole which r).roleCount which = r := by
  cases which
  case noRole => exact absurd rfl role
  all_goals rfl

theorem roleCount_of_ccu {s t : State} (h : t.ccu = s.ccu) (which : Role) : t.roleCount which = s.roleCount which := by
  cases which
  case noRole => rfl
  case odometer => exact (congrArg Ccu.odometer h :)
  case hours => exact (congrArg Ccu.hours h :)

theorem setChannel_roleCount (c : Fin 8) (x : Channel) (s : State) (which : Role) :
    (s.setChannel c x).roleCount which = s.roleCount which := by
  cases which <;> rfl

/-- A role count as it stands after some events, under a calibration, with a save queued where one is due. -/
structure RoleStands (cal : Calibration) (which : Role) (r : RoleCount) (save : Prop) (u : State) : Prop where
  cal : u.cal = cal
  count : u.roleCount which = r
  saved : save → u.saveQueued

section

variable {cal : Calibration} {which : Role} {r : RoleCount} {save : Prop} {s : State}

theorem RoleStands.drawn (h : RoleStands cal which r save s) : RoleStands cal which r save s.drawn := by
  obtain ⟨hcal, count, saved⟩ := h
  exact ⟨hcal, (roleCount_of_ccu (s := s) rfl which).trans count, saved⟩

theorem RoleStands.setChannel (h : RoleStands cal which r save s) (c : Fin 8) (x : Channel) :
    RoleStands cal which r save (s.setChannel c x) :=
  ⟨h.cal, (setChannel_roleCount c x s which).trans h.count, h.saved⟩

theorem RoleStands.deliver (h : RoleStands cal which r save s) (c : Fin 8) (v : Value) :
    RoleStands cal which r save (ccuDeliver c v s) :=
  ⟨(ccuDeliver_cal c v s).trans h.cal, (roleCount_of_ccu (ccuDeliver_ccu c v s) which).trans h.count,
    fun due => saveQueued_closed.source (h.saved due)⟩

theorem RoleStands.publish (h : RoleStands cal which r save s) (c : Fin 8) :
    RoleStands cal which r save (publishCount c s) := by
  unfold publishCount
  split
  · exact (h.setChannel c _).deliver c _
  · exact h

theorem RoleStands.request (h : RoleStands cal which r save s) :
    RoleStands cal which r save (rstRequest .counterSave s) :=
  ⟨h.cal, (roleCount_of_ccu (s := s) rfl which).trans h.count, fun _ => rstRequest_saveQueued (.inr rfl)⟩

/-- The counting events at the other channels leave a role count, where one channel alone has the role. -/
theorem roleStands_beside {k : Fin 8} (alone : ∀ d : Fin 8, cal.channels[d].role = which → d = k)
    (r : RoleCount) (save : Prop) : Beside k (RoleStands cal which r save) where
  drawn _ h := h.drawn
  setChannel j x _ _ h := h.setChannel j x
  deliver c v _ h := h.deliver c v
  role j u other h := by
    have apart : u.cal.channels[j].role ≠ which := fun role => other (alone j (by rw [← h.cal]; exact role))
    refine roleIncrement_keeps (fun _ h => h.drawn) (fun _ h => h.publish j) (fun _ h => h.request)
      (fun n role g => ?_) (fun n role g => ?_) h
    · obtain ⟨hcal, count, saved⟩ := g
      refine ⟨hcal, ?_, saved⟩
      cases which
      case odometer => exact absurd role apart
      all_goals exact count
    · obtain ⟨hcal, count, saved⟩ := g
      refine ⟨hcal, ?_, saved⟩
      cases which
      case hours => exact absurd role apart
      all_goals exact count

/-- An increment of a role below saturation counts once, and requests a save where one is due (R50, R51). -/
theorem roleIncrement_stands {k : Fin 8} (role : which ≠ .noRole) (has : s.cal.channels[k].role = which)
    (below : (s.roleCount which).count ≠ BitVec.allOnes 32) :
    RoleStands s.cal which ((s.roleCount which).incremented which.saveEvery).1
      (((s.roleCount which).incremented which.saveEvery).2 = true) (roleIncrement k s) := by
  have count : s.count k = (s.roleCount which).count := by
    unfold State.count
    rw [has]
    cases which
    case noRole => exact absurd rfl role
    all_goals rfl
  have whole : roleIncrement k s = roleChanged k ((s.roleCount which).incremented which.saveEvery).2
      (s.putRole which ((s.roleCount which).incremented which.saveEvery).1) := by
    unfold roleIncrement
    rw [if_neg (by rw [count]; exact below), has]
    cases which
    case noRole => exact absurd rfl role
    all_goals rfl
  rw [whole]
  generalize step : (s.roleCount which).incremented which.saveEvery = x
  have start : RoleStands s.cal which x.1 False (s.putRole which x.1) :=
    ⟨by cases which <;> rfl, roleCount_putRole role x.1 s, False.elim⟩
  unfold roleChanged
  obtain ⟨r, save⟩ := x
  cases save
  case false =>
    rw [if_neg Bool.false_ne_true, deliverAll_one]
    obtain ⟨hcal, count, -⟩ := start.publish k
    exact ⟨hcal, count, fun due => absurd due Bool.false_ne_true⟩
  case true =>
    rw [if_pos rfl]
    have requested {u : State} (h : RoleStands s.cal which r False u) :
        RoleStands s.cal which r (true = true) (rstRequest .counterSave u) := by
      obtain ⟨hcal, count, -⟩ := h.request
      exact ⟨hcal, count, fun _ => rstRequest_saveQueued (.inr rfl)⟩
    rcases deliverAll_two (publishCount k) (rstRequest .counterSave) (s.putRole which r) with order | order
      <;> rw [order]
    · exact requested (start.drawn.publish k)
    · exact (requested start.drawn).publish k

theorem roleIncrement_full {k : Fin 8} (role : which ≠ .noRole) (has : s.cal.channels[k].role = which)
    (full : (s.roleCount which).count = BitVec.allOnes 32) : roleIncrement k s = s := by
  unfold roleIncrement State.count
  rw [has]
  cases which
  case noRole => exact absurd rfl role
  all_goals exact if_pos full

end

end Sys2Proof.Machine
end

section
/-! SUPPORT. The ticks of a millisecond, in any order (R39, R44, R48): every channel takes what reaches it once. -/

namespace Sys2Proof.Machine

open Sys2Proof.Claims

/-! ## The channels that a tick reaches -/

/-- A channel that counts the ticks: a TIMER channel with an OPEN gate (R44). -/
def State.timed (s : State) (c : Fin 8) : Prop :=
  s.cal.channels[c].mode = .timer ∧ s.ccu.channels[c].gateOpen = true

theorem mem_tickReceivers {s : State} {c : Fin 8} : c ∈ tickReceivers s
    ↔ s.timed c ∨ s.cal.channels[c].mode = .width ∧ s.ccu.channels[c].phase = .measuring := by
  unfold tickReceivers allEight State.timed
  rw [List.mem_filter, Bool.or_eq_true, Bool.and_eq_true, Bool.and_eq_true, beq_iff_eq, beq_iff_eq, beq_iff_eq]
  exact and_iff_right (List.mem_finRange c)

theorem tickReceivers_not_follow {s : State} {c : Fin 8} (h : c ∈ tickReceivers s) :
    s.cal.channels[c].mode ≠ .follow := by
  rcases mem_tickReceivers.mp h with ⟨mode, -⟩ | ⟨mode, -⟩ <;> rw [mode] <;> decide

/-- Two channels that do not FOLLOW do not begin one chain. -/
theorem follows_start {cal : Calibration} {c d k : Fin 8} (hc : Follows cal c k) (hd : Follows cal d k)
    (first : cal.channels[c].mode ≠ .follow) (second : cal.channels[d].mode ≠ .follow) : c = d := by
  obtain ⟨belowC, followC⟩ := hc
  obtain ⟨belowD, followD⟩ := hd
  rcases lt_trichotomy c d with less | same | more
  · exact absurd (followC d less belowD) second
  · exact same
  · exact absurd (followD c more belowC) first

theorem Follows.refl (cal : Calibration) (c : Fin 8) : Follows cal c c :=
  ⟨le_refl c, fun _ above below => absurd (lt_of_lt_of_le above below) (lt_irrefl c)⟩

theorem Follows.between {cal : Calibration} {c j k : Fin 8} (h : Follows cal c k) (above : c ≤ j) (below : j ≤ k) :
    Follows cal c j :=
  ⟨above, fun i up le => h.2 i up (le_trans le below)⟩

/-- A tick leaves what stands beside a channel that it does not reach. -/
theorem Beside.tick {k : Fin 8} {P : State → Prop} (h : Beside k P) {c : Fin 8} {u : State}
    (apart : ¬Follows u.cal c k) (hu : P u) : P (tickAt c u) := by
  have other : c ≠ k := fun same => apart (same ▸ .refl u.cal c)
  unfold tickAt
  dsimp only
  split
  · split
    · exact h.increment (fun chain => apart chain.follows) hu
    · exact hu
  · split
    · exact h.setChannel _ _ _ other hu
    · exact hu
  all_goals exact hu

theorem tickAt_cal (c : Fin 8) (u : State) : (tickAt c u).cal = u.cal := cal_of_outsideChannels (tickAt_outside c u)

theorem tickAt_uptime (c : Fin 8) (u : State) : (tickAt c u).pwc.uptime = u.pwc.uptime :=
  uptime_of_outsideChannels (tickAt_outside c u)

/-- A state in which the ticks at other channels have been taken. -/
structure Awaits (c : Fin 8) (s u : State) : Prop where
  cal : u.cal = s.cal
  uptime : u.pwc.uptime = s.pwc.uptime
  along : ∀ j, Follows s.cal c j → u.ccu.channels[j] = s.ccu.channels[j]

/-- What the one tick makes that reaches a channel stands after all of them. -/
theorem ticks_turn {s : State} {c k : Fin 8} {P Q : State → Prop} (hP : Beside k P) (hQ : Beside k Q)
    (receiver : c ∈ tickReceivers s) (reaches : Follows s.cal c k)
    (turn : ∀ u, Awaits c s u → P u → Q (tickAt c u)) (hs : P s) :
    Q (deliverAll ((tickReceivers s).map tickAt) s) := by
  have apart {d j : Fin 8} (other : d ∈ (tickReceivers s).erase c) (along : Follows s.cal c j) :
      ¬Follows s.cal d j := fun reach => by
    have same : c = d := follows_start along reach (tickReceivers_not_follow receiver)
      (tickReceivers_not_follow (List.mem_of_mem_erase other))
    have once : (tickReceivers s).Nodup := (List.nodup_finRange 8).filter _
    exact (List.Nodup.mem_erase_iff once).mp other |>.1 same.symm
  obtain ⟨l, perm, run⟩ := deliverAll_delivered ((tickReceivers s).map tickAt) s
  refine (run.turns (P := fun u => Awaits c s u ∧ P u) (Q := fun u => u.cal = s.cal ∧ Q u)
    (perm.trans ((List.perm_cons_erase receiver).map tickAt)) (fun u ⟨⟨cal, uptime, along⟩, hu⟩ =>
      ⟨⟨cal, uptime, along⟩, hP.drawn u hu⟩) (fun u ⟨cal, hu⟩ => ⟨cal, hQ.drawn u hu⟩) ?_ ?_ ?_
    ⟨⟨rfl, rfl, fun _ _ => rfl⟩, hs⟩).2
  · rintro e he u ⟨⟨cal, uptime, along⟩, hu⟩
    obtain ⟨d, other, rfl⟩ := List.mem_map.mp he
    refine ⟨⟨(tickAt_cal d u).trans cal, (tickAt_uptime d u).trans uptime, fun j reach => ?_⟩, ?_⟩
    · exact (channel_beside j _).tick (by rw [cal]; exact apart other reach) (along j reach)
    · exact hP.tick (by rw [cal]; exact apart other reaches) hu
  · rintro e he u ⟨cal, hu⟩
    obtain ⟨d, other, rfl⟩ := List.mem_map.mp he
    exact ⟨(tickAt_cal d u).trans cal, hQ.tick (by rw [cal]; exact apart other reaches) hu⟩
  · rintro u ⟨awaits, hu⟩
    exact ⟨(tickAt_cal c u).trans awaits.cal, turn u awaits hu⟩

/-- What no tick reaches stands after all of them. -/
theorem ticks_pass {s : State} {k : Fin 8} {P : State → Prop} (hP : Beside k P)
    (apart : ∀ c ∈ tickReceivers s, ¬Follows s.cal c k) (hs : P s) :
    P (deliverAll ((tickReceivers s).map tickAt) s) := by
  refine (deliverAll_induct (P := fun u => u.cal = s.cal ∧ P u) (fun u ⟨cal, hu⟩ => ⟨cal, hP.drawn u hu⟩) ?_
    ⟨rfl, hs⟩).2
  rintro e he u ⟨cal, hu⟩
  obtain ⟨c, receiver, rfl⟩ := List.mem_map.mp he
  exact ⟨(tickAt_cal c u).trans cal, hP.tick (by rw [cal]; exact apart c receiver) hu⟩

/-! ## The chains from the ticks -/

section

variable {s : State} {k : Fin 8}

theorem tickAt_timed {c : Fin 8} (h : s.timed c) {u : State} (awaits : Awaits c s u) :
    tickAt c u = increment 8 c u := by
  obtain ⟨mode, isOpen⟩ := h
  unfold tickAt
  dsimp only
  rw [awaits.cal, mode]
  dsimp only
  rw [awaits.along c (.refl s.cal c), if_pos isOpen]
  rfl

theorem Awaits.chain_iff {c : Fin 8} {u : State} (h : Awaits c s u) (reaches : Follows s.cal c k) :
    Chain u c k ↔ Chain s c k := by
  refine ⟨fun chain => chain.congr h.cal.symm fun j above below => ?_,
    fun chain => chain.congr h.cal fun j above below => ?_⟩
  · exact (h.along j (reaches.between above below)).symm
  · exact h.along j (reaches.between above below)

/-- A channel or role count that a tick reaches takes one increment. -/
theorem ticks_count {P Q : State → Prop} (hP : Beside k P) (hQ : Beside k Q) {c : Fin 8} (timed : s.timed c)
    (chain : Chain s c k)
    (turn : ∀ u f, u.cal = s.cal → u.pwc.uptime = s.pwc.uptime → u.ccu.channels[k] = s.ccu.channels[k] → P u →
      Q (increment (f + 1) k u)) (hs : P s) : Q (deliverAll ((tickReceivers s).map tickAt) s) := by
  refine ticks_turn hP hQ (mem_tickReceivers.mpr (.inl timed)) chain.follows (fun u awaits hu => ?_) hs
  rw [tickAt_timed timed awaits]
  have reaches := (awaits.chain_iff chain.follows).mpr chain
  refine increment_reaches hP hQ (by omega) reaches (fun w f cal uptime same => ?_) hu
  exact turn w f (cal.trans awaits.cal) (uptime.trans awaits.uptime) (same.trans (awaits.along k chain.follows))

/-- A channel or role count that no chain of increments reaches stays, unless the channel's own measurement alters
it. -/
theorem ticks_leave {P : State → Prop} (hP : Beside k P) (apart : ∀ c, s.timed c → ¬Chain s c k)
    (measure : s.cal.channels[k].mode = .width → ∀ x u, P u → P (u.setChannel k x)) (hs : P s) :
    P (deliverAll ((tickReceivers s).map tickAt) s) := by
  by_cases reach : ∃ c ∈ tickReceivers s, Follows s.cal c k
  · obtain ⟨c, receiver, reaches⟩ := reach
    refine ticks_turn hP hP receiver reaches (fun u awaits hu => ?_) hs
    rcases mem_tickReceivers.mp receiver with timed | ⟨mode, -⟩
    · rw [tickAt_timed timed awaits]
      exact hP.increment (fun chain => apart c timed ((awaits.chain_iff reaches).mp chain)) hu
    · unfold tickAt
      dsimp only
      rw [awaits.cal, mode]
      dsimp only
      split
      · by_cases same : c = k
        · subst same
          exact measure mode _ _ hu
        · exact hP.setChannel _ _ _ same hu
      · exact hu
  · exact ticks_pass hP (fun c receiver reaches => reach ⟨c, receiver, reaches⟩) hs

/-- A WIDTH channel counts the ticks while it measures (R48). -/
theorem ticks_width (width : s.cal.channels[k].mode = .width) :
    (deliverAll ((tickReceivers s).map tickAt) s).ccu.channels[k]
      = if s.ccu.channels[k].phase = .measuring then
          { s.ccu.channels[k] with count := satInc s.ccu.channels[k].count }
        else s.ccu.channels[k] := by
  by_cases measures : s.ccu.channels[k].phase = .measuring
  · rw [if_pos measures]
    refine ticks_turn (channel_beside k s.ccu.channels[k]) (channel_beside k _)
      (mem_tickReceivers.mpr (.inr ⟨width, measures⟩)) (.refl s.cal k) (fun u awaits same => ?_) rfl
    unfold tickAt
    dsimp only
    rw [awaits.cal, width]
    dsimp only
    rw [same, if_pos measures, setChannel_same]
  · rw [if_neg measures]
    refine ticks_pass (channel_beside k _) (fun c receiver reaches => ?_) rfl
    have same : c = k := by
      by_contra other
      have follow := reaches.2 k (lt_of_le_of_ne reaches.1 other) (le_refl k)
      rw [width] at follow
      exact absurd follow (by decide)
    subst same
    rcases mem_tickReceivers.mp receiver with ⟨mode, -⟩ | ⟨-, phase⟩
    · rw [width] at mode
      exact absurd mode (by decide)
    · exact measures phase

/-- A channel in mode OFF or RATE does nothing at the ticks (R44, R47). -/
theorem ticks_idle (idle : s.cal.channels[k].mode = .off ∨ s.cal.channels[k].mode = .rate) :
    (deliverAll ((tickReceivers s).map tickAt) s).ccu.channels[k] = s.ccu.channels[k] := by
  refine ticks_leave (channel_beside k _) (fun c timed chain => ?_) (fun width => ?_) rfl
  case refine_2 => rcases idle with h | h <;> rw [h] at width <;> exact absurd width (by decide)
  by_cases same : c = k
  · subst same
    rcases idle with h | h <;> rw [State.timed, h] at timed <;> exact absurd timed.1 (by decide)
  · have follow := chain.follows.2 k (lt_of_le_of_ne chain.follows.1 same) (le_refl k)
    rcases idle with h | h <;> rw [h] at follow <;> exact absurd follow (by decide)

end

end Sys2Proof.Machine
end

section
/-! SUPPORT. The increments of a millisecond as the specification counts them (R43 to R46, R50, R51). -/

namespace Sys2Proof.Machine

open Sys2Proof.Claims

theorem Chain.append {s : State} {c j k : Fin 8} (h : Chain s c j) (pass : s.passes j k) : Chain s c k := by
  induction h with
  | here c => exact .next pass (.here k)
  | next first _ ih => exact .next first (ih pass)

theorem Chain.last {s : State} {c k : Fin 8} (h : Chain s c k) : c = k ∨ ∃ j, Chain s c j ∧ s.passes j k := by
  induction h with
  | here c => exact .inl rfl
  | @next c d k first _ ih =>
    rcases ih with rfl | ⟨j, chain, pass⟩
    · exact .inr ⟨c, .here c, first⟩
    · exact .inr ⟨j, .next first chain, pass⟩


/-- A FOLLOW channel makes an increment when the channel below passes one on. -/
theorem increments_follow {s : State} {first : Fin 8 → Prop} {k : Nat} (h : k + 1 < 8)
    (follow : s.cal.channels[k + 1].mode = .follow) :
    Increments s first (k + 1) h ↔ s.passes ⟨k, by omega⟩ ⟨k + 1, h⟩ ∧ Increments s first k (by omega) := by
  have next : s.follower ⟨k, by omega⟩ = some ⟨k + 1, h⟩ := follower_eq_some.mpr ⟨rfl, follow⟩
  rw [Increments, if_pos follow, State.passes, completes_iff]
  exact ⟨fun ⟨isOpen, plain, set, full, rest⟩ => ⟨⟨plain, ⟨set, full⟩, next, isOpen⟩, rest⟩,
    fun ⟨⟨plain, ⟨set, full⟩, _, isOpen⟩, rest⟩ => ⟨isOpen, plain, set, full, rest⟩⟩

theorem increments_first {s : State} {first : Fin 8 → Prop} {k : Nat} (h : k + 1 < 8)
    (starts : s.cal.channels[k + 1].mode ≠ .follow) : Increments s first (k + 1) h ↔ first ⟨k + 1, h⟩ := by
  rw [Increments, if_neg starts]

/-- The channels that make an increment are those on the chains from the channels that count first. -/
theorem increments_iff {s : State} {first : Fin 8 → Prop} (starts : ∀ c, first c → s.cal.channels[c].mode ≠ .follow)
    (k : Nat) (h : k < 8) : Increments s first k h ↔ ∃ c, first c ∧ Chain s c ⟨k, h⟩ := by
  induction k with
  | zero =>
    refine ⟨fun here => ⟨_, here, .here _⟩, fun ⟨c, here, chain⟩ => ?_⟩
    have same : c = ⟨0, h⟩ := Fin.ext (Nat.le_zero.mp chain.follows.1)
    subst same
    exact here
  | succ k ih =>
    by_cases follow : s.cal.channels[k + 1].mode = .follow
    · rw [increments_follow h follow, ih]
      constructor
      · rintro ⟨pass, c, here, chain⟩
        exact ⟨c, here, chain.append pass⟩
      · rintro ⟨c, here, chain⟩
        rcases chain.last with rfl | ⟨j, chain, pass⟩
        · exact absurd follow (starts _ here)
        · have below : j = ⟨k, by omega⟩ := Fin.ext (Nat.succ.inj (follower_eq_some.mp pass.2.2.1).1).symm
          subst below
          exact ⟨pass, c, here, chain⟩
    · rw [increments_first h follow]
      refine ⟨fun here => ⟨_, here, .here _⟩, fun ⟨c, here, chain⟩ => ?_⟩
      rcases chain.last with rfl | ⟨j, -, pass⟩
      · exact here
      · exact absurd (follower_eq_some.mp pass.2.2.1).2 follow

/-- The channels that make an increment at the ticks of a millisecond. -/
theorem timed_increments {s : State} (k : Fin 8) :
    Increments s s.timed k.val k.isLt ↔ ∃ c, s.timed c ∧ Chain s c k :=
  increments_iff (fun c timed => by rw [timed.1]; decide) k.val k.isLt

/-- What the ticks of a millisecond leave of a role count (R50, R51). -/
theorem ticks_role {s : State} {which : Role} {k : Fin 8} (role : which ≠ .noRole)
    (alone : ∀ d : Fin 8, s.cal.channels[d].role = which ↔ d = k) :
    let before := s.roleCount which
    let t := deliverAll ((tickReceivers s).map tickAt) s
    (Increments s s.timed k.val k.isLt → before.count ≠ BitVec.allOnes 32 →
      (t.roleCount which).count = before.count + 1
        ∧ (if before.sinceSave + 1 < which.saveEvery then (t.roleCount which).sinceSave = before.sinceSave + 1
          else (t.roleCount which).sinceSave = 0 ∧ Job.counterSave ∈ t.rst.queue))
    ∧ (¬Increments s s.timed k.val k.isLt ∨ before.count = BitVec.allOnes 32 → t.roleCount which = before) := by
  have beside (r : RoleCount) (save : Prop) := roleStands_beside (fun d has => (alone d).mp has) r save
  have has {u : State} (cal : u.cal = s.cal) : u.cal.channels[k].role = which := by
    rw [cal]
    exact (alone k).mpr rfl
  have start : RoleStands s.cal which (s.roleCount which) False s := ⟨rfl, rfl, False.elim⟩
  refine ⟨fun made below => ?_, fun stays => ?_⟩
  · obtain ⟨c, timed, chain⟩ := (timed_increments k).mp made
    have stands := ticks_count (beside _ False) (beside ((s.roleCount which).incremented which.saveEvery).1
      (((s.roleCount which).incremented which.saveEvery).2 = true)) timed chain (fun u f cal _ _ hu => by
        rw [increment_role f (by rw [has cal]; exact role), ← cal, ← hu.count]
        exact roleIncrement_stands role (has cal) (by rw [hu.count]; exact below)) start
    obtain ⟨-, count, saved⟩ := stands
    rw [count]
    unfold RoleCount.incremented at saved ⊢
    split
    · exact ⟨rfl, rfl⟩
    · next due => exact ⟨rfl, rfl, saved (by rw [if_neg due])⟩
  · by_cases made : Increments s s.timed k.val k.isLt
    · have full := stays.resolve_left (not_not_intro made)
      obtain ⟨c, timed, chain⟩ := (timed_increments k).mp made
      refine (ticks_count (beside _ False) (beside _ False) timed chain (fun u f cal _ _ hu => ?_) start).count
      rw [increment_role f (by rw [has cal]; exact role),
        roleIncrement_full role (has cal) (by rw [hu.count]; exact full)]
      exact hu
    · rw [timed_increments] at made
      exact (ticks_leave (beside _ False) (fun c timed chain => made ⟨c, timed, chain⟩)
        (fun _ x u hu => hu.setChannel k x) start).count

/-- The ticks of a millisecond leave the counts of the specification. -/
theorem ticks_counts (s : State) :
    CountsAfter s (deliverAll ((tickReceivers s).map tickAt) s) s.timed := by
  have uptime : (deliverAll ((tickReceivers s).map tickAt) s).pwc.uptime = s.pwc.uptime := by
    refine deliverAll_keeps (fun u : State => u.pwc.uptime) (fun _ => rfl) (fun d hd u => ?_) s
    obtain ⟨c, -, rfl⟩ := List.mem_map.mp hd
    exact tickAt_uptime c u
  refine ⟨fun k counts plain => ⟨fun h => ?_, fun h => ?_⟩, ?_, ?_⟩
  · obtain ⟨c, timed, chain⟩ := (timed_increments k).mp h
    rw [uptime]
    refine ticks_count (channel_beside k s.ccu.channels[k]) (channel_beside k _) timed chain
      (fun u f cal up same _ => ?_) rfl
    rw [increment_channel (by rw [cal]; exact plain), same, up]
  · rw [timed_increments] at h
    refine ticks_leave (channel_beside k _) (fun c timed chain => h ⟨c, timed, chain⟩) (fun width => ?_) rfl
    rw [width] at counts
    exact absurd counts (by decide)
  · exact fun k alone => ticks_role (which := .odometer) (by decide) alone
  · exact fun k alone => ticks_role (which := .hours) (by decide) alone

end Sys2Proof.Machine
end

section
/-! SUPPORT. A millisecond takes the debounced changes of the one before first (R20, R202): what a change leaves due. -/

namespace Sys2Proof.Machine

open Sys2Proof.Claims

/-- What decides whether a debounced change is due, and whether the part takes it. -/
structure DebounceView where
  supply : Bool
  held : Bool
  ignition : Nat
  cal : Calibration
  switches : Vector SwitchState 32

/-- The state seen by its debounced changes. -/
def State.debounceView (s : State) : DebounceView :=
  ⟨s.supply, s.pwc.held, s.pwc.ignitionDisagreement, s.cal, s.switches⟩

/-- No switch input has a full disagreement count. -/
def State.noneFull (s : State) : Prop := ∀ n : Fin 32, s.switches[n].disagreement ≠ s.cal.switches[n].debounce.ms

/-- The part runs, and no debounced change is due. -/
structure Settled (s : State) : Prop where
  supply : s.supply = true
  held : s.pwc.held = false
  switches : s.noneFull
  ignition : s.pwc.ignitionDisagreement ≠ 50

theorem Settled.of_view {s t : State} (h : Settled s) (same : t.debounceView = s.debounceView) : Settled t := by
  have cal : t.cal = s.cal := (congrArg DebounceView.cal same :)
  have switches : t.switches = s.switches := (congrArg DebounceView.switches same :)
  refine ⟨(congrArg DebounceView.supply same :).trans h.supply, (congrArg DebounceView.held same :).trans h.held,
    fun n => ?_, fun full => h.ignition ((congrArg DebounceView.ignition same :).symm.trans full)⟩
  rw [cal, switches]
  exact h.switches n

theorem debounce_pos (x : DebounceClass) : x.ms ≠ 0 := by
  cases x <;> decide

theorem countFull_iff {s : State} {n : Fin 32} :
    s.countFull n = true ↔ s.switches[n].disagreement = s.cal.switches[n].debounce.ms := beq_iff_eq

theorem changesDue_settled {s : State} (h : Settled s) : changesDue s = [] := by
  have none : allSwitches.filter s.countFull = [] :=
    List.filter_eq_nil_iff.mpr fun n _ full => h.switches n (countFull_iff.mp full)
  unfold changesDue
  rw [none, if_neg (show s.pwc.ignitionDisagreement ≠ ignitionClass from h.ignition)]
  rfl

/-- A millisecond without a change of the one before is its samples alone. -/
theorem tick_settled {s : State} (h : Settled s) (levels : BitVec 32) (ign : Bool) :
    exec (.millisecondTick levels ign) s
      = .next (sampleMillisecond ign { s with pins := { s.pins with switches := levels, ign := ign } }) := by
  show act s (tick levels ign) = _
  rw [act_supplied h.supply, tick, h.held, changesDue_settled h]
  rfl

/-- A millisecond with one change of the one before is that change, and the millisecond of what it leaves. -/
theorem tick_change {s u : State} {d : Delivery} (supply : s.supply = true) (held : s.pwc.held = false)
    (due : changesDue s = [d]) (leaves : d s = u) (settled : Settled u) (levels : BitVec 32) (ign : Bool) :
    exec (.millisecondTick levels ign) s = exec (.millisecondTick levels ign) u := by
  rw [tick_settled settled]
  show act s (tick levels ign) = _
  rw [act_supplied supply, tick, held, due, deliverAll_one, leaves]
  rfl

/-! ## A debounced change leaves none due -/

section

variable {s t : State}

theorem view_of_outsideDeliveries (h : t.outsideDeliveries = s.outsideDeliveries) :
    t.debounceView = s.debounceView := (congrArg State.debounceView h :)

theorem view_of_outside (h : t.outsideSignals = s.outsideSignals) : t.debounceView = s.debounceView :=
  (congrArg State.debounceView h :)

theorem view_of_outsideRun (h : t.outsideRun = s.outsideRun) : t.debounceView = s.debounceView :=
  (congrArg State.debounceView h :)

theorem view_of_outsideOff (h : t.outsideOff = s.outsideOff) : t.debounceView = s.debounceView :=
  (congrArg State.debounceView h :)

theorem Settled.enterSleep (h : Settled s) : Settled (enterSleep s) := by
  have outside := tableAsleep_outside s
  rw [enterSleep_eq]
  generalize tableAsleep s = w at outside ⊢
  have asleep : Settled w := h.of_view (congrArg State.debounceView outside :)
  refine ⟨asleep.supply, asleep.held, fun n => ?_, asleep.ignition⟩
  show (swiSleep w).switches[n].disagreement ≠ w.cal.switches[n].debounce.ms
  rw [swiSleep_switch]
  split
  · exact asleep.switches n
  · exact (debounce_pos _).symm

theorem Settled.handStoreIdle (h : Settled s) : Settled (handStoreIdle s) := by
  have set (x : Bool) : Settled (s.setPwc { s.pwc with storeIdle := x }) := h.of_view rfl
  unfold Machine.handStoreIdle sleepDecision
  dsimp only
  split
  · exact h
  · split
    · split
      · exact (set _).enterSleep
      · exact set _
    · exact set _

/-- The first sample starts every count anew (R21). -/
theorem firstSample_settled (supply : s.supply = true) (held : s.pwc.held = false)
    (ignition : s.pwc.ignitionDisagreement ≠ 50) : Settled (firstSample s) := by
  have zero (n : Fin 32) : (firstSample s).switches[n].disagreement = 0 := by rw [(firstSample_eq s n).1]
  rw [(firstSample_eq s 0).2]
  generalize (firstSample s).switches = sampled at zero ⊢
  refine ⟨supply, held, fun n => ?_, ignition⟩
  rw [zero n]
  exact (debounce_pos _).symm

theorem wakeSources_outside : ∀ d ∈ wakeSources, ∀ u : State, (d u).outsideDeliveries = u.outsideDeliveries := by
  intro d hd u
  unfold wakeSources switchUpdates at hd
  rcases List.mem_append.mp hd with hd | hd
  · obtain ⟨n, -, rfl⟩ := List.mem_map.mp hd
    exact outsideDeliveries_of_doors (outsideDoors_of (switchUpdate_outside n u))
  · rcases List.mem_cons.mp hd with rfl | hd
    · exact (deliveries_closed_channels u.outsideDeliveries).wake rfl
    · rw [List.mem_singleton.mp hd]
      exact (deliveries_closed_doors u.outsideDeliveries).wake rfl

theorem wakeAfterrun_settled (supply : s.supply = true) (held : s.pwc.held = false)
    (ignition : s.pwc.ignitionDisagreement ≠ 50) : Settled (wakeAfterrun s) := by
  have first : Settled (firstSample (toAfterrun s)) := firstSample_settled supply held ignition
  unfold wakeAfterrun
  generalize firstSample (toAfterrun s) = w at first ⊢
  refine Settled.handStoreIdle (first.of_view (view_of_outsideDeliveries ?_))
  refine deliverAll_keeps State.outsideDeliveries (fun _ => rfl) (fun d hd u => ?_) _
  rcases List.mem_cons.mp hd with rfl | hd
  · exact outsideDeliveries_of_doors (outsideDoors_of (opuPower_outsideSignals .afterrun u))
  · exact wakeSources_outside d hd u

/-- A debounced change of a switch input leaves no change due where it was the only one. -/
theorem switchChange_settled {n : Fin 32} (supply : s.supply = true) (held : s.pwc.held = false)
    (others : ∀ m, m ≠ n → s.switches[m].disagreement ≠ s.cal.switches[m].debounce.ms)
    (ignition : s.pwc.ignitionDisagreement ≠ 50) (full : s.countFull n = true) : Settled (switchChange n s) := by
  have taken : Settled (switchTaken n s) := by
    refine ⟨supply, held, fun m => ?_, ignition⟩
    show (s.switches.set n.val _)[m.val].disagreement ≠ _
    by_cases same : m = n
    · subst same
      rw [Vector.getElem_set_self]
      exact (debounce_pos _).symm
    · rw [Vector.getElem_set_ne _ _ fun e => same (Fin.ext e.symm)]
      exact others m same
  unfold switchChange
  rw [if_pos full]
  dsimp only
  split
  · exact taken.of_view (view_of_outside (switchUpdate_outside n _))
  · exact taken.of_view (view_of_outsideDeliveries (deliverAll_keeps State.outsideDeliveries (fun _ => rfl)
      (switchUsers_outside n _) _))
  · exact taken.of_view (view_of_outsideDeliveries (deliverAll_keeps State.outsideDeliveries (fun _ => rfl)
      (switchUsers_outside n _) _))
  · split
    · exact wakeAfterrun_settled taken.supply taken.held taken.ignition
    · exact taken

theorem onGroups_settled (run : s.pwc.power = .run) (h : Settled s) (wake rstrun : Bool) :
    Settled (deliverGroups (onGroups wake rstrun) onHandings s) :=
  h.of_view (view_of_outsideRun ((outsideRun_closed run).delivered rfl))

/-- A debounced change of the ignition state leaves no change due where it was the only one. -/
theorem ignitionChange_settled (supply : s.supply = true) (held : s.pwc.held = false) (switches : s.noneFull)
    (full : s.pwc.ignitionDisagreement = 50) : Settled (ignitionChange s) := by
  have taken (b : Bool) : Settled (s.setPwc { s.pwc with ignition := b, ignitionDisagreement := 0 }) :=
    ⟨supply, held, switches, by show (0 : Nat) ≠ 50; decide⟩
  unfold ignitionChange
  rw [if_pos (show s.pwc.ignitionDisagreement = ignitionClass from full)]
  dsimp only
  generalize (!s.pwc.ignition) = b
  have taken := taken b
  generalize s.setPwc { s.pwc with ignition := b, ignitionDisagreement := 0 } = u at taken
  split
  · rw [ignitionOff_eq]
    have off : Settled (toAfterrun u) := taken.of_view rfl
    exact off.of_view (view_of_outsideOff ((outsideOff_closed _).kept rfl))
  · rw [ignitionOn_eq]
    exact onGroups_settled (s := toRun u) rfl (taken.of_view rfl) _ _
  · rw [wakeRun_eq]
    have first : Settled (firstSample (toRun u)) := firstSample_settled taken.supply taken.held taken.ignition
    exact (onGroups_settled rfl first _ _).handStoreIdle
  all_goals exact taken

theorem changesDue_one {n : Fin 32} (full : ∀ m : Fin 32, s.countFull m = true ↔ m = n)
    (ignition : s.pwc.ignitionDisagreement ≠ 50) : changesDue s = [switchChange n] := by
  have one : allSwitches.filter s.countFull = [n] := by
    have same : s.countFull = fun m => m == n := funext fun m => by
      rw [Bool.eq_iff_iff, full m, beq_iff_eq]
    rw [same, List.filter_beq, allSwitches, List.count_eq_one_of_mem (List.nodup_finRange 32) (List.mem_finRange n)]
    rfl
  unfold changesDue
  rw [one, if_neg (show s.pwc.ignitionDisagreement ≠ ignitionClass from ignition)]
  rfl

theorem changesDue_ignition (switches : s.noneFull) (full : s.pwc.ignitionDisagreement = 50) :
    changesDue s = [ignitionChange] := by
  have none : allSwitches.filter s.countFull = [] :=
    List.filter_eq_nil_iff.mpr fun n _ full => switches n (countFull_iff.mp full)
  unfold changesDue
  rw [none, if_pos (show s.pwc.ignitionDisagreement = ignitionClass from full)]
  rfl

end

end Sys2Proof.Machine
end

section
/-! SUPPORT. A millisecond without a debounced change (R20, R39, R44, R201, R202). -/

namespace Sys2Proof.Machine

open Sys2Proof.Claims

/-- A sample of an input (R20, R202): the count of samples that disagree. -/
theorem sampledSwitch_eq (x : SwitchState) (seen : Bool) :
    sampledSwitch x seen = { x with disagreement := if seen = x.active then 0 else x.disagreement + 1 } := by
  unfold sampledSwitch
  split <;> rfl

theorem sampleIgnition_eq (ign : Bool) (s : State) : sampleIgnition ign s = s.setPwc { s.pwc with
    ignitionDisagreement := if ign = s.pwc.ignition then 0 else s.pwc.ignitionDisagreement + 1 } := by
  unfold sampleIgnition
  rw [sampledSwitch_eq]

theorem sampleSwitches_eq (s : State) : sampleSwitches s = { s with switches := (sampleSwitches s).switches } := by
  unfold sampleSwitches
  rfl

theorem sampleSwitches_switch (s : State) (n : Fin 32) : (sampleSwitches s).switches[n]
    = if s.pwc.power = .sleep ∧ ¬∃ d : Fin 4, s.cal.doors[d].present = true ∧ s.cal.doors[d].closedInput = n then
        s.switches[n]
      else { s.switches[n] with
        disagreement := if s.sampled n = s.switches[n].active then 0 else s.switches[n].disagreement + 1 } := by
  rw [sampleSwitches, Fin.getElem_fin, Vector.getElem_ofFn]
  simp only [Bool.and_eq_true, decide_eq_true_eq, Bool.not_eq_true', ← Bool.not_eq_true, wakeInput_iff,
    sampledSwitch_eq]

/-- The state with the levels and the uptime of a new millisecond and the samples of its switch inputs. -/
def sampledWith (levels : BitVec 32) (ign : Bool) (s : State) (switches : Vector SwitchState 32) : State :=
  { s with
    pins := { s.pins with switches := levels, ign := ign }
    pwc := { s.pwc with
      uptime := s.pwc.uptime + 1
      ignitionDisagreement := if ign = s.pwc.ignition then 0 else s.pwc.ignitionDisagreement + 1 }
    switches := switches }

/-- The samples that the switch inputs take of some levels (R20, R24). -/
def sampledSwitches (levels : BitVec 32) (s : State) : Vector SwitchState 32 :=
  (sampleSwitches { s with pins := { s.pins with switches := levels } }).switches

/-- The state with the levels, the uptime and the samples of a new millisecond, before its ticks. -/
def sampledAt (levels : BitVec 32) (ign : Bool) (s : State) : State :=
  sampledWith levels ign s (sampledSwitches levels s)

/-- The state after the samples and ticks of a millisecond. -/
def milliseconded (levels : BitVec 32) (ign : Bool) (s : State) : State :=
  let w := sampledAt levels ign s
  if s.pwc.power.working then deliverAll ((tickReceivers w).map tickAt) w else w

section

variable {levels : BitVec 32} {ign : Bool} {s : State}

theorem tick_milliseconded (h : Settled s) :
    exec (.millisecondTick levels ign) s = .next (milliseconded levels ign s) := by
  rw [tick_settled h, sampleMillisecond]
  dsimp only
  rw [sampleIgnition_eq, sampleSwitches_eq]
  rfl

theorem milliseconded_outside :
    (milliseconded levels ign s).outsideChannels = (sampledAt levels ign s).outsideChannels := by
  unfold milliseconded
  dsimp only
  split
  · refine deliverAll_keeps State.outsideChannels (fun _ => rfl) (fun d hd u => ?_) _
    obtain ⟨c, -, rfl⟩ := List.mem_map.mp hd
    exact tickAt_outside c u
  · rfl

theorem sampledSwitches_switch (n : Fin 32) : (sampledSwitches levels s)[n]
    = if s.pwc.power = .sleep ∧ ¬∃ d : Fin 4, s.cal.doors[d].present = true ∧ s.cal.doors[d].closedInput = n then
        s.switches[n]
      else { s.switches[n] with disagreement :=
        if (levels[n] == (s.cal.switches[n].polarity == .activeHigh)) = s.switches[n].active then 0
        else s.switches[n].disagreement + 1 } := sampleSwitches_switch _ n

theorem sampledAt_cal : (sampledAt levels ign s).cal = s.cal := by
  unfold sampledAt
  generalize sampledSwitches levels s = v
  rfl

theorem sampledAt_ccu : (sampledAt levels ign s).ccu = s.ccu := by
  unfold sampledAt
  generalize sampledSwitches levels s = v
  rfl

theorem exec_switchDebouncedChange (n : Fin 32) (s : State) :
    exec (.switchDebouncedChange n) s = act s (switchChange n) := by
  rfl

theorem satInc_eq (x : Count) : satInc x = if x = BitVec.allOnes 32 then BitVec.allOnes 32 else x + 1 := by
  unfold satInc
  split
  · next full => exact full
  · rfl

theorem increments_congr {w : State} (cal : w.cal = s.cal) (ccu : w.ccu = s.ccu) (first : Fin 8 → Prop) (k : Nat)
    (h : k < 8) : Increments w first k h ↔ Increments s first k h := by
  induction k with
  | zero => exact Iff.rfl
  | succ k ih => rw [Increments, Increments, cal, ccu, ih]

theorem countsAfter_congr {w t : State} (cal : w.cal = s.cal) (ccu : w.ccu = s.ccu) (h : CountsAfter w t w.timed) :
    CountsAfter s t s.timed := by
  have timed : w.timed = s.timed := by
    unfold State.timed
    rw [cal, ccu]
  unfold CountsAfter at h ⊢
  simp only [increments_congr cal ccu, cal, ccu, timed] at h
  exact h

variable (levels ign s)

/-- What a millisecond without a debounced change does beside the channels. -/
theorem milliseconded_frame :
    let t := milliseconded levels ign s
    t.pins = { s.pins with switches := levels, ign := ign }
      ∧ t.pwc = { s.pwc with
          uptime := s.pwc.uptime + 1
          ignitionDisagreement := if ign = s.pwc.ignition then 0 else s.pwc.ignitionDisagreement + 1
          storeIdle := t.pwc.storeIdle }
      ∧ t.switches = sampledSwitches levels s ∧ t.cal = s.cal ∧ t.supply = s.supply ∧ SameStore s t
      ∧ t.senders = s.senders ∧ t.drs = s.drs := by
  have outside := milliseconded_outside (levels := levels) (ign := ign) (s := s)
  unfold sampledAt at outside
  generalize milliseconded levels ign s = t at outside ⊢
  generalize sampledSwitches levels s = v at outside ⊢
  exact ⟨(congrArg State.pins outside :),
    (congrArg (fun u : State => { u.pwc with storeIdle := t.pwc.storeIdle }) outside :),
    (congrArg State.switches outside :), (congrArg State.cal outside :), (congrArg State.supply outside :),
    (congrArg (fun u : State => { u.rst with queue := t.rst.queue }) outside :), (congrArg State.senders outside :),
    (congrArg State.drs outside :)⟩

variable {s}

/-- What a millisecond without a debounced change does at the channels. -/
theorem milliseconded_counts (working : s.pwc.power.working = true) :
    let t := milliseconded levels ign s
    CountsAfter s t s.timed
      ∧ (∀ c : Fin 8, s.cal.channels[c].mode = .width → t.ccu.channels[c]
          = if s.ccu.channels[c].phase = .measuring then
              { s.ccu.channels[c] with
                count := if s.ccu.channels[c].count = BitVec.allOnes 32 then BitVec.allOnes 32
                  else s.ccu.channels[c].count + 1 }
            else s.ccu.channels[c])
      ∧ ∀ c : Fin 8, s.cal.channels[c].mode = .off ∨ s.cal.channels[c].mode = .rate →
          t.ccu.channels[c] = s.ccu.channels[c] := by
  have cal := sampledAt_cal (levels := levels) (ign := ign) (s := s)
  have ccu := sampledAt_ccu (levels := levels) (ign := ign) (s := s)
  unfold milliseconded
  dsimp only
  rw [if_pos working]
  generalize sampledAt levels ign s = w at cal ccu ⊢
  refine ⟨countsAfter_congr cal ccu (ticks_counts w), fun c width => ?_, fun c idle => ?_⟩
  · rw [ticks_width (by rw [cal]; exact width), ccu, satInc_eq]
  · rw [ticks_idle (by rw [cal]; exact idle), ccu]

theorem milliseconded_resting (resting : ¬s.pwc.power.working = true) : (milliseconded levels ign s).ccu = s.ccu := by
  unfold milliseconded
  dsimp only
  rw [if_neg resting]
  exact sampledAt_ccu

end

end Sys2Proof.Machine

open Sys2Proof Sys2Proof.Machine Sys2Proof.Claims in
/-- Settles O33: without a change due the samples are taken and every chain of increments is counted in whatever order
the ticks are taken (`ticks_counts`); the one change due leaves none due. -/
theorem millisecondTickSamplesAndCounts : Obligations.MillisecondTickSamplesAndCounts := by
  intro s levels ign supply pins sample wake full timed
  refine ⟨fun held => ?_, fun held none ignition => ?_, fun n u held one ignition change => ?_,
    fun u held none ignition change => ?_⟩
  · show act s (tick levels ign) = _
    rw [act_supplied supply, tick, if_pos held]
  · have frame := milliseconded_frame levels ign s
    obtain ⟨hpins, pwc, switches, cal, hsupply, store, senders, drs⟩ := frame
    refine ⟨_, tick_milliseconded ⟨supply, held, none, ignition⟩, hpins, pwc, fun n => ?_, fun n sampled => ?_,
      fun n asleep notWake => ?_, fun working => ?_, fun resting => ?_, cal, hsupply.trans supply, store, senders, drs⟩
    · rw [switches, sampledSwitches_switch]
      split <;> rfl
    · rw [switches, sampledSwitches_switch, if_neg fun ⟨asleep, notWake⟩ => sampled.elim (· asleep) notWake]
    · rw [switches, sampledSwitches_switch, if_pos ⟨asleep, notWake⟩]
    · obtain ⟨counts, width, idle⟩ := milliseconded_counts levels ign (by rcases working with h | h <;> rw [h] <;> rfl)
      exact ⟨counts, width, idle⟩
    · exact milliseconded_resting levels ign fun working => by
        rcases resting with h | h <;> rw [h] at working <;> exact absurd working (by decide)
  · have full : ∀ m, s.countFull m = true ↔ m = n := fun m => countFull_iff.trans (one m)
    have settled : Settled (switchChange n s) :=
      switchChange_settled supply held (fun m other isFull => other ((one m).mp isFull)) ignition ((full n).mpr rfl)
    rw [exec_switchDebouncedChange, act_supplied supply] at change
    obtain rfl := Host.Outcome.next.inj change
    exact tick_change supply held (changesDue_one full ignition) rfl settled levels ign
  · have settled : Settled (ignitionChange s) := ignitionChange_settled supply held none ignition
    rw [exec_ignitionChange, act_supplied supply] at change
    obtain rfl := Host.Outcome.next.inj change
    exact tick_change supply held (changesDue_ignition none ignition) rfl settled levels ign

end

section
/-! SUPPORT. What a debounced change of an input makes of a door (R115 to R125). -/

namespace Sys2Proof.Machine

open Sys2Proof.Claims

/-- The record that a door has after a change of an input. -/
def doorTurned (s : State) (d : Fin 4) (n : Fin 32) : DoorRecord := (doorInputStep s d n).getD s.drs.doors[d]

/-- The step of a door taken by the rules of its state. -/
theorem doorStateStep_eq {s : State} {it : DoorItem} {x : DoorRecord} {n : Fin 32} (released : x.state ≠ .released)
    (fault : x.state ≠ .fault) (release : ¬(it.releaseInput = some n ∧ s.active n = true))
    (conflict : ¬(s.active it.closedInput = true ∧ s.optActive it.openInput = true)) :
    (doorStateStep s it x n).getD x = doorAfter it x n s.active s.pwc.uptime := by
  have made (o : Option (Fin 32)) : (∃ k, o = some k ∧ s.active k = true) ↔ s.optActive o = true :=
    (optActive_iff s o).symm
  unfold doorAfter
  simp only [made]
  rw [if_neg release, if_neg released, if_neg fault, if_neg conflict]
  obtain ⟨state, reason, reversals, cycles, lastOpen, rampOut, openStart, openLimit, settle, closeLimit⟩ := x
  have openInput (h : it.openInput = some n) : s.optActive it.openInput = s.active n := by rw [h]; rfl
  unfold doorStateStep
  cases state
  case released => exact absurd rfl released
  case fault => exact absurd rfl fault
  case closed | closedLocked =>
    by_cases here : n = it.closedInput
    · subst here
      cases on : s.active it.closedInput <;> cases isOpen : s.optActive it.openInput <;>
        simp_all [DoorRecord.cycleStarts, DoorRecord.opened, DoorRecord.opening, DoorRecord.stopped, State.now_eq]
    · by_cases locked : it.lockedInput = some n <;> cases on : s.active n <;> simp_all
  case opening | doorOpen | closing | reversing =>
    by_cases shut : n = it.closedInput ∧ s.active n = true
    · obtain ⟨rfl, on⟩ := shut
      simp [on, DoorRecord.closedNow, DoorRecord.stopped, closedStateOf, satInc, State.now_eq]
    · by_cases opens : it.openInput = some n <;> by_cases edge : it.edgeInput = some n <;>
        cases on : s.active n <;> simp_all [DoorRecord.opened, DoorRecord.stopped, DoorRecord.closingStarts,
          DoorRecord.reversed, DoorRecord.faulted, State.now_eq]

/-- A change of an input leaves the record that R115 to R125 give. -/
theorem doorTurned_eq (s : State) (d : Fin 4) (n : Fin 32) : doorTurned s d n
    = doorAfter s.cal.doors[d] s.drs.doors[d] n (fun k => s.switches[k].active) s.pwc.uptime := by
  have again := rederived_eq s d
  unfold rederivedFrom State.inputs at again
  dsimp only at again
  unfold doorTurned doorInputStep
  dsimp only
  rw [again]
  generalize s.cal.doors[d] = it
  generalize s.drs.doors[d] = x
  by_cases release : it.releaseInput = some n ∧ s.active n = true
  · rw [if_pos (by rw [Bool.and_eq_true, decide_eq_true_eq]; exact release), doorAfter]
    dsimp only
    rw [if_pos (by exact release)]
    rfl
  have release' : ¬(it.releaseInput = some n ∧ s.switches[n].active = true) := release
  rw [if_neg (by rw [Bool.and_eq_true, decide_eq_true_eq]; exact release)]
  by_cases released : x.state = .released
  · rw [if_pos released, doorAfter]
    dsimp only
    rw [if_neg release', if_pos released]
    split <;> rfl
  rw [if_neg released]
  by_cases fault : x.state = .fault
  · rw [if_pos fault, doorAfter]
    dsimp only
    rw [if_neg release', if_neg released, if_pos fault]
    simp only [Bool.or_eq_true, decide_eq_true_eq]
    split <;> rfl
  rw [if_neg fault]
  by_cases conflict : s.active it.closedInput = true ∧ s.optActive it.openInput = true
  · rw [if_pos (by rw [Bool.and_eq_true]; exact conflict), doorAfter]
    dsimp only
    rw [if_neg release', if_neg released, if_neg fault, if_pos (by rw [← optActive_iff]; exact conflict)]
    rfl
  · rw [if_neg (by rw [Bool.and_eq_true]; exact conflict)]
    exact doorStateStep_eq released fault release conflict

theorem closedStateOf_ne (s : State) (it : DoorItem) : closedStateOf s it ≠ .doorOpen := by
  unfold closedStateOf
  split <;> exact nofun

theorem DoorRecord.closingStarts_ne (x : DoorRecord) (s : State) (it : DoorItem) :
    (x.closingStarts s it).state ≠ .doorOpen := by
  unfold DoorRecord.closingStarts DoorRecord.reversed
  dsimp only
  split
  · split <;> exact nofun
  · exact nofun

/-- A change of an input brings no door to OPEN that is OPEN (R116 to R123). -/
theorem doorInputStep_opens {s : State} {d : Fin 4} {n : Fin 32} {r : DoorRecord} (step : doorInputStep s d n = some r)
    (opened : r.state = .doorOpen) : s.drs.doors[d].state ≠ .doorOpen := by
  intro wasOpen
  have other {x : DoorRecord} (same : some x = some r) : x.state = .doorOpen := by
    rw [Option.some.inj same]
    exact opened
  unfold doorInputStep at step
  dsimp only at step
  rw [wasOpen, if_neg (c := DoorState.doorOpen = .released) nofun,
    if_neg (c := DoorState.doorOpen = .fault) nofun] at step
  split at step
  · exact absurd (other step) (show DoorState.released ≠ _ from nofun)
  split at step
  · exact absurd (other step) (show DoorState.fault ≠ _ from nofun)
  unfold doorStateStep at step
  rw [wasOpen] at step
  dsimp only at step
  split at step
  · exact closedStateOf_ne _ _ (other step)
  split at step
  · exact DoorRecord.closingStarts_ne _ _ _ (other step)
  · cases step

end Sys2Proof.Machine
end

section
/-! SUPPORT. Deliveries of a family, each of which turns a view of its own, taken in any order with others. -/

namespace Sys2Proof.Machine

open Sys2Proof.Claims

/-- Before the first of some deliveries only free values are drawn. -/
theorem Delivered.uncons {d : Delivery} {ds : List Delivery} {s t : State} (run : Delivered (d :: ds) s t) :
    ∃ u, Delivered [] s u ∧ Delivered ds (d u) t := by
  generalize both : d :: ds = l at run
  induction run with
  | done => cases both
  | draw _ ih =>
    obtain ⟨u, first, rest⟩ := ih both
    exact ⟨u, .draw first, rest⟩
  | @take e es s t rest _ =>
    obtain ⟨rfl, rfl⟩ := List.cons.inj both
    exact ⟨s, .done s, rest⟩

/-- Deliveries indexed by a family: each leaves the views of the others, and a property that it keeps where it finds its
own view as it was, and that every other delivery keeps. -/
structure Family {ι α : Type} (f : ι → Delivery) (view : ι → State → α) (members : List ι) (others : List Delivery)
    (P : State → Prop) (base : State) : Prop where
  drawn : ∀ u, P u → P u.drawn
  drawn_view : ∀ i u, view i u.drawn = view i u
  keeps : ∀ e ∈ others, ∀ u, P u → P (e u)
  keeps_view : ∀ e ∈ others, ∀ i u, view i (e u) = view i u
  turn : ∀ i ∈ members, ∀ u, P u → view i u = view i base → P (f i u)
  turn_view : ∀ i k, k ≠ i → ∀ u, view k (f i u) = view k u

namespace Family

variable {ι α : Type} [DecidableEq ι] {f : ι → Delivery} {view : ι → State → α} {members : List ι}
  {others : List Delivery}
  {P Q : State → Prop} {base : State}

omit [DecidableEq ι] in
theorem of_others (h : Family f view members others P base) {less : List Delivery} (sub : ∀ e ∈ less, e ∈ others) :
    Family f view members less P base where
  drawn := h.drawn
  drawn_view := h.drawn_view
  keeps e he := h.keeps e (sub e he)
  keeps_view e he := h.keeps_view e (sub e he)
  turn := h.turn
  turn_view := h.turn_view

/-- The first of deliveries in any order is the turn of a member or another delivery, and the rest follow. -/
theorem head {e : Delivery} {ds : List Delivery} {idx : List ι} (perm : (e :: ds).Perm (idx.map f ++ others)) :
    (∃ i ∈ idx, e = f i ∧ ds.Perm ((idx.erase i).map f ++ others))
      ∨ ∃ less, others.Perm (e :: less) ∧ ds.Perm (idx.map f ++ less) := by
  rcases List.mem_append.mp (perm.mem_iff.mp List.mem_cons_self) with he | he
  · obtain ⟨i, hi, rfl⟩ := List.mem_map.mp he
    exact .inl ⟨i, hi, rfl, (perm.trans (((List.perm_cons_erase hi).map f).append_right others)).cons_inv⟩
  · obtain ⟨pre, post, rfl⟩ := List.append_of_mem he
    have less : (pre ++ e :: post).Perm (e :: (pre ++ post)) := List.perm_middle
    exact .inr ⟨pre ++ post, less,
      ((perm.trans (less.append_left (idx.map f))).trans List.perm_middle).cons_inv⟩

/-- A family's property holds in the end. -/
theorem holds (h : Family f view members others P base) {l : List Delivery} {s t : State} {idx : List ι}
    (run : Delivered l s t)
    (perm : l.Perm (idx.map f ++ others)) (once : idx.Nodup) (sub : ∀ i ∈ idx, i ∈ members)
    (start : ∀ i ∈ idx, view i s = view i base) (hs : P s) : P t := by
  induction run generalizing idx others with
  | done => exact hs
  | draw _ ih => exact ih h perm once sub (fun i hi => (h.drawn_view i _).trans (start i hi)) (h.drawn _ hs)
  | @take e ds u v rest ih =>
    rcases head perm with ⟨i, hi, rfl, tail⟩ | ⟨less, split, tail⟩
    · refine ih h tail (once.erase i) (fun k hk => sub k (List.mem_of_mem_erase hk)) (fun k hk => ?_)
        (h.turn i (sub i hi) u hs (start i hi))
      obtain ⟨other, hk⟩ := once.mem_erase_iff.mp hk
      exact (h.turn_view i k other u).trans (start k hk)
    · have he : e ∈ others := split.mem_iff.mpr List.mem_cons_self
      exact ih (h.of_others fun d hd => split.mem_iff.mpr (List.mem_cons_of_mem e hd)) tail once sub
        (fun k hk => (h.keeps_view e he k u).trans (start k hk)) (h.keeps e he u hs)

omit [DecidableEq ι] in
/-- Draws keep a family's property and views. -/
theorem draws (h : Family f view members others P base) {s t : State} (run : Delivered [] s t) (hs : P s) :
    P t ∧ ∀ i, view i t = view i s :=
  run.induct (P := fun u => P u ∧ ∀ i, view i u = view i s)
    (fun u ⟨hu, same⟩ => ⟨h.drawn u hu, fun i => (h.drawn_view i u).trans (same i)⟩) (by simp) ⟨hs, fun _ => rfl⟩

/-- A delivery beside a family that turns one of its properties into another brings the other about. -/
theorem turns (h : Family f view members others P base) (g : Family f view members others Q base)
    {l : List Delivery} {s t : State}
    {idx : List ι} {a : Delivery} (run : Delivered l s t) (perm : l.Perm (a :: (idx.map f ++ others)))
    (once : idx.Nodup) (sub : ∀ i ∈ idx, i ∈ members) (made : ∀ u, P u → Q (a u))
    (made_view : ∀ i u, view i (a u) = view i u)
    (start : ∀ i ∈ idx, view i s = view i base) (hs : P s) : Q t := by
  obtain ⟨pre, post, rfl⟩ := List.append_of_mem (perm.mem_iff.mpr List.mem_cons_self)
  have remain : (pre ++ post).Perm (idx.map f ++ others) := (List.perm_middle.symm.trans perm).cons_inv
  clear perm
  induction pre generalizing idx others s with
  | nil =>
    obtain ⟨u, draws, rest⟩ := run.uncons
    obtain ⟨hu, same⟩ := h.draws draws hs
    exact g.holds rest remain once sub (fun i hi => (made_view i u).trans ((same i).trans (start i hi))) (made u hu)
  | cons e pre ih =>
    obtain ⟨u, draws, rest⟩ := run.uncons
    obtain ⟨hu, same⟩ := h.draws draws hs
    have start (i : ι) (hi : i ∈ idx) : view i u = view i base := (same i).trans (start i hi)
    rcases head remain with ⟨i, hi, rfl, tail⟩ | ⟨less, split, tail⟩
    · refine ih h g (once.erase i) (fun k hk => sub k (List.mem_of_mem_erase hk)) (fun k hk => ?_)
        (h.turn i (sub i hi) u hu (start i hi)) rest tail
      obtain ⟨other, hk⟩ := once.mem_erase_iff.mp hk
      exact (h.turn_view i k other u).trans (start k hk)
    · have he : e ∈ others := split.mem_iff.mpr List.mem_cons_self
      have fewer : ∀ d ∈ less, d ∈ others := fun d hd => split.mem_iff.mpr (List.mem_cons_of_mem e hd)
      exact ih (h.of_others fewer) (g.of_others fewer) once sub (fun k hk => (h.keeps_view e he k u).trans (start k hk))
        (h.keeps e he u hu) rest tail

end Family

end Sys2Proof.Machine
end

section
/-! SUPPORT. A debounced change of an input at a door (R116, R127, R129): the record, the latch, the copies of OPU. -/

namespace Sys2Proof.Machine

open Sys2Proof.Claims

/-! ## OPU's copies of the ramps and of the latch -/

/-- OPU's copies of the ramps and of the latch. -/
def Opu.doorCopies (o : Opu) : Vector Bool 4 × Bool := (o.ramps, o.latch)

theorem Opu.doorCopies_of_outsideWarnings {o p : Opu} (h : o.outsideWarnings = p.outsideWarnings) :
    o.doorCopies = p.doorCopies := (congrArg (fun q : Opu => q.doorCopies) h :)

theorem Opu.doorCopies_of_unlit {o p : Opu} (h : o.unlit = p.unlit) : o.doorCopies = p.doorCopies :=
  (congrArg (fun q : Opu => q.doorCopies) h :)

theorem Opu.decideOpen_doorCopies (o : Opu) (now : Time) : (o.decideOpen now).doorCopies = o.doorCopies := by
  unfold Opu.decideOpen
  split
  · rfl
  · split
    · rfl
    · split
      · rfl
      · split <;> rfl

theorem opuLiveChange_doorCopies (i : Fin 96) (v : Value) (st : LiveStatus) (s : State) :
    (opuLiveChange i v st s).opu.doorCopies = s.opu.doorCopies := by
  unfold opuLiveChange
  dsimp only
  split
  · refine (Opu.decideOpen_doorCopies _ _).trans ?_
    split <;> split <;> rfl
  · rfl

/-- No change of a slot reaches the copies of the ramps and of the latch. -/
theorem doorCopies_closed (v : Vector Bool 4 × Bool) : UpdateClosed fun t => t.opu.doorCopies = v where
  drawn _ h := h
  notice _ _ h := h
  liveChange i x st s h := (opuLiveChange_doorCopies i x st s).trans h
  evaluate r s h := (Opu.doorCopies_of_outsideWarnings (wreEvaluate_opu r s)).trans h
  sample i x st s h := by
    rw [svcSample_opu]
    exact h
  endTest s h := (Opu.doorCopies_of_unlit (Opu.redecide_unlit _ _)).trans h
  unslot _ _ h := h
  endService _ h := h
  release i s h := (Opu.doorCopies_of_outsideWarnings (wreRelease_opu i s)).trans h
  setSlot _ _ _ _ h := h

theorem opuDoorState_doorCopies (d : Fin 4) (st : DoorState) (s : State) :
    (opuDoorState d st s).opu.doorCopies = s.opu.doorCopies :=
  (Opu.doorCopies_of_unlit (Opu.redecide_unlit _ _) :)

theorem opuLatch_latch (set ding : Bool) (s : State) : (opuLatch set ding s).opu.doorCopies = (s.opu.ramps, set) := by
  cases ding
  · rfl
  · exact Opu.doorCopies_of_unlit (Opu.onceClaim_unlit { s.opu with latch := set } .stopDing s.now)

theorem flmReports_doorCopies (rs : List Report) (s : State) : (flmReports rs s).opu.doorCopies = s.opu.doorCopies :=
  congrArg Opu.doorCopies (opu_of_outsideFaults (flmReports_outside rs s))

/-! ## An event at a door -/

section

variable (d : Fin 4) (r : DoorRecord) (s : State)

theorem doorHandings_doorCopies {e : Delivery} (he : e ∈ doorHandings d r [] s) (t : State) :
    (e t).opu.doorCopies = t.opu.doorCopies
      ∨ clearsLatch r s = true ∧ (e t).opu.doorCopies = (t.opu.ramps, false) := by
  rcases mem_doorHandings he with rfl | rfl | he | ⟨clears, rfl | rfl⟩ | rfl
  · exact .inl ((doorCopies_closed t.opu.doorCopies).source (s := t) rfl)
  · exact .inl (opuDoorState_doorCopies d r.state t)
  · simp at he
  · exact .inl ((doorCopies_closed t.opu.doorCopies).source (s := t) rfl)
  · exact .inr ⟨clears, opuLatch_latch false false t⟩
  · exact .inl (flmReports_doorCopies _ t)

/-- An event at a door leaves the copies of the ramps, and clears that of the latch where it clears the latch. -/
theorem doorEvent_doorCopies : (doorEvent d r [] s).opu.doorCopies
    = (s.opu.ramps, if clearsLatch r s = true then false else s.opu.latch) := by
  have base : (doorBase d r s).opu.doorCopies = s.opu.doorCopies := congrArg Opu.doorCopies (doorBase_opu d r s)
  rw [doorEvent_eq]
  obtain ⟨l, perm, run⟩ := deliverAll_delivered (doorHandings d r [] s) (doorBase d r s)
  have kept {t : State} (h : t.opu.doorCopies = (s.opu.ramps, false)) {e : Delivery} (he : e ∈ l) :
      (e t).opu.doorCopies = (s.opu.ramps, false) := by
    rcases doorHandings_doorCopies d r s (perm.mem_iff.mp he) t with same | ⟨-, cleared⟩
    · exact same.trans h
    · rw [cleared, show t.opu.ramps = s.opu.ramps from congrArg Prod.fst h]
  by_cases clears : clearsLatch r s = true
  · rw [if_pos clears]
    have member : opuLatch false false ∈ l := by
      refine perm.mem_iff.mpr ?_
      unfold doorHandings
      rw [clears]
      simp [latchHandings]
    refine run.establishes (I := fun t => t.opu.ramps = s.opu.ramps)
      (P := fun t => t.opu.doorCopies = (s.opu.ramps, false)) member (fun _ h => h) (fun _ h => h) (fun e he t ht => ?_)
      (fun t ht => ?_) (fun e he t _ ht => kept ht he) (congrArg Prod.fst base)
    · rcases doorHandings_doorCopies d r s (perm.mem_iff.mp he) t with same | ⟨-, cleared⟩
      · exact (congrArg Prod.fst same :).trans ht
      · exact (congrArg Prod.fst cleared :).trans ht
    · rw [opuLatch_latch, ht]
  · rw [if_neg clears]
    refine (run.induct (P := fun t => t.opu.doorCopies = s.opu.doorCopies) (fun _ h => h) (fun e he t ht => ?_) base)
    rcases doorHandings_doorCopies d r s (perm.mem_iff.mp he) t with same | ⟨clears', -⟩
    · exact same.trans ht
    · exact absurd clears' clears

theorem doorEvent_latch : (doorEvent d r [] s).drs.latch = if clearsLatch r s = true then false else s.drs.latch := by
  rw [doorEvent_drs (by simp)]
  unfold clearsLatch
  by_cases isOpen : r.state = .doorOpen
  · rw [isOpen]
    cases s.drs.latch <;> rfl
  · have other : (r.state == .doorOpen && s.drs.latch) = false := by simp [isOpen]
    rw [other]
    exact if_neg isOpen

/-- What an event at a door hands keeps the latch at the STOPREQ slots. -/
theorem doorHandings_latchShown {e : Delivery} (he : e ∈ doorHandings d r [] s) {t : State} (h : t.latchShown) :
    (e t).latchShown := by
  have same (source : ∀ i, t.bindings i = (.stopReq, none) → (e t).source i = t.source i) : (e t).latchShown :=
    latchShown_of_same (doorHandings_bindings e he t) (congrArg Drs.latch (doorHandings_drs (by simp) e he t))
      (uptime_of_inputs (doorHandings_inputs e he t)) source h
  rcases mem_doorHandings he with rfl | rfl | he | ⟨-, rfl | rfl⟩ | rfl
  · exact same fun i bound => sourceUpdate_source_ne (by rw [bound]; exact nofun) _ _
  · exact same fun _ _ => rfl
  · simp at he
  · exact stopReqUpdate_latchShown t
  · exact same fun _ _ => rfl
  · exact same fun i _ => congrFun (State.source_of_slots (slots_of_outsideFaults (flmReports_outside _ t))) i

/-- An event at a door that clears the latch gives it to the STOPREQ slots (R129). -/
theorem doorEvent_clears_shown (clears : clearsLatch r s = true) : (doorEvent d r [] s).latchShown := by
  rw [doorEvent_eq]
  obtain ⟨l, perm, run⟩ := deliverAll_delivered (doorHandings d r [] s) (doorBase d r s)
  have member : stopReqUpdate ∈ l := by
    refine perm.mem_iff.mpr ?_
    unfold doorHandings
    rw [clears]
    simp [latchHandings]
  exact run.establishes (I := fun _ => True) (P := State.latchShown) member (fun _ _ => trivial) (fun _ h => h)
    (fun _ _ _ _ => trivial) (fun t _ => stopReqUpdate_latchShown t)
    (fun e he t _ shown => doorHandings_latchShown d r s (perm.mem_iff.mp he) shown) trivial

end

/-- The latch is what OPU and the STOPREQ slots have been given, and the DOORS notice stands (R129). -/
structure LatchTold (t : State) : Prop where
  copy : t.opu.latch = t.drs.latch
  notice : NoticeOnAll flagDoors t
  slots : t.latchShown

/-- An event at a door leaves the latch, or clears it and tells. -/
theorem doorEvent_told (d : Fin 4) (r : DoorRecord) {s : State} (h : LatchTold s ∨ clearsLatch r s = true) :
    LatchTold (doorEvent d r [] s) where
  copy := by
    have copy : (doorEvent d r [] s).opu.latch = _ := congrArg Prod.snd (doorEvent_doorCopies d r s)
    rw [copy, doorEvent_latch]
    dsimp only
    split
    · rfl
    · next stays => exact (h.resolve_right stays).copy
  notice := holdsFlags_doorEvent d r s
  slots := by
    by_cases clears : clearsLatch r s = true
    · exact doorEvent_clears_shown d r s clears
    · exact doorEvent_latchShown d r (h.resolve_right clears).slots

end Sys2Proof.Machine
end

section
/-! SUPPORT. A debounced change of an input at a door, from its ramp to its step (R116, R127). -/

namespace Sys2Proof.Machine

open Sys2Proof.Claims

/-- The state with the ramp of a door taken from an input that is its ramp input (R127). -/
def doorRamped (d : Fin 4) (n : Fin 32) (s : State) : State :=
  if s.cal.doors[d].rampInput = some n then rampChange d (s.active n) s else s

/-- The record of a door with its ramp taken from an input that is its ramp input (R127). -/
def rampedRecord (it : DoorItem) (n : Fin 32) (out : Bool) (x : DoorRecord) : DoorRecord :=
  if it.rampInput = some n then { x with rampOut := out } else x

section

variable {d : Fin 4} {n : Fin 32} {s : State}

theorem doorInput_eq : doorInput d n s = match doorInputStep (doorRamped d n s) d n with
    | none => doorRamped d n s
    | some r => doorEvent d r [] (doorRamped d n s) := rfl

/-! ## The ramp -/

theorem doorRamped_inputs : (doorRamped d n s).inputs = s.inputs := by
  unfold doorRamped
  split <;> rfl

theorem doorRamped_source : (doorRamped d n s).source = s.source := by
  unfold doorRamped
  split <;> rfl

theorem doorRamped_bindings : (doorRamped d n s).bindings = s.bindings := by
  unfold State.bindings
  rw [doorRamped_source]

theorem doorRamped_latch : (doorRamped d n s).drs.latch = s.drs.latch := by
  unfold doorRamped
  split <;> rfl

theorem doorRamped_door : (doorRamped d n s).drs.doors[d]
    = rampedRecord s.cal.doors[d] n (s.active n) s.drs.doors[d] := by
  unfold doorRamped rampedRecord
  split
  · show (s.drs.doors.set d.val _)[d.val] = _
    rw [Vector.getElem_set_self]
  · rfl

theorem doorRamped_other {k : Fin 4} (other : k ≠ d) : (doorRamped d n s).drs.doors[k] = s.drs.doors[k] := by
  unfold doorRamped
  split
  · show (s.drs.doors.set d.val _)[k.val] = _
    rw [Vector.getElem_set_ne _ _ fun same => other (Fin.ext same.symm)]
    rfl
  · rfl

theorem doorRamped_doorCopies : (doorRamped d n s).opu.doorCopies
    = (if s.cal.doors[d].rampInput = some n then s.opu.ramps.set d (s.active n) else s.opu.ramps, s.opu.latch) := by
  unfold doorRamped
  split <;> rfl

theorem doorRamped_notice {p : Port} (h : s.cal.doors[d].rampInput = some n ∨ holdsFlags p flagDoors s) :
    holdsFlags p flagDoors (doorRamped d n s) := by
  unfold doorRamped
  split
  · refine (holdsFlags_doors p flagDoors).opu _ _ ?_
    unfold holdsFlags
    rw [State.port_notice]
    exact flags_added _ _
  · next other => exact h.resolve_left other

theorem doorRamped_told (h : LatchTold s) : LatchTold (doorRamped d n s) where
  copy := by
    have copy : (doorRamped d n s).opu.latch = s.opu.latch := congrArg Prod.snd doorRamped_doorCopies
    rw [copy, doorRamped_latch]
    exact h.copy
  notice p := doorRamped_notice (.inr (h.notice p))
  slots := latchShown_of_same doorRamped_bindings doorRamped_latch (uptime_of_inputs doorRamped_inputs)
    (fun i _ => congrFun doorRamped_source i) h.slots

/-! ## The record -/

theorem active_of_inputs {s t : State} (h : t.inputs = s.inputs) (k : Fin 32) : t.active k = s.active k :=
  (congrArg (fun v : Calibration × Vector SwitchState 32 × Time => v.2.1[k].active) h :)

theorem cal_of_inputs {s t : State} (h : t.inputs = s.inputs) : t.cal = s.cal := congrArg Prod.fst h

theorem doorEvent_door (d : Fin 4) (r : DoorRecord) (s : State) (k : Fin 4) :
    (doorEvent d r [] s).drs.doors[k] = if k = d then r else s.drs.doors[k] := by
  rw [doorEvent_drs (by simp)]
  show (s.drs.doors.set d.val r)[k.val] = _
  split
  · next same =>
    subst same
    exact Vector.getElem_set_self _
  · next other => exact Vector.getElem_set_ne _ _ fun same => other (Fin.ext same.symm)

/-- The door takes the record that R115 to R125 give, from its record with the ramp. -/
theorem doorInput_door : (doorInput d n s).drs.doors[d]
    = doorAfter s.cal.doors[d] (rampedRecord s.cal.doors[d] n (s.active n) s.drs.doors[d]) n
        (fun k => s.switches[k].active) s.pwc.uptime := by
  have turned := doorTurned_eq (doorRamped d n s) d n
  rw [doorRamped_door, cal_of_inputs doorRamped_inputs, uptime_of_inputs doorRamped_inputs] at turned
  rw [doorInput_eq]
  have active : (fun k : Fin 32 => (doorRamped d n s).switches[k].active) = fun k => s.switches[k].active :=
    funext (active_of_inputs doorRamped_inputs)
  rw [active] at turned
  rw [← turned]
  unfold doorTurned
  cases doorInputStep (doorRamped d n s) d n with
  | none => rfl
  | some r => exact (doorEvent_door d r _ d).trans (if_pos rfl)

theorem doorInput_other {k : Fin 4} (other : k ≠ d) : (doorInput d n s).drs.doors[k] = s.drs.doors[k] := by
  rw [doorInput_eq]
  split
  · exact doorRamped_other other
  · exact (doorEvent_door d _ _ k).trans ((if_neg other).trans (doorRamped_other other))

theorem rampedRecord_state (it : DoorItem) (n : Fin 32) (out : Bool) (x : DoorRecord) :
    (rampedRecord it n out x).state = x.state := by
  unfold rampedRecord
  split <;> rfl

/-! ## What is handed -/

theorem doorInput_notice (changed : (doorInput d n s).drs.doors[d] ≠ s.drs.doors[d]) :
    NoticeOnAll flagDoors (doorInput d n s) := by
  rw [doorInput_eq] at changed ⊢
  split at changed
  · next step =>
    refine fun p => doorRamped_notice (.inl ?_)
    by_contra other
    rw [doorRamped_door, rampedRecord, if_neg other] at changed
    exact changed rfl
  · next r step =>
    exact holdsFlags_doorEvent d r _

theorem doorInput_ramps : (doorInput d n s).opu.ramps
    = if s.cal.doors[d].rampInput = some n then s.opu.ramps.set d (s.active n) else s.opu.ramps := by
  have ramped : (doorRamped d n s).opu.ramps = _ := congrArg Prod.fst doorRamped_doorCopies
  rw [doorInput_eq]
  split
  · exact ramped
  · exact (congrArg Prod.fst (doorEvent_doorCopies d _ _)).trans ramped

/-- A change at a door leaves the latch, unless the door becomes OPEN, which clears it. -/
theorem doorInput_latch : (doorInput d n s).drs.latch
    = if (doorInput d n s).drs.doors[d].state = .doorOpen ∧ s.drs.doors[d].state ≠ .doorOpen then false
      else s.drs.latch := by
  have before : (doorRamped d n s).drs.doors[d].state = s.drs.doors[d].state := by
    rw [doorRamped_door, rampedRecord_state]
  rw [doorInput_eq]
  split
  · rw [before, if_neg fun h => h.2 h.1]
    exact doorRamped_latch
  · next r step =>
    have after : (doorEvent d r [] (doorRamped d n s)).drs.doors[d] = r := (doorEvent_door d r _ d).trans (if_pos rfl)
    rw [after, doorEvent_latch, doorRamped_latch, clearsLatch, doorRamped_latch]
    by_cases opened : r.state = .doorOpen
    · have was := doorInputStep_opens step opened
      rw [before] at was
      rw [if_pos (c := r.state = .doorOpen ∧ _) ⟨opened, was⟩]
      cases s.drs.latch <;> simp [opened]
    · rw [if_neg (c := r.state = .doorOpen ∧ _) fun h => opened h.1, if_neg (by simp [opened])]

/-- A change at a door that alters the latch tells it (R129). -/
theorem doorInput_told (h : LatchTold s ∨ (doorInput d n s).drs.latch ≠ s.drs.latch) : LatchTold (doorInput d n s) := by
  rw [doorInput_eq] at h ⊢
  split at h
  · next step =>
    exact doorRamped_told (h.resolve_right fun changed => changed doorRamped_latch)
  · next r step =>
    rw [doorEvent_latch, doorRamped_latch] at h
    refine doorEvent_told d r (h.imp doorRamped_told fun changed => ?_)
    by_contra stays
    rw [if_neg stays] at changed
    exact changed rfl

theorem doorInput_bindings : (doorInput d n s).bindings = s.bindings := by
  rw [doorInput_eq]
  split
  · exact doorRamped_bindings
  · exact (doorEvent_bindings d _ _).trans doorRamped_bindings

theorem doorInput_source {i : Fin 96} (door : s.bindings i ≠ (.door, doorSource d))
    (latch : s.bindings i ≠ (.stopReq, none)) : (doorInput d n s).source i = s.source i := by
  rw [doorInput_eq]
  split
  · exact congrFun doorRamped_source i
  · rw [← doorRamped_bindings (d := d) (n := n)] at door latch
    exact (doorEvent_source door (.inl latch)).trans (congrFun doorRamped_source i)

theorem doorInput_outside : (doorInput d n s).outsideDoors = s.outsideDoors := (doors_closed _).input rfl

end

end Sys2Proof.Machine
end

section
/-! SUPPORT. An activation of a stop-request input (R128, R129). -/

namespace Sys2Proof.Machine

open Sys2Proof.Claims

theorem someDoorOpen_iff {s : State} : s.someDoorOpen = true
    ↔ ∃ d : Fin 4, s.cal.doors[d].present = true ∧ s.drs.doors[d].state = .doorOpen := by
  unfold State.someDoorOpen allDoors
  rw [List.any_eq_true]
  simp only [List.mem_finRange, true_and, Bool.and_eq_true, beq_iff_eq]

/-- The state with the latch set and the DOORS notice given. -/
def latchSet (s : State) : State := (s.putLatch true).notice flagDoors

/-- An activation of a stop-request input does nothing, or sets the latch and hands it in one of two orders. -/
theorem stopRequest_cases (s : State) : (stopRequest s = s
      ∧ (s.pwc.power ≠ .run ∨ s.someDoorOpen = true ∨ s.drs.latch = true))
    ∨ ((s.pwc.power = .run ∧ s.someDoorOpen = false ∧ s.drs.latch = false)
      ∧ (stopRequest s = opuLatch true true (stopReqUpdate (latchSet s).drawn)
        ∨ stopRequest s = stopReqUpdate (opuLatch true true (latchSet s).drawn))) := by
  unfold stopRequest
  split
  · next acts =>
    rw [Bool.and_eq_true, Bool.and_eq_true, decide_eq_true_eq, Bool.not_eq_true', Bool.not_eq_true'] at acts
    obtain ⟨⟨run, shut⟩, clear⟩ := acts
    exact .inr ⟨⟨run, shut, clear⟩, deliverAll_two stopReqUpdate (opuLatch true true) _⟩
  · next rests =>
    refine .inl ⟨rfl, ?_⟩
    by_contra acts
    simp only [not_or, not_not, Bool.not_eq_true] at acts
    obtain ⟨run, shut, clear⟩ := acts
    exact rests (by rw [run, shut, clear]; rfl)

section

variable {s : State}

theorem stopRequest_drs : (stopRequest s).drs
    = { s.drs with latch := if s.pwc.power = .run ∧ s.someDoorOpen = false then true else s.drs.latch } := by
  rcases stopRequest_cases s with ⟨same, rests⟩ | ⟨⟨run, shut, -⟩, order⟩
  · rw [same]
    split
    · next acts =>
      have set : s.drs.latch = true := by
        rcases rests with off | isOpen | set
        · exact absurd acts.1 off
        · rw [acts.2] at isOpen
          cases isOpen
        · exact set
      rw [← set]
    · rfl
  · rw [if_pos ⟨run, shut⟩]
    rcases order with order | order <;> rw [order]
    · exact stopReqUpdate_drs (latchSet s).drawn
    · exact stopReqUpdate_drs (opuLatch true true (latchSet s).drawn)

theorem stopRequest_doors (d : Fin 4) : (stopRequest s).drs.doors[d] = s.drs.doors[d] := by
  rw [stopRequest_drs]

theorem stopReqUpdate_doorCopies (s : State) : (stopReqUpdate s).opu.doorCopies = s.opu.doorCopies :=
  (doorCopies_closed s.opu.doorCopies).source rfl

theorem stopRequest_ramps : (stopRequest s).opu.ramps = s.opu.ramps := by
  rcases stopRequest_cases s with ⟨same, -⟩ | ⟨-, order | order⟩
  · rw [same]
  · rw [order]
    have ramps : (opuLatch true true (stopReqUpdate (latchSet s).drawn)).opu.ramps = _ :=
      congrArg Prod.fst (opuLatch_latch true true _)
    exact ramps.trans (congrArg Prod.fst (stopReqUpdate_doorCopies (latchSet s).drawn))
  · rw [order]
    have ramps : (stopReqUpdate (opuLatch true true (latchSet s).drawn)).opu.ramps = _ :=
      congrArg Prod.fst (stopReqUpdate_doorCopies _)
    exact ramps.trans (congrArg Prod.fst (opuLatch_latch true true (latchSet s).drawn))

theorem latchSet_notice (s : State) (p : Port) : holdsFlags p flagDoors (latchSet s) := by
  unfold holdsFlags latchSet
  rw [State.port_notice]
  exact flags_added _ _

/-- A setting of the latch tells it (R129). -/
theorem stopRequest_told (h : LatchTold s ∨ (stopRequest s).drs.latch ≠ s.drs.latch) : LatchTold (stopRequest s) := by
  rcases stopRequest_cases s with ⟨same, -⟩ | ⟨-, order⟩
  · rw [same] at h ⊢
    exact h.resolve_right fun changed => changed rfl
  · have update := holdsFlags_closed
    rcases order with order | order <;> rw [order]
    · refine ⟨?_, fun p => (update p _).opu _ _ ((update p _).source (latchSet_notice s p)), ?_⟩
      · have copy : (opuLatch true true (stopReqUpdate (latchSet s).drawn)).opu.latch = _ :=
          congrArg Prod.snd (opuLatch_latch true true _)
        rw [copy]
        exact (congrArg Drs.latch (stopReqUpdate_drs (latchSet s).drawn)).symm
      · exact stopReqUpdate_latchShown (latchSet s).drawn
    · refine ⟨?_, fun p => (update p _).source ((update p _).opu _ _ (latchSet_notice s p)), ?_⟩
      · have copy : (stopReqUpdate (opuLatch true true (latchSet s).drawn)).opu.latch = _ :=
          congrArg Prod.snd (stopReqUpdate_doorCopies _)
        have set : (opuLatch true true (latchSet s).drawn).opu.latch = true :=
          congrArg Prod.snd (opuLatch_latch true true (latchSet s).drawn)
        rw [copy]
        refine Eq.trans set ?_
        exact (congrArg Drs.latch (stopReqUpdate_drs (opuLatch true true (latchSet s).drawn))).symm
      · exact stopReqUpdate_latchShown _

theorem stopRequest_outside : (stopRequest s).outsideDoors = s.outsideDoors := (doors_closed _).stopRequest rfl

theorem stopRequest_bindings : (stopRequest s).bindings = s.bindings := by
  rcases stopRequest_cases s with ⟨same, -⟩ | ⟨-, order | order⟩
  · rw [same]
  · rw [order]
    exact sourceUpdate_bindings _ _ _ _ (latchSet s).drawn
  · rw [order]
    exact sourceUpdate_bindings _ _ _ _ (opuLatch true true (latchSet s).drawn)

theorem stopRequest_source {i : Fin 96} (latch : s.bindings i ≠ (.stopReq, none)) :
    (stopRequest s).source i = s.source i := by
  rcases stopRequest_cases s with ⟨same, -⟩ | ⟨-, order | order⟩
  · rw [same]
  · rw [order]
    exact sourceUpdate_source_ne (s := (latchSet s).drawn) latch _ _
  · rw [order]
    exact sourceUpdate_source_ne (s := opuLatch true true (latchSet s).drawn) latch _ _

end

end Sys2Proof.Machine
end

section
/-! SUPPORT. A channel after a change of its hardware gate (R40 to R42). -/

namespace Sys2Proof.Machine

open Sys2Proof.Claims

section

variable {c : Fin 8} {s : State}

theorem gateFor_gated {n : Fin 32} (plain : s.cal.channels[c].role = .noRole)
    (gate : s.cal.channels[c].hardwareGate = some n) (soft : Bool) :
    s.gateFor c soft = (soft && (s.active n == (s.cal.channels[c].gatePolarity == .active))) := by
  unfold State.gateFor State.gatePermits ChannelItem.hasRole
  rw [plain, gate]
  rfl

/-- A re-evaluation does nothing to a channel in mode OFF, to a role channel, and to a gate that stands so. -/
theorem reevaluate_stays (h : s.cal.channels[c].mode = .off ∨ s.cal.channels[c].role ≠ .noRole
    ∨ s.gateFor c s.ccu.channels[c].softGate = s.ccu.channels[c].gateOpen) : reevaluate c s = s := by
  unfold reevaluate
  exact if_pos (by
    rw [Bool.or_eq_true, Bool.or_eq_true, decide_eq_true_eq, hasRole_iff, decide_eq_true_eq, or_assoc]
    exact h)

theorem reevaluate_moves (mode : s.cal.channels[c].mode ≠ .off) (plain : s.cal.channels[c].role = .noRole)
    (moves : s.gateFor c s.ccu.channels[c].softGate ≠ s.ccu.channels[c].gateOpen) :
    reevaluate c s = if s.gateFor c s.ccu.channels[c].softGate then gateOpens c s
      else s.setChannel c (s.ccu.channels[c].closed s.ccu.channels[c].count) := by
  unfold reevaluate
  rw [if_neg (by
    rw [Bool.or_eq_true, Bool.or_eq_true, decide_eq_true_eq, hasRole_iff, decide_eq_true_eq, or_assoc]
    rintro (off | role | stands)
    · exact mode off
    · exact role plain
    · exact moves stands), count_plain plain]

/-- A count cleared at an opening and published (R41, R53). -/
theorem publish_cleared (plain : s.cal.channels[c].role = .noRole) :
    (publishCount c (s.putCount c 0)).ccu.channels[c]
      = Channel.published { s.ccu.channels[c] with count := 0 } 0 s.pwc.uptime := by
  rw [putCount_of_noRole plain, publishCount_channel, count_plain (by exact plain), setChannel_same]
  rfl

/-- An opening of the gate (R41). -/
theorem gateOpens_channel (mode : s.cal.channels[c].mode ≠ .off) (plain : s.cal.channels[c].role = .noRole)
    (shut : s.ccu.channels[c].gateOpen = false) :
    (gateOpens c s).ccu.channels[c] = gateChanged s.cal.channels[c] s.ccu.channels[c] true s.pwc.uptime := by
  have never : ¬(s.cal.channels[c].mode = .off ∨ s.cal.channels[c].role ≠ .noRole
      ∨ true = s.ccu.channels[c].gateOpen) := by
    rw [shut]
    rintro (off | role | stands)
    · exact mode off
    · exact role plain
    · cases stands
  unfold gateChanged
  rw [if_neg never, if_neg nofun]
  generalize taken : s.setChannel c { s.ccu.channels[c] with gateOpen := true } = u
  have record : u.ccu.channels[c] = { s.ccu.channels[c] with gateOpen := true } := by
    rw [← taken]
    exact setChannel_same c s _
  have whole : gateOpens c s = if s.cal.channels[c].mode.counts then
      (if s.cal.channels[c].clearOnOpen then publishCount c (u.putCount c 0) else u)
      else u.setChannel c (u.ccu.channels[c].begin s.cal.channels[c] u.now) := by
    rw [← taken]
    rfl
  have cleared : (publishCount c (u.putCount c 0)).ccu.channels[c] = _ :=
    publish_cleared (by rw [← taken]; exact plain)
  have uptime : u.pwc.uptime = s.pwc.uptime := by rw [← taken]; rfl
  rw [whole]
  cases which : s.cal.channels[c].mode
  case off => exact absurd which mode
  case rate | width =>
    rw [if_neg (by decide), setChannel_same, record, Channel.begin, which, State.now_eq, uptime]
    rfl
  case total | timer | follow =>
    rw [if_pos (by decide)]
    cases s.cal.channels[c].clearOnOpen with
    | false => exact record
    | true =>
      rw [if_pos rfl, cleared, record, uptime]
      rfl

/-- A channel takes what its gate gives it at a change of its hardware gate (R40 to R42). -/
theorem reevaluate_channel {n : Fin 32} (gate : s.cal.channels[c].hardwareGate = some n) :
    (reevaluate c s).ccu.channels[c] = gateChanged s.cal.channels[c] s.ccu.channels[c]
      (s.ccu.channels[c].softGate && (s.active n == (s.cal.channels[c].gatePolarity == .active))) s.pwc.uptime := by
  by_cases off : s.cal.channels[c].mode = .off
  · rw [reevaluate_stays (.inl off), gateChanged, if_pos (.inl off)]
  by_cases plain : s.cal.channels[c].role = .noRole
  · rw [← gateFor_gated plain gate]
    by_cases stands : s.gateFor c s.ccu.channels[c].softGate = s.ccu.channels[c].gateOpen
    · rw [reevaluate_stays (.inr (.inr stands)), gateChanged, if_pos (.inr (.inr stands))]
    · rw [reevaluate_moves off plain stands]
      cases opens : s.gateFor c s.ccu.channels[c].softGate with
      | true =>
        rw [opens] at stands
        rw [if_pos rfl]
        exact gateOpens_channel off plain (Bool.eq_false_iff.mpr fun isOpen => stands isOpen.symm)
      | false =>
        rw [opens] at stands
        rw [if_neg nofun, setChannel_same, gateChanged, if_neg, if_pos rfl]
        · rfl
        · rintro (mode | role | same)
          · exact off mode
          · exact role plain
          · exact stands same
  · rw [reevaluate_stays (.inr (.inl plain)), gateChanged, if_pos (.inr (.inl plain))]

theorem publishCount_shows (free : s.ccu.channels[c].holdOff = none) {i : Fin 96}
    (bound : s.bindings i = (.channel, sourceOf c)) : (publishCount c s).shows i (clampCount (s.count c)) := by
  unfold publishCount
  rw [if_pos (by rw [free]; rfl)]
  exact sourceUpdate_shows (by exact bound) _

/-- A counting channel that its gate opens with clear-on-open gives its slots the 0 (R41, R53). -/
theorem reevaluate_shows {n : Fin 32} (gate : s.cal.channels[c].hardwareGate = some n)
    (counts : s.cal.channels[c].mode.counts = true) (plain : s.cal.channels[c].role = .noRole)
    (shut : s.ccu.channels[c].gateOpen = false)
    (opens : (s.ccu.channels[c].softGate && (s.active n == (s.cal.channels[c].gatePolarity == .active))) = true)
    (clear : s.cal.channels[c].clearOnOpen = true) (free : s.ccu.channels[c].holdOff = none) {i : Fin 96}
    (bound : s.bindings i = (.channel, sourceOf c)) : (reevaluate c s).shows i 0 := by
  have mode : s.cal.channels[c].mode ≠ .off := fun off => by
    rw [off] at counts
    cases counts
  rw [← gateFor_gated plain gate] at opens
  rw [reevaluate_moves mode plain (by rw [opens, shut]; decide), if_pos opens, gateOpens]
  dsimp only
  generalize taken : s.setChannel c { s.ccu.channels[c] with gateOpen := true } = u
  have plain' : u.cal.channels[c].role = .noRole := by
    rw [← taken]
    exact plain
  have record : u.ccu.channels[c] = { s.ccu.channels[c] with gateOpen := true } := by
    rw [← taken]
    exact setChannel_same c s _
  have bound' : u.bindings i = (.channel, sourceOf c) := by
    rw [← taken]
    exact bound
  rw [if_pos counts, if_pos clear, putCount_of_noRole plain']
  generalize zeroed : u.setChannel c { u.ccu.channels[c] with count := 0 } = w
  have cleared : w.ccu.channels[c] = { u.ccu.channels[c] with count := 0 } := by
    rw [← zeroed]
    exact setChannel_same c u _
  have zero : w.count c = 0 := by
    rw [count_plain (by rw [← zeroed]; exact plain'), cleared]
  have shown : (publishCount c w).shows i (clampCount (w.count c)) :=
    publishCount_shows (by rw [cleared, record]; exact free) (by rw [← zeroed]; exact bound')
  rw [zero] at shown
  exact shown

/-! ## What the other deliveries of a change leave -/

theorem reevaluate_other {k : Fin 8} (other : c ≠ k) : (reevaluate k s).ccu.channels[c] = s.ccu.channels[c] :=
  (channel_event other s.ccu.channels[c]).reevaluate rfl

theorem reevaluate_roles (k : Fin 8) : (reevaluate k s).roles = s.roles := (roles_event k s.roles).reevaluate rfl

theorem reevaluate_outside (k : Fin 8) : (reevaluate k s).outsideChannels = s.outsideChannels :=
  (channels_closed _).reevaluate rfl

theorem reevaluate_bindings (k : Fin 8) : (reevaluate k s).bindings = s.bindings :=
  ((bindings_closed s.bindings).channel (fun _ _ h => h) k).reevaluate rfl

theorem reevaluate_source {k : Fin 8} {i : Fin 96} (elsewhere : s.bindings i ≠ (.channel, sourceOf k)) :
    (reevaluate k s).source i = s.source i :=
  ((source_event (c := k) (x := s.source i) (cal := s.cal) fun bound => absurd bound elsewhere).reevaluate ⟨rfl, rfl⟩).2

theorem reevaluate_doorCopies (k : Fin 8) : (reevaluate k s).opu.doorCopies = s.opu.doorCopies :=
  ((doorCopies_closed s.opu.doorCopies).channel (fun _ _ h => h) k).reevaluate rfl

end

end Sys2Proof.Machine
end

section
/-! SUPPORT. An acknowledgement of one entry of the Active Warning List, with its refill (R88, R89, R91). -/

namespace Sys2Proof.Machine

open Sys2Proof.Claims

namespace WreEvent

variable (s : State) (e : WreEvent) (r : Fin 48)

/-- Whether an acknowledged rule starts its re-announce interval (R94). -/
def restarts : Bool := e.wre.rules[r].phase = .active && s.cal.rules[r].reAnnounces

theorem acknowledge_latched (latched : e.wre.rules[r].phase = .latched) :
    e.acknowledge s r = (e.toIdle r).remove r := by
  unfold acknowledge
  exact if_pos latched

theorem acknowledge_listed (open_ : e.wre.rules[r].phase ≠ .latched) :
    e.acknowledge s r = if e.restarts s r then
        (e.mark r true).setRule r { e.wre.rules[r] with
          reAnnounceTimer := startTimer s.now (s.cal.rules[r].reAnnounce * 60000) }
      else e.mark r true := by
  unfold acknowledge
  exact if_neg open_

theorem acknowledge_changed : (e.acknowledge s r).changed = true := by
  by_cases latched : e.wre.rules[r].phase = .latched
  · rw [acknowledge_latched s e r latched]
    rfl
  · rw [acknowledge_listed s e r latched]
    split <;> rfl

theorem acknowledge_other {k : Fin 48} (other : k ≠ r) : (e.acknowledge s r).wre.rules[k] = e.wre.rules[k] := by
  by_cases latched : e.wre.rules[r].phase = .latched
  · rw [acknowledge_latched s e r latched]
    exact (setRule_rule ..).trans (if_neg other)
  · rw [acknowledge_listed s e r latched]
    split
    · exact (setRule_rule ..).trans (if_neg other)
    · rfl

/-- The rule of an acknowledged LATCHED entry is IDLE, and the entry is gone (R89). -/
theorem acknowledge_ends (latched : e.wre.rules[r].phase = .latched) :
    (e.acknowledge s r).wre.rules[r] = returned e.wre.rules[r] ∧ (e.acknowledge s r).Unlisted r := by
  rw [acknowledge_latched s e r latched]
  exact ⟨(setRule_rule ..).trans (if_pos rfl), (e.toIdle r).remove_unlisted⟩

theorem mark_list (y : WarningEntry) (ack : Bool) (other : y.rule ≠ r) :
    y ∈ (e.mark r ack).wre.list ↔ y ∈ e.wre.list := by
  show y ∈ e.wre.list.map _ ↔ _
  rw [List.mem_map]
  constructor
  · rintro ⟨x, hx, rfl⟩
    split at other
    · next same => exact absurd same other
    · next apart =>
      rw [if_neg apart]
      exact hx
  · intro hy
    exact ⟨y, hy, if_neg other⟩

theorem mark_marked {y : WarningEntry} (ack : Bool) (listed : y ∈ e.wre.list) (rule : y.rule = r) :
    ⟨r, ack⟩ ∈ (e.mark r ack).wre.list := by
  subst rule
  exact List.mem_map.mpr ⟨y, listed, if_pos rfl⟩

/-- The rule of another acknowledged entry keeps its state, and an ACTIVE one with an interval starts it (R89, R94). -/
theorem acknowledge_keeps (listed : ∃ y ∈ e.wre.list, y.rule = r) (stands : e.wre.rules[r].phase ≠ .latched) :
    ⟨r, true⟩ ∈ (e.acknowledge s r).wre.list ∧ (e.acknowledge s r).wre.rules[r] = { e.wre.rules[r] with
      reAnnounceTimer := if e.wre.rules[r].phase = .active ∧ s.cal.rules[r].reAnnounce ≠ 0
          ∧ s.cal.rules[r].cls ≠ .advise then
        startTimer s.pwc.uptime (s.cal.rules[r].reAnnounce * 60000) else e.wre.rules[r].reAnnounceTimer } := by
  obtain ⟨y, hy, rule⟩ := listed
  have restarts : e.restarts s r = true ↔ e.wre.rules[r].phase = .active ∧ s.cal.rules[r].reAnnounce ≠ 0
      ∧ s.cal.rules[r].cls ≠ .advise := by
    unfold WreEvent.restarts RuleItem.reAnnounces
    rw [Bool.and_eq_true, Bool.and_eq_true, decide_eq_true_eq, bne_iff_ne, bne_iff_ne]
  rw [acknowledge_listed s e r stands]
  by_cases again : e.restarts s r = true
  · rw [if_pos again, if_pos (restarts.mp again)]
    exact ⟨mark_marked e r true hy rule, (setRule_rule ..).trans (if_pos rfl)⟩
  · rw [if_neg again, if_neg fun h => again (restarts.mpr h)]
    exact ⟨mark_marked e r true hy rule, rfl⟩

theorem acknowledge_list (y : WarningEntry) (other : y.rule ≠ r) :
    y ∈ (e.acknowledge s r).wre.list ↔ y ∈ e.wre.list := by
  by_cases latched : e.wre.rules[r].phase = .latched
  · rw [acknowledge_latched s e r latched, remove_list]
    exact and_iff_left other
  · rw [acknowledge_listed s e r latched]
    split <;> exact mark_list e r y true other

theorem acknowledge_length : (e.acknowledge s r).wre.list.length ≤ e.wre.list.length := by
  by_cases latched : e.wre.rules[r].phase = .latched
  · rw [acknowledge_latched s e r latched]
    exact List.length_filter_le _ _
  · rw [acknowledge_listed s e r latched]
    split <;> exact (List.length_map _).le

/-- The rule of an acknowledged entry is not SUPPRESSED. -/
theorem acknowledge_not_suppressed (listed : ∃ y ∈ e.wre.list, y.rule = r)
    (entered : e.wre.rules[r].phase ≠ .suppressed) : (e.acknowledge s r).wre.rules[r].phase ≠ .suppressed := by
  by_cases latched : e.wre.rules[r].phase = .latched
  · rw [(acknowledge_ends s e r latched).1]
    exact nofun
  · rw [(acknowledge_keeps s e r listed latched).2]
    exact entered

end WreEvent

/-- An acknowledgement of an entry acts on its rule, and the open place is refilled (R88, R89). -/
theorem acknowledge_refill {s t : State} {r : Fin 48} (agrees : ListAgrees s.wre)
    (listed : ∃ y ∈ s.wre.list, y.rule = r)
    (wre : t.wre = ((s.wre.event.acknowledge s r).refillAll s).wre) :
    Acknowledged s t r ∧ OthersRefill s t (fun k => k = r) := by
  have entered : s.wre.rules[r].phase ≠ .suppressed := fun waits => by
    rcases (agrees.2.2 r).mp listed with h | h | h <;> rw [h] at waits <;> cases waits
  have rests := s.wre.event.acknowledge_not_suppressed s r listed entered
  have refills := (s.wre.event.acknowledge s r).refillAll_refills s
  have full := (s.wre.event.acknowledge s r).refillAll_full s
    (le_trans (s.wre.event.acknowledge_length s r) agrees.1)
  have kept : t.wre.rules[r] = (s.wre.event.acknowledge s r).wre.rules[r] := by
    rw [wre]
    exact refills.of_not_suppressed rests
  have other {k : Fin 48} (hk : k ≠ r) : (s.wre.event.acknowledge s r).wre.rules[k] = s.wre.rules[k] :=
    s.wre.event.acknowledge_other s r hk
  refine ⟨⟨fun latched => ?_, fun stands => ?_⟩, fun k hk stands => ?_, fun k hk _ => ?_,
    fun a b ha hb a_waits b_waits before => ?_, ?_, fun y hy given => ?_, fun y hy given => ?_⟩
  · obtain ⟨rule, gone⟩ := s.wre.event.acknowledge_ends s r latched
    refine ⟨kept.trans rule, fun y hy same => ?_⟩
    rw [wre] at hy
    rcases refills.adds y hy with old | ⟨suppressed, -⟩
    · exact gone y old same
    · exact rests (same ▸ suppressed)
  · obtain ⟨marked, rule⟩ := s.wre.event.acknowledge_keeps s r listed stands
    rw [wre] at kept ⊢
    exact ⟨refills.keeps _ marked, kept.trans rule⟩
  · rw [wre, refills.of_not_suppressed (by rw [other hk]; exact stands), other hk]
  · rw [wre, ← other hk]
    exact (refills.rule k).imp_right fun ⟨_, entered, listed⟩ => ⟨entered, listed⟩
  · rw [← other ha] at a_waits
    rw [← other hb] at b_waits
    rw [wre]
    refine refills.first a b a_waits b_waits ?_
    rw [precedes_congr s (congrArg RuleState.confirmedTime (other ha)) (congrArg RuleState.confirmedTime (other hb))]
    exact before_iff_precedes.mp before
  · rintro ⟨k, -, waits⟩
    rw [wre] at waits ⊢
    exact full.resolve_right fun none => none k waits
  · rw [wre]
    exact refills.keeps y ((s.wre.event.acknowledge_list s r y given).mpr hy)
  · rw [wre] at hy
    rw [← other given]
    exact (refills.adds y hy).imp_left (s.wre.event.acknowledge_list s r y given).mp

/-- An activation of the acknowledge input acknowledges the first unacknowledged entry (R91). -/
theorem wreAcknowledgeInput_acknowledges {s : State} (agrees : ListAgrees s.wre) {y : WarningEntry}
    (first : (s.wre.list.find? fun x => !x.acknowledged) = some y) :
    Acknowledged s (wreAcknowledgeInput s) y.rule ∧ OthersRefill s (wreAcknowledgeInput s) (fun k => k = y.rule)
      ∧ NoticeOnAll flagWarnings (wreAcknowledgeInput s) := by
  have whole : wreAcknowledgeInput s = wreEvent (fun e => (e.acknowledge s y.rule).refillAll s) s := by
    unfold wreAcknowledgeInput
    rw [first]
  rw [whole]
  obtain ⟨acknowledged, refilled⟩ := acknowledge_refill
    (t := wreEvent (fun e => (e.acknowledge s y.rule).refillAll s) s)
    agrees ⟨y, List.mem_of_find?_eq_some first, rfl⟩ (wreEvent_wre _ s)
  exact ⟨acknowledged, refilled, fun p =>
    wreFinish_notice ((eventClosed_changed s).refillAll (s.wre.event.acknowledge_changed s y.rule)) p⟩

theorem wreAcknowledgeInput_none {s : State} (all : ∀ y ∈ s.wre.list, y.acknowledged = true) :
    wreAcknowledgeInput s = s := by
  have none : (s.wre.list.find? fun x => !x.acknowledged) = none :=
    List.find?_eq_none.mpr fun y hy => by rw [all y hy]; exact nofun
  unfold wreAcknowledgeInput
  rw [none]

theorem wreAcknowledgeInput_doorCopies (s : State) : (wreAcknowledgeInput s).opu.doorCopies = s.opu.doorCopies := by
  unfold wreAcknowledgeInput
  split
  · rfl
  · exact Opu.doorCopies_of_outsideWarnings (wreFinish_opu _ s)

/-- What an acknowledgement says of two states, said of others that agree in all it speaks of. -/
theorem acknowledged_congr {s s' t t' : State} {r : Fin 48} (cal : s'.cal = s.cal) (wre : s'.wre = s.wre)
    (uptime : s'.pwc.uptime = s.pwc.uptime) (after : t'.wre = t.wre) :
    (Acknowledged s' t' r ↔ Acknowledged s t r)
      ∧ (OthersRefill s' t' (fun k => k = r) ↔ OthersRefill s t (fun k => k = r)) := by
  unfold Acknowledged OthersRefill Before
  rw [cal, wre, uptime, after]
  exact ⟨Iff.rfl, Iff.rfl⟩

end Sys2Proof.Machine
end

section
/-! SUPPORT. The users of a debounced change of a switch input (R23, Table 12), taken in any order. -/

namespace Sys2Proof.Machine

open Sys2Proof.Claims

/-! ## The users -/

/-- The users of a change that are neither doors nor the stop-request logic, for some channels. -/
def besideUsers (n : Fin 32) (s : State) (gates : List (Fin 8)) : List Delivery :=
  (s.boundTo .switch (some n)).map (fun i => sgtUpdate i .valid (if s.active n then 1 else 0)) ++ gates.map reevaluate
    ++ (if s.active n && s.cal.general.ackInput == some n then [wreAcknowledgeInput] else [])

/-- The stop-request logic as a user of a change. -/
def stopUsers (n : Fin 32) (s : State) : List Delivery :=
  if s.active n && s.cal.stopInput n then [stopRequest] else []

/-- The users of a change, for some doors and channels. -/
def usersOf (n : Fin 32) (s : State) (doors : List (Fin 4)) (gates : List (Fin 8)) : List Delivery :=
  doors.map (fun d => doorInput d n) ++ (stopUsers n s ++ besideUsers n s gates)

theorem switchUsers_perm (n : Fin 32) (s : State) :
    (switchUsers n s).Perm (usersOf n s (doorsOn s.cal n) (gatesOn s.cal n)) := by
  unfold switchUsers usersOf besideUsers stopUsers
  generalize (s.boundTo .switch (some n)).map (fun i => sgtUpdate i .valid (if s.active n then 1 else 0)) = slots
  generalize (doorsOn s.cal n).map (fun d => doorInput d n) = doors
  generalize (gatesOn s.cal n).map reevaluate = gates
  generalize (if (s.active n && s.cal.stopInput n) = true then [stopRequest] else []) = stop
  generalize (if (s.active n && s.cal.general.ackInput == some n) = true then [wreAcknowledgeInput] else []) = ack
  rw [← Multiset.coe_eq_coe]
  simp only [← Multiset.coe_add]
  abel

theorem usersOf_door (n : Fin 32) (s : State) {doors : List (Fin 4)} (gates : List (Fin 8)) {d : Fin 4}
    (hd : d ∈ doors) :
    (usersOf n s doors gates).Perm (doorInput d n :: usersOf n s (doors.erase d) gates) :=
  ((List.perm_cons_erase hd).map fun d => doorInput d n).append_right _

theorem besideUsers_gate (n : Fin 32) (s : State) {gates : List (Fin 8)} {c : Fin 8} (hc : c ∈ gates) :
    (besideUsers n s gates).Perm (reevaluate c :: besideUsers n s (gates.erase c)) := by
  unfold besideUsers
  rw [List.append_assoc, List.append_assoc]
  exact ((((List.perm_cons_erase hc).map reevaluate).append_right _).append_left _).trans List.perm_middle

theorem usersOf_gate (n : Fin 32) (s : State) (doors : List (Fin 4)) {gates : List (Fin 8)} {c : Fin 8}
    (hc : c ∈ gates) :
    (usersOf n s doors gates).Perm (reevaluate c :: usersOf n s doors (gates.erase c)) := by
  unfold usersOf
  exact ((((besideUsers_gate n s hc).append_left _).trans List.perm_middle).append_left _).trans List.perm_middle

/-- What the users are that are neither doors nor the stop-request logic. -/
inductive BesideUser (n : Fin 32) (s : State) (gates : List (Fin 8)) : Delivery → Prop
  | slot {i : Fin 96} (bound : s.bindings i = (.switch, some n)) :
      BesideUser n s gates (sgtUpdate i .valid (if s.active n then 1 else 0))
  | gate {c : Fin 8} (listed : c ∈ gates) : BesideUser n s gates (reevaluate c)
  | acknowledge (on : s.active n = true) (input : s.cal.general.ackInput = some n) :
      BesideUser n s gates wreAcknowledgeInput

theorem mem_besideUsers {n : Fin 32} {s : State} {gates : List (Fin 8)} {e : Delivery}
    (h : e ∈ besideUsers n s gates) : BesideUser n s gates e := by
  rcases List.mem_append.mp h with h | h
  · rcases List.mem_append.mp h with h | h
    · obtain ⟨i, hi, rfl⟩ := List.mem_map.mp h
      exact .slot (mem_boundTo.mp hi)
    · obtain ⟨c, hc, rfl⟩ := List.mem_map.mp h
      exact .gate hc
  · split at h
    · next acts =>
      rw [Bool.and_eq_true, beq_iff_eq] at acts
      rw [List.mem_singleton.mp h]
      exact .acknowledge acts.1 acts.2
    · simp at h

theorem mem_stopUsers {n : Fin 32} {s : State} {e : Delivery} (h : e ∈ stopUsers n s) :
    e = stopRequest ∧ s.active n = true ∧ some n ∈ s.cal.general.stopInputs.toList := by
  unfold stopUsers at h
  split at h
  · next acts =>
    rw [Bool.and_eq_true] at acts
    exact ⟨List.mem_singleton.mp h, acts.1, of_decide_eq_true acts.2⟩
  · simp at h

/-- What a user is: a door, the stop-request logic, or another. -/
theorem mem_usersOf {n : Fin 32} {s : State} {doors : List (Fin 4)} {gates : List (Fin 8)} {e : Delivery}
    (h : e ∈ usersOf n s doors gates) :
    (∃ d ∈ doors, e = doorInput d n) ∨ e = stopRequest ∨ BesideUser n s gates e := by
  rcases List.mem_append.mp h with h | h
  · obtain ⟨d, hd, rfl⟩ := List.mem_map.mp h
    exact .inl ⟨d, hd, rfl⟩
  · rcases List.mem_append.mp h with h | h
    · exact .inr (.inl (mem_stopUsers h).1)
    · exact .inr (.inr (mem_besideUsers h))

/-! ## What the other users leave -/

theorem inputs_of_outsideDeliveries {s t : State} (h : t.outsideDeliveries = s.outsideDeliveries) :
    t.inputs = s.inputs := (congrArg State.inputs h :)

theorem power_of_outsideDeliveries {s t : State} (h : t.outsideDeliveries = s.outsideDeliveries) :
    t.pwc.power = s.pwc.power := (congrArg (fun u : State => u.pwc.power) h :)

theorem uptime_of_outsideDeliveries {s t : State} (h : t.outsideDeliveries = s.outsideDeliveries) :
    t.pwc.uptime = s.pwc.uptime := uptime_of_inputs (inputs_of_outsideDeliveries h)

section

variable {n : Fin 32} {s u : State} {gates : List (Fin 8)} {e : Delivery}

theorem BesideUser.drs (h : BesideUser n s gates e) : (e u).drs = u.drs := by
  cases h with
  | slot _ => exact drs_of_outside (sgtUpdate_outside _ _ _ u)
  | gate _ => exact drs_of_outsideChannels (reevaluate_outside _)
  | acknowledge _ _ => exact drs_of_outside (outsideSignals_of (wreAcknowledgeInput_outside u))

theorem BesideUser.doorCopies (h : BesideUser n s gates e) : (e u).opu.doorCopies = u.opu.doorCopies := by
  cases h with
  | slot _ =>
    have closed := doorCopies_closed u.opu.doorCopies
    exact closed.alter (closed.setSlot _ _ _ u rfl)
  | gate _ => exact reevaluate_doorCopies _
  | acknowledge _ _ => exact wreAcknowledgeInput_doorCopies u

theorem wreAcknowledgeInput_slots (s : State) : (wreAcknowledgeInput s).slots = s.slots :=
  slots_of_outsideWarnings (wreAcknowledgeInput_outside s)

theorem BesideUser.bindings (h : BesideUser n s gates e) : (e u).bindings = u.bindings := by
  cases h with
  | slot _ =>
    have closed := bindings_closed u.bindings
    exact closed.alter (closed.setSlot _ _ _ u rfl)
  | gate _ => exact reevaluate_bindings _
  | acknowledge _ _ => exact bindings_of_slots (wreAcknowledgeInput_slots u)

/-- A slot bound to no switch and to none of the channels keeps what its source left. -/
theorem BesideUser.source (h : BesideUser n s gates e) (same : u.bindings = s.bindings) {i : Fin 96}
    (slot : u.bindings i ≠ (.switch, some n)) (gate : ∀ c ∈ gates, u.bindings i ≠ (.channel, sourceOf c)) :
    (e u).source i = u.source i := by
  cases h with
  | @slot j bound =>
    rw [sgtUpdate_source, Function.update_of_ne]
    rintro rfl
    rw [same, bound] at slot
    exact slot rfl
  | gate listed => exact reevaluate_source (gate _ listed)
  | acknowledge _ _ => exact congrFun (State.source_of_slots (wreAcknowledgeInput_slots u)) i

theorem BesideUser.channel (h : BesideUser n s gates e) {c : Fin 8} (apart : c ∉ gates) :
    (e u).ccu.channels[c] = u.ccu.channels[c] := by
  cases h with
  | slot _ => rw [ccu_of_outside (sgtUpdate_outside _ _ _ u)]
  | @gate k listed =>
    refine reevaluate_other fun same => apart ?_
    rw [same]
    exact listed
  | acknowledge _ _ => rw [ccu_of_outside (outsideSignals_of (wreAcknowledgeInput_outside u))]

theorem BesideUser.roles (h : BesideUser n s gates e) : (e u).roles = u.roles := by
  cases h with
  | slot _ => exact roles_of_outside (sgtUpdate_outside _ _ _ u)
  | gate _ => exact reevaluate_roles _
  | acknowledge _ _ => exact roles_of_outside (outsideSignals_of (wreAcknowledgeInput_outside u))

theorem BesideUser.outside (h : BesideUser n s gates e) : (e u).outsideDeliveries = u.outsideDeliveries := by
  cases h with
  | slot _ => exact outsideDeliveries_of_doors (outsideDoors_of (sgtUpdate_outside _ _ _ u))
  | gate _ => exact (deliveries_closed_channels _).reevaluate rfl
  | acknowledge _ _ =>
    exact outsideDeliveries_of_doors (outsideDoors_of (outsideSignals_of (wreAcknowledgeInput_outside u)))

theorem holdsFlags_acknowledgeInput (p : Port) (f : Notices) (h : holdsFlags p f s) :
    holdsFlags p f (wreAcknowledgeInput s) := by
  unfold wreAcknowledgeInput
  split
  · exact h
  · exact holdsFlags_wreEvent p f _ h

theorem BesideUser.notice (h : BesideUser n s gates e) {p : Port} {f : Notices} (hu : holdsFlags p f u) :
    holdsFlags p f (e u) := by
  cases h with
  | slot _ => exact (holdsFlags_closed p f).update hu
  | gate _ => exact (holdsFlags_channels p f).reevaluate hu
  | acknowledge _ _ => exact holdsFlags_acknowledgeInput p f hu

end

/-! ## What every user leaves -/

section

variable {n : Fin 32} {s u : State} {doors : List (Fin 4)} {gates : List (Fin 8)} {e : Delivery}

theorem usersOf_outside (h : e ∈ usersOf n s doors gates) : (e u).outsideDeliveries = u.outsideDeliveries := by
  rcases mem_usersOf h with ⟨d, -, rfl⟩ | rfl | beside
  · exact outsideDeliveries_of_doors doorInput_outside
  · exact outsideDeliveries_of_doors stopRequest_outside
  · exact beside.outside

theorem usersOf_bindings (h : e ∈ usersOf n s doors gates) : (e u).bindings = u.bindings := by
  rcases mem_usersOf h with ⟨d, -, rfl⟩ | rfl | beside
  · exact doorInput_bindings
  · exact stopRequest_bindings
  · exact beside.bindings

theorem usersOf_roles (h : e ∈ usersOf n s doors gates) : (e u).roles = u.roles := by
  rcases mem_usersOf h with ⟨d, -, rfl⟩ | rfl | beside
  · exact roles_of_outsideDoors doorInput_outside
  · exact roles_of_outsideDoors stopRequest_outside
  · exact beside.roles

theorem usersOf_channel (h : e ∈ usersOf n s doors gates) {c : Fin 8} (apart : c ∉ gates) :
    (e u).ccu.channels[c] = u.ccu.channels[c] := by
  rcases mem_usersOf h with ⟨d, -, rfl⟩ | rfl | beside
  · rw [ccu_of_outsideDoors doorInput_outside]
  · rw [ccu_of_outsideDoors stopRequest_outside]
  · exact beside.channel apart

theorem usersOf_door_record (h : e ∈ usersOf n s doors gates) {d : Fin 4} (apart : d ∉ doors) :
    (e u).drs.doors[d] = u.drs.doors[d] := by
  rcases mem_usersOf h with ⟨k, hk, rfl⟩ | rfl | beside
  · refine doorInput_other fun same => apart ?_
    rw [same]
    exact hk
  · exact stopRequest_doors d
  · rw [beside.drs]

theorem usersOf_ramp (h : e ∈ usersOf n s doors gates) {d : Fin 4} (apart : d ∉ doors) :
    (e u).opu.ramps[d] = u.opu.ramps[d] := by
  rcases mem_usersOf h with ⟨k, hk, rfl⟩ | rfl | beside
  · rw [doorInput_ramps]
    split
    · refine Vector.getElem_set_ne _ _ fun same => apart ?_
      rw [← Fin.ext same]
      exact hk
    · rfl
  · rw [stopRequest_ramps]
  · have ramps : (e u).opu.ramps = u.opu.ramps := congrArg Prod.fst beside.doorCopies
    rw [ramps]

theorem usersOf_notice (h : e ∈ usersOf n s doors gates) {p : Port} {f : Notices} (hu : holdsFlags p f u) :
    holdsFlags p f (e u) := by
  rcases mem_usersOf h with ⟨d, -, rfl⟩ | rfl | beside
  · exact (holdsFlags_doors p f).input hu
  · exact (holdsFlags_doors p f).stopRequest hu
  · exact beside.notice hu

/-- A slot bound to the switch is left by the doors, the channels and the others. -/
theorem usersOf_source (h : e ∈ usersOf n s doors gates) (same : u.bindings = s.bindings) {i : Fin 96}
    (switch : u.bindings i ≠ (.switch, some n)) (gate : ∀ c ∈ gates, u.bindings i ≠ (.channel, sourceOf c))
    (door : ∀ d ∈ doors, u.bindings i ≠ (.door, doorSource d)) (latch : u.bindings i ≠ (.stopReq, none)) :
    (e u).source i = u.source i := by
  rcases mem_usersOf h with ⟨d, hd, rfl⟩ | rfl | beside
  · exact doorInput_source (door d hd) latch
  · exact stopRequest_source latch
  · exact beside.source same switch gate

/-- A user that alters the latch tells it, and every other keeps what was told (R129). -/
theorem usersOf_told (h : e ∈ usersOf n s doors gates) (same : u.bindings = s.bindings)
    (hu : LatchTold u ∨ (e u).drs.latch ≠ u.drs.latch) : LatchTold (e u) := by
  rcases mem_usersOf h with ⟨d, -, rfl⟩ | rfl | beside
  · exact doorInput_told hu
  · exact stopRequest_told hu
  · have latch : (e u).drs.latch = u.drs.latch := congrArg Drs.latch beside.drs
    have told := hu.resolve_right fun changed => changed latch
    refine ⟨?_, fun p => beside.notice (told.notice p), ?_⟩
    · have copy : (e u).opu.latch = u.opu.latch := congrArg Prod.snd beside.doorCopies
      rw [copy, latch]
      exact told.copy
    · refine latchShown_of_same beside.bindings latch (uptime_of_outsideDeliveries beside.outside)
        (fun i bound => ?_) told.slots
      exact beside.source same (by rw [bound]; exact nofun) fun c _ => by rw [bound]; exact nofun

end

end Sys2Proof.Machine
end

section
/-! SUPPORT. A debounced change in RUN and AFTERRUN, after all its users (R23, R40, R116, R127 to R129). -/

namespace Sys2Proof.Machine

open Sys2Proof.Claims

/-- The state after a debounced change has been delivered to all its users. -/
def afterUsers (n : Fin 32) (s : State) : State := deliverAll (switchUsers n s) s

theorem doorsOn_nodup (c : Calibration) (n : Fin 32) : (doorsOn c n).Nodup := (List.nodup_finRange 4).filter _

theorem gatesOn_nodup (c : Calibration) (n : Fin 32) : (gatesOn c n).Nodup := (List.nodup_finRange 8).filter _

theorem mem_doorsOn {c : Calibration} {n : Fin 32} {d : Fin 4} : d ∈ doorsOn c n ↔ c.doors[d].present = true
    ∧ (c.doors[d].closedInput = n ∨ some n ∈ [c.doors[d].openInput, c.doors[d].edgeInput, c.doors[d].releaseInput,
      c.doors[d].lockedInput, c.doors[d].rampInput]) := by
  unfold doorsOn allDoors DoorItem.inputs
  rw [List.mem_filter, Bool.and_eq_true, List.contains_iff_mem, List.mem_filterMap]
  simp only [List.mem_finRange, true_and, id_eq, exists_eq_right, List.mem_cons, List.not_mem_nil, or_false,
    Option.some.injEq, eq_comm (a := n)]

theorem mem_gatesOn {c : Calibration} {n : Fin 32} {k : Fin 8} :
    k ∈ gatesOn c n ↔ c.channels[k].hardwareGate = some n := by
  unfold gatesOn allEight
  rw [List.mem_filter, beq_iff_eq]
  exact and_iff_right (List.mem_finRange k)

section

variable {n : Fin 32} {s : State}

/-- Every user is taken once, in some order. -/
theorem afterUsers_delivered : ∃ l, l.Perm (usersOf n s (doorsOn s.cal n) (gatesOn s.cal n))
    ∧ Delivered l s (afterUsers n s) := by
  obtain ⟨l, perm, run⟩ := deliverAll_delivered (switchUsers n s) s
  exact ⟨l, perm.trans (switchUsers_perm n s), run⟩

/-- What every user keeps holds in the end. -/
theorem afterUsers_induct {P : State → Prop} (drawn : ∀ u, P u → P u.drawn)
    (keeps : ∀ e ∈ usersOf n s (doorsOn s.cal n) (gatesOn s.cal n), ∀ u, P u → P (e u)) (hs : P s) :
    P (afterUsers n s) := by
  obtain ⟨l, perm, run⟩ := afterUsers_delivered (n := n) (s := s)
  exact run.induct drawn (fun e he => keeps e (perm.mem_iff.mp he)) hs

theorem afterUsers_outside : (afterUsers n s).outsideDeliveries = s.outsideDeliveries :=
  afterUsers_induct (P := fun u => u.outsideDeliveries = s.outsideDeliveries) (fun _ h => h)
    (fun _ he _ h => (usersOf_outside he).trans h) rfl

theorem afterUsers_roles : (afterUsers n s).roles = s.roles :=
  afterUsers_induct (P := fun u => u.roles = s.roles) (fun _ h => h) (fun _ he _ h => (usersOf_roles he).trans h) rfl

/-! ## The doors -/

theorem afterUsers_door_other {d : Fin 4} (apart : d ∉ doorsOn s.cal n) :
    (afterUsers n s).drs.doors[d] = s.drs.doors[d] :=
  afterUsers_induct (P := fun u => u.drs.doors[d] = s.drs.doors[d]) (fun _ h => h)
    (fun _ he _ h => (usersOf_door_record he apart).trans h) rfl

/-- The record that a change leaves of a door that names the input (R115 to R125, R127). -/
def doorFinal (n : Fin 32) (s : State) (d : Fin 4) : DoorRecord :=
  doorAfter s.cal.doors[d] (rampedRecord s.cal.doors[d] n (s.active n) s.drs.doors[d]) n
    (fun k => s.switches[k].active) s.pwc.uptime

theorem doorInput_final {d : Fin 4} {u : State} (outside : u.outsideDeliveries = s.outsideDeliveries)
    (before : u.drs.doors[d] = s.drs.doors[d]) : (doorInput d n u).drs.doors[d] = doorFinal n s d := by
  have inputs := inputs_of_outsideDeliveries outside
  have active : (fun k : Fin 32 => u.switches[k].active) = fun k => s.switches[k].active :=
    funext (active_of_inputs inputs)
  rw [doorInput_door, doorFinal, before, cal_of_inputs inputs, uptime_of_inputs inputs, active,
    active_of_inputs inputs n]

/-- What a change leaves of a door that names the input: its record, the DOORS notice and the ramp (R126, R127). -/
structure DoorTurned (n : Fin 32) (s : State) (d : Fin 4) (u : State) : Prop where
  record : u.drs.doors[d] = doorFinal n s d
  notice : doorFinal n s d ≠ s.drs.doors[d] → NoticeOnAll flagDoors u
  ramp : s.cal.doors[d].rampInput = some n → u.opu.ramps[d] = s.active n

theorem afterUsers_door {d : Fin 4} (named : d ∈ doorsOn s.cal n) : DoorTurned n s d (afterUsers n s) := by
  obtain ⟨l, perm, run⟩ := afterUsers_delivered (n := n) (s := s)
  have apart : d ∉ (doorsOn s.cal n).erase d := fun h => ((doorsOn_nodup s.cal n).mem_erase_iff.mp h).1 rfl
  refine run.turns (P := fun u => u.outsideDeliveries = s.outsideDeliveries ∧ u.drs.doors[d] = s.drs.doors[d])
    (perm.trans (usersOf_door n s (gatesOn s.cal n) named)) (fun _ h => h)
    (fun _ ⟨record, notice, ramp⟩ => ⟨record, notice, ramp⟩) ?_ ?_ ?_ ⟨rfl, rfl⟩
  · rintro e he u ⟨outside, before⟩
    exact ⟨(usersOf_outside he).trans outside, (usersOf_door_record he apart).trans before⟩
  · rintro e he u ⟨record, notice, ramp⟩
    exact ⟨(usersOf_door_record he apart).trans record, fun changed p => usersOf_notice he (notice changed p),
      fun input => (usersOf_ramp he apart).trans (ramp input)⟩
  · rintro u ⟨outside, before⟩
    have record := doorInput_final (n := n) outside before
    have inputs := inputs_of_outsideDeliveries outside
    refine ⟨record, fun changed => doorInput_notice ?_, fun input => ?_⟩
    · rw [record, before]
      exact changed
    · rw [doorInput_ramps, cal_of_inputs inputs, if_pos input, active_of_inputs inputs]
      exact Vector.getElem_set_self _

/-! ## The channels -/

theorem afterUsers_channel_other {c : Fin 8} (apart : s.cal.channels[c].hardwareGate ≠ some n) :
    (afterUsers n s).ccu.channels[c] = s.ccu.channels[c] :=
  afterUsers_induct (P := fun u => u.ccu.channels[c] = s.ccu.channels[c]) (fun _ h => h)
    (fun _ he _ h => (usersOf_channel he fun listed => apart (mem_gatesOn.mp listed)).trans h) rfl

/-- The gate that a change of an input gives a channel whose hardware gate it is (R40). -/
def gateFinal (n : Fin 32) (s : State) (c : Fin 8) : Bool :=
  s.ccu.channels[c].softGate && (s.active n == (s.cal.channels[c].gatePolarity == .active))

/-- What a change leaves of a channel whose hardware gate is the input, and of its slots at a cleared count (R40 to R42,
R53). -/
structure GateTurned (n : Fin 32) (s : State) (c : Fin 8) (u : State) : Prop where
  outside : u.outsideDeliveries = s.outsideDeliveries
  bindings : u.bindings = s.bindings
  record : u.ccu.channels[c] = gateChanged s.cal.channels[c] s.ccu.channels[c] (gateFinal n s c) s.pwc.uptime
  shown : s.cal.channels[c].mode.counts = true → s.cal.channels[c].role = .noRole →
    s.ccu.channels[c].gateOpen = false → gateFinal n s c = true → s.cal.channels[c].clearOnOpen = true →
    s.ccu.channels[c].holdOff = none → ∀ i, s.bindings i = (.channel, sourceOf c) → u.shows i 0

theorem afterUsers_channel {c : Fin 8} (gate : s.cal.channels[c].hardwareGate = some n) :
    GateTurned n s c (afterUsers n s) := by
  obtain ⟨l, perm, run⟩ := afterUsers_delivered (n := n) (s := s)
  have listed := mem_gatesOn.mpr gate
  have apart : c ∉ (gatesOn s.cal n).erase c := fun h => ((gatesOn_nodup s.cal n).mem_erase_iff.mp h).1 rfl
  refine run.turns
    (P := fun u => (u.outsideDeliveries = s.outsideDeliveries ∧ u.bindings = s.bindings)
      ∧ u.ccu.channels[c] = s.ccu.channels[c])
    (perm.trans (usersOf_gate n s (doorsOn s.cal n) listed)) (fun _ h => h)
    (fun _ ⟨outside, bindings, record, shown⟩ => ⟨outside, bindings, record, shown⟩) ?_ ?_ ?_ ⟨⟨rfl, rfl⟩, rfl⟩
  · rintro e he u ⟨⟨outside, bindings⟩, record⟩
    exact ⟨⟨(usersOf_outside he).trans outside, (usersOf_bindings he).trans bindings⟩,
      (usersOf_channel he apart).trans record⟩
  · rintro e he u ⟨outside, bindings, record, shown⟩
    refine ⟨(usersOf_outside he).trans outside, (usersOf_bindings he).trans bindings,
      (usersOf_channel he apart).trans record, fun counts plain shut opens clear free i bound => ?_⟩
    refine shows_of_same ?_ (uptime_of_outsideDeliveries (usersOf_outside he))
      (shown counts plain shut opens clear free i bound)
    rw [← bindings] at bound
    refine usersOf_source he bindings (by rw [bound]; exact nofun) (fun k hk => ?_)
      (fun d _ => by rw [bound]; exact nofun)
      (by rw [bound]; exact nofun)
    rw [bound]
    intro same
    obtain rfl := sourceOf_injective (Prod.mk.inj same).2
    exact apart hk
  · rintro u ⟨⟨outside, bindings⟩, record⟩
    have inputs := inputs_of_outsideDeliveries outside
    have cal := cal_of_inputs inputs
    have member : reevaluate c ∈ usersOf n s (doorsOn s.cal n) (gatesOn s.cal n) :=
      (usersOf_gate n s (doorsOn s.cal n) listed).mem_iff.mpr List.mem_cons_self
    refine ⟨(usersOf_outside member).trans outside, (usersOf_bindings member).trans bindings, ?_,
      fun counts plain shut opens clear free i bound => ?_⟩
    · rw [reevaluate_channel (n := n) (by rw [cal]; exact gate), cal, record, uptime_of_inputs inputs,
        active_of_inputs inputs]
      rfl
    · refine reevaluate_shows (n := n) ?_ ?_ ?_ ?_ ?_ ?_ ?_ ?_
      · rw [cal]; exact gate
      · rw [cal]; exact counts
      · rw [cal]; exact plain
      · rw [record]; exact shut
      · rw [cal, record, active_of_inputs inputs]; exact opens
      · rw [cal]; exact clear
      · rw [record]; exact free
      · rw [bindings]; exact bound

/-! ## The latch -/

/-- Some door becomes OPEN in the change (R120). -/
def opensDoor (n : Fin 32) (s : State) : Prop :=
  ∃ d ∈ doorsOn s.cal n, (doorFinal n s d).state = .doorOpen ∧ s.drs.doors[d].state ≠ .doorOpen

/-- The users other than the doors. -/
def otherUsers (n : Fin 32) (s : State) : List Delivery := stopUsers n s ++ besideUsers n s (gatesOn s.cal n)

theorem otherUsers_outside {e : Delivery} (he : e ∈ otherUsers n s) (u : State) :
    (e u).outsideDeliveries = u.outsideDeliveries :=
  usersOf_outside (doors := doorsOn s.cal n) (List.mem_append_right _ he)

theorem otherUsers_door {e : Delivery} (he : e ∈ otherUsers n s) (d : Fin 4) (u : State) :
    (e u).drs.doors[d] = u.drs.doors[d] := by
  rcases List.mem_append.mp he with he | he
  · rw [(mem_stopUsers he).1]
    exact stopRequest_doors d
  · rw [(mem_besideUsers he).drs]

/-- The changes at the doors are a family: each leaves the other doors, and what the others leave of a property that the
part outside the deliveries and the doors and latch decide. -/
theorem doors_family {P : State → Prop} {others : List Delivery} (drawn : ∀ u, P u → P u.drawn)
    (sub : ∀ e ∈ others, e ∈ otherUsers n s)
    (turn : ∀ d ∈ doorsOn s.cal n, ∀ u, u.outsideDeliveries = s.outsideDeliveries → P u →
      u.drs.doors[d] = s.drs.doors[d] → P (doorInput d n u))
    (keeps : ∀ e ∈ others, ∀ u, u.outsideDeliveries = s.outsideDeliveries → P u → P (e u)) :
    Family (fun d : Fin 4 => doorInput d n) (fun d u => u.drs.doors[d]) (doorsOn s.cal n) others
      (fun u => u.outsideDeliveries = s.outsideDeliveries ∧ P u) s where
  drawn u h := ⟨h.1, drawn u h.2⟩
  drawn_view _ _ := rfl
  keeps e he u h := ⟨(otherUsers_outside (sub e he) u).trans h.1, keeps e he u h.1 h.2⟩
  keeps_view e he d u := otherUsers_door (sub e he) d u
  turn d hd u h before := ⟨(outsideDeliveries_of_doors doorInput_outside).trans h.1, turn d hd u h.1 h.2 before⟩
  turn_view _ _ other _ := doorInput_other other

/-- The latch after a change at a door: that door's opening clears it, and nothing else reaches it (R129). -/
theorem doorInput_latch_final {d : Fin 4} {u : State} (outside : u.outsideDeliveries = s.outsideDeliveries)
    (before : u.drs.doors[d] = s.drs.doors[d]) : (doorInput d n u).drs.latch
      = if (doorFinal n s d).state = .doorOpen ∧ s.drs.doors[d].state ≠ .doorOpen then false else u.drs.latch := by
  rw [doorInput_latch, doorInput_final outside before, before]

end

end Sys2Proof.Machine
end

section
/-! SUPPORT. The stop-request latch after a debounced change in RUN and AFTERRUN (R128, R129). -/

namespace Sys2Proof.Machine

open Sys2Proof.Claims

section

variable {n : Fin 32} {s : State}

theorem stopRequest_latch (u : State) : (stopRequest u).drs.latch
    = if u.pwc.power = .run ∧ u.someDoorOpen = false then true else u.drs.latch := by
  rw [stopRequest_drs]

/-- An OPEN door keeps the stop-request logic from setting the latch. -/
theorem stopRequest_shut_out {u : State} {d : Fin 4} (present : u.cal.doors[d].present = true)
    (isOpen : u.drs.doors[d].state = .doorOpen) : (stopRequest u).drs.latch = u.drs.latch := by
  have some : u.someDoorOpen = true := someDoorOpen_iff.mpr ⟨d, present, isOpen⟩
  rw [stopRequest_latch, if_neg]
  rintro ⟨-, none⟩
  rw [some] at none
  cases none

theorem cal_of_outsideDeliveries {s t : State} (h : t.outsideDeliveries = s.outsideDeliveries) : t.cal = s.cal :=
  cal_of_inputs (inputs_of_outsideDeliveries h)

/-- A door that becomes OPEN clears the latch, whatever is asked before or after (R129). -/
theorem afterUsers_latch_opens (opens : opensDoor n s) : (afterUsers n s).drs.latch = false := by
  obtain ⟨d, named, isOpen, was⟩ := opens
  have present := (mem_doorsOn.mp named).1
  obtain ⟨l, perm, run⟩ := afterUsers_delivered (n := n) (s := s)
  have apart : d ∉ (doorsOn s.cal n).erase d := fun h => ((doorsOn_nodup s.cal n).mem_erase_iff.mp h).1 rfl
  have cleared := run.turns
    (P := fun u => u.outsideDeliveries = s.outsideDeliveries ∧ u.drs.doors[d] = s.drs.doors[d])
    (Q := fun u => u.outsideDeliveries = s.outsideDeliveries ∧ u.drs.doors[d].state = .doorOpen ∧ u.drs.latch = false)
    (perm.trans (usersOf_door n s (gatesOn s.cal n) named)) (fun _ h => h) (fun _ h => h) ?_ ?_ ?_ ⟨rfl, rfl⟩
  · exact cleared.2.2
  · rintro e he u ⟨outside, before⟩
    exact ⟨(usersOf_outside he).trans outside, (usersOf_door_record he apart).trans before⟩
  · rintro e he u ⟨outside, opened, clear⟩
    refine ⟨(usersOf_outside he).trans outside, by rw [usersOf_door_record he apart]; exact opened, ?_⟩
    rcases mem_usersOf he with ⟨k, -, rfl⟩ | rfl | beside
    · rw [doorInput_latch, clear]
      exact ite_self _
    · rw [stopRequest_shut_out (by rw [cal_of_outsideDeliveries outside]; exact present) opened]
      exact clear
    · rw [beside.drs]
      exact clear
  · rintro u ⟨outside, before⟩
    refine ⟨(outsideDeliveries_of_doors doorInput_outside).trans outside, ?_, ?_⟩
    · rw [doorInput_final outside before]
      exact isOpen
    · rw [doorInput_latch_final outside before, if_pos ⟨isOpen, was⟩]

/-- Where no door becomes OPEN, the changes at the doors leave the latch. -/
theorem doorInput_latch_stays (none : ¬opensDoor n s) {d : Fin 4} (named : d ∈ doorsOn s.cal n) {u : State}
    (outside : u.outsideDeliveries = s.outsideDeliveries) (before : u.drs.doors[d] = s.drs.doors[d]) :
    (doorInput d n u).drs.latch = u.drs.latch := by
  rw [doorInput_latch_final outside before, if_neg]
  rintro ⟨isOpen, was⟩
  exact none ⟨d, named, isOpen, was⟩

/-- A property that the changes at the doors and the other users keep holds after the change. -/
theorem afterUsers_family {P : State → Prop} (h : Family (fun d : Fin 4 => doorInput d n) (fun d u => u.drs.doors[d])
    (doorsOn s.cal n) (otherUsers n s) P s) (hs : P s) : P (afterUsers n s) := by
  obtain ⟨l, perm, run⟩ := afterUsers_delivered (n := n) (s := s)
  exact h.holds run perm (doorsOn_nodup s.cal n) (fun _ hd => hd) (fun _ _ => rfl) hs

/-- The latch stays where no door becomes OPEN and the stop-request logic is not asked, or is shut out (R128). -/
theorem afterUsers_latch_stays (none : ¬opensDoor n s)
    (unasked : stopRequest ∈ stopUsers n s → s.pwc.power ≠ .run) :
    (afterUsers n s).drs.latch = s.drs.latch := by
  refine (afterUsers_family (P := fun u => u.outsideDeliveries = s.outsideDeliveries ∧ u.drs.latch = s.drs.latch)
    (doors_family (fun _ h => h) (fun _ he => he) (fun d named u outside same before => ?_)
      (fun e he u outside same => ?_)) ⟨rfl, rfl⟩).2
  · exact (doorInput_latch_stays none named outside before).trans same
  · rcases List.mem_append.mp he with he | he
    · obtain rfl := (mem_stopUsers he).1
      rw [stopRequest_latch, if_neg, same]
      rintro ⟨run, -⟩
      exact unasked he ((power_of_outsideDeliveries outside).symm.trans run)
    · rw [(mem_besideUsers he).drs]
      exact same

/-- The latch stays where a door is OPEN throughout (R128). -/
theorem afterUsers_latch_shut_out (none : ¬opensDoor n s) {d : Fin 4} (present : s.cal.doors[d].present = true)
    (was : s.drs.doors[d].state = .doorOpen) (still : d ∈ doorsOn s.cal n → (doorFinal n s d).state = .doorOpen) :
    (afterUsers n s).drs.latch = s.drs.latch := by
  refine (afterUsers_family (P := fun u => u.outsideDeliveries = s.outsideDeliveries
      ∧ u.drs.latch = s.drs.latch ∧ u.drs.doors[d].state = .doorOpen)
    (doors_family (fun _ h => h) (fun _ he => he) (fun k named u outside same before => ?_)
      (fun e he u outside same => ?_)) ⟨rfl, rfl, was⟩).2.1
  · obtain ⟨latch, isOpen⟩ := same
    refine ⟨(doorInput_latch_stays none named outside before).trans latch, ?_⟩
    by_cases here : d = k
    · subst here
      rw [doorInput_final outside before]
      exact still named
    · rw [doorInput_other here]
      exact isOpen
  · obtain ⟨latch, isOpen⟩ := same
    refine ⟨?_, by rw [otherUsers_door he]; exact isOpen⟩
    rcases List.mem_append.mp he with he | he
    · rw [(mem_stopUsers he).1, stopRequest_shut_out (by rw [cal_of_outsideDeliveries outside]; exact present) isOpen]
      exact latch
    · rw [(mem_besideUsers he).drs]
      exact latch

/-- A set latch stays set where no door becomes OPEN. -/
theorem afterUsers_latch_set (none : ¬opensDoor n s) (set : s.drs.latch = true) :
    (afterUsers n s).drs.latch = true := by
  refine (afterUsers_family (P := fun u => u.outsideDeliveries = s.outsideDeliveries ∧ u.drs.latch = true)
    (doors_family (fun _ h => h) (fun _ he => he) (fun d named u outside same before => ?_)
      (fun e he u outside same => ?_)) ⟨rfl, set⟩).2
  · exact (doorInput_latch_stays none named outside before).trans same
  · rcases List.mem_append.mp he with he | he
    · rw [(mem_stopUsers he).1, stopRequest_latch, same]
      exact ite_self _
    · rw [(mem_besideUsers he).drs]
      exact same

/-- The stop-request logic sets the latch in RUN where no door is OPEN before or after (R128). -/
theorem afterUsers_latch_asked (none : ¬opensDoor n s) (run : s.pwc.power = .run)
    (asked : stopUsers n s = [stopRequest])
    (shut : ∀ d : Fin 4, s.cal.doors[d].present = true → s.drs.doors[d].state ≠ .doorOpen) :
    (afterUsers n s).drs.latch = true := by
  obtain ⟨l, perm, delivered⟩ := afterUsers_delivered (n := n) (s := s)
  have split : (usersOf n s (doorsOn s.cal n) (gatesOn s.cal n)).Perm (stopRequest
      :: ((doorsOn s.cal n).map (fun d => doorInput d n) ++ besideUsers n s (gatesOn s.cal n))) := by
    unfold usersOf
    rw [asked]
    exact List.perm_middle
  have fewer : ∀ e ∈ besideUsers n s (gatesOn s.cal n), e ∈ otherUsers n s := fun e he => List.mem_append_right _ he
  have before : Family (fun d : Fin 4 => doorInput d n) (fun d u => u.drs.doors[d]) (doorsOn s.cal n)
      (besideUsers n s (gatesOn s.cal n)) (fun u => u.outsideDeliveries = s.outsideDeliveries
        ∧ ∀ d : Fin 4, s.cal.doors[d].present = true → u.drs.doors[d].state ≠ .doorOpen) s := by
    refine doors_family (fun _ h => h) fewer (fun d named u outside same before => fun k present => ?_)
      (fun e he u _ same => ?_)
    · by_cases here : k = d
      · subst here
        rw [doorInput_final outside before]
        exact fun isOpen => none ⟨k, named, isOpen, shut k present⟩
      · rw [doorInput_other here]
        exact same k present
    · rw [(mem_besideUsers he).drs]
      exact same
  have after : Family (fun d : Fin 4 => doorInput d n) (fun d u => u.drs.doors[d]) (doorsOn s.cal n)
      (besideUsers n s (gatesOn s.cal n)) (fun u => u.outsideDeliveries = s.outsideDeliveries
        ∧ u.drs.latch = true) s := by
    refine doors_family (fun _ h => h) fewer (fun d named u outside same before => ?_) (fun e he u _ same => ?_)
    · exact (doorInput_latch_stays none named outside before).trans same
    · rw [(mem_besideUsers he).drs]
      exact same
  refine (before.turns after delivered (perm.trans split) (doorsOn_nodup s.cal n) (fun _ hd => hd) (fun u h => ?_)
    (fun d u => stopRequest_doors d) (fun _ _ => rfl) ⟨rfl, shut⟩).2
  obtain ⟨outside, closed⟩ := h
  refine ⟨(outsideDeliveries_of_doors stopRequest_outside).trans outside, ?_⟩
  rw [stopRequest_latch, if_pos]
  refine ⟨(power_of_outsideDeliveries outside).trans run, Bool.eq_false_iff.mpr fun some => ?_⟩
  obtain ⟨d, present, isOpen⟩ := someDoorOpen_iff.mp some
  rw [cal_of_outsideDeliveries outside] at present
  exact closed d present isOpen

/-- A change of the latch has been told (R129). -/
theorem afterUsers_told (changed : (afterUsers n s).drs.latch ≠ s.drs.latch) : LatchTold (afterUsers n s) := by
  refine (afterUsers_induct (P := fun u => u.bindings = s.bindings ∧ (LatchTold u ∨ u.drs.latch = s.drs.latch))
    (fun u h => ?_) (fun e he u h => ?_) ⟨rfl, .inr rfl⟩).2.resolve_right changed
  · obtain ⟨bindings, told | same⟩ := h
    · exact ⟨bindings, .inl ⟨told.copy, told.notice, told.slots⟩⟩
    · exact ⟨bindings, .inr same⟩
  · obtain ⟨bindings, told⟩ := h
    refine ⟨(usersOf_bindings he).trans bindings, ?_⟩
    by_cases same : (e u).drs.latch = u.drs.latch
    · rcases told with told | stands
      · exact .inl (usersOf_told he bindings (.inl told))
      · exact .inr (same.trans stands)
    · exact .inl (usersOf_told he bindings (.inr same))

end

end Sys2Proof.Machine
end

section
/-! SUPPORT. What a debounced change leaves of WRE where no rule looks at the slots that it reaches (R78, R91). -/

namespace Sys2Proof.Machine

open Sys2Proof.Claims

/-- The slots of a source or of a role are of no rule in use while rules are evaluated. -/
def Unruled (b : State) (named : Fin 96 → Prop) : Prop :=
  ∀ i, named i → b.pwc.power = .run → rulesOn b.cal i = []

/-- Power state, calibration, bindings and WRE stand, and service mode is OFF where the part is in RUN. -/
structure Undisturbed (b : State) (w : Wre) (u : State) : Prop where
  hushed : Hushed b u
  bindings : u.bindings = b.bindings
  wre : u.wre = w

section

variable {b u : State} {w : Wre} {named : Fin 96 → Prop}

/-- A step outside what stands keeps it. -/
theorem Undisturbed.of_same (h : Undisturbed b w u) {t : State} (pwc : t.pwc.power = u.pwc.power) (cal : t.cal = u.cal)
    (svc : t.svc = u.svc) (slots : t.slots = u.slots) (wre : t.wre = u.wre) : Undisturbed b w t where
  hushed := by
    obtain ⟨same, off⟩ := h.hushed
    exact ⟨(Prod.ext pwc cal).trans same, fun run => by rw [svc]; exact off run⟩
  bindings := (bindings_of_slots slots).trans h.bindings
  wre := wre.trans h.wre

theorem Undisturbed.update (h : Undisturbed b w u) (quiet : Unruled b named) {i : Fin 96} (hi : named i)
    (st : LiveStatus) (v : Value) : Undisturbed b w (sgtUpdate i st v u) where
  hushed := (hushed_closed b).alter ((hushed_closed b).setSlot i st v u h.hushed)
  bindings := (bindings_closed b.bindings).alter ((bindings_closed b.bindings).setSlot i st v u h.bindings)
  wre := (congrArg Prod.fst (sgtAlter_alarms (h.hushed.unheard (quiet i hi)))).trans h.wre

theorem Undisturbed.source (h : Undisturbed b w u) (quiet : Unruled b named) {k : SourceKind}
    {index : Option (Fin 32)} (reach : ∀ i, b.bindings i = (k, index) → named i) (st : LiveStatus) (v : Value) :
    Undisturbed b w (sourceUpdate k index st v u) := by
  refine deliverAll_induct (P := Undisturbed b w) (fun t ht => ht.of_same rfl rfl rfl rfl rfl) (fun d hd t ht => ?_) h
  obtain ⟨i, hi, rfl⟩ := List.mem_map.mp hd
  exact ht.update quiet (reach i (h.bindings ▸ mem_boundTo.mp hi)) st v

theorem flmReports_same (rs : List Report) (s : State) : (flmReports rs s).pwc.power = s.pwc.power
    ∧ (flmReports rs s).cal = s.cal ∧ (flmReports rs s).svc = s.svc ∧ (flmReports rs s).slots = s.slots
    ∧ (flmReports rs s).wre = s.wre := by
  have outside := flmReports_outside rs s
  generalize flmReports rs s = t at outside ⊢
  exact ⟨(congrArg (fun u : State => u.pwc.power) outside :), (congrArg State.cal outside :),
    (congrArg State.svc outside :), (congrArg State.slots outside :), (congrArg State.wre outside :)⟩

theorem pwcActivity_power (s : State) : (pwcActivity s).pwc.power = s.pwc.power := by
  unfold pwcActivity
  split <;> rfl

theorem pwcActivity_same (s : State) : (pwcActivity s).cal = s.cal ∧ (pwcActivity s).svc = s.svc
    ∧ (pwcActivity s).slots = s.slots ∧ (pwcActivity s).wre = s.wre := by
  unfold pwcActivity
  split <;> exact ⟨rfl, rfl, rfl, rfl⟩

/-- The events at the doors disturb no rule where none looks at their slots. -/
theorem undisturbed_doors (quiet : Unruled b named) (door : ∀ i d, b.bindings i = (.door, doorSource d) → named i)
    (latch : ∀ i, b.bindings i = (.stopReq, none) → named i) : DoorsClosed (Undisturbed b w) where
  drawn _ h := h.of_same rfl rfl rfl rfl rfl
  notice _ h := h.of_same rfl rfl rfl rfl rfl
  drs _ _ h := h.of_same rfl rfl rfl rfl rfl
  activity s h := by
    obtain ⟨cal, svc, slots, wre⟩ := pwcActivity_same s
    exact h.of_same (pwcActivity_power s) cal svc slots wre
  doorUpdate d _ _ h := h.source quiet (fun i bound => door i d bound) _ _
  stopReq _ h := h.source quiet latch _ _
  doorState _ _ _ h := h.of_same rfl rfl rfl rfl rfl
  ramp _ _ _ h := h.of_same rfl rfl rfl rfl rfl
  latch _ h := h.of_same rfl rfl rfl rfl rfl
  reports rs s h := by
    obtain ⟨power, cal, svc, slots, wre⟩ := flmReports_same rs s
    exact h.of_same power cal svc slots wre

theorem undisturbed_channel (quiet : Unruled b named) (c : Fin 8)
    (channel : ∀ i, b.bindings i = (.channel, sourceOf c) → named i) : ChannelEvent c (Undisturbed b w) where
  drawn _ h := h.of_same rfl rfl rfl rfl rfl
  setChannel _ _ h := h.of_same rfl rfl rfl rfl rfl
  deliver _ _ _ h := h.source quiet channel _ _

theorem DoorsClosed.input {P : State → Prop} (h : DoorsClosed P) (d : Fin 4) (n : Fin 32) {s : State} (hs : P s) :
    P (doorInput d n s) := by
  have ramped : P (doorRamped d n s) := by
    unfold doorRamped
    split
    · exact h.ramp _ _ _ (h.notice _ (h.drs _ _ hs))
    · exact hs
  rw [doorInput_eq]
  split
  · exact ramped
  · exact h.event (by simp) ramped

end

section

variable {n : Fin 32} {s : State}

/-- A slot that a debounced change of a switch input can reach. -/
def switchReach (n : Fin 32) (s : State) (i : Fin 96) : Prop :=
  s.bindings i = (.switch, some n) ∨ (s.bindings i).1 = .channel ∨ (s.bindings i).1 = .door
    ∨ (s.bindings i).1 = .stopReq

/-- The users of a change but the acknowledge input. -/
def quietUsers (n : Fin 32) (s : State) : List Delivery :=
  (doorsOn s.cal n).map (fun d => doorInput d n) ++ (stopUsers n s
    ++ ((s.boundTo .switch (some n)).map (fun i => sgtUpdate i .valid (if s.active n then 1 else 0))
      ++ (gatesOn s.cal n).map reevaluate))

/-- The acknowledge input as a user of a change. -/
def ackUsers (n : Fin 32) (s : State) : List Delivery :=
  if s.active n && s.cal.general.ackInput == some n then [wreAcknowledgeInput] else []

theorem usersOf_quiet (n : Fin 32) (s : State) :
    (usersOf n s (doorsOn s.cal n) (gatesOn s.cal n)).Perm (ackUsers n s ++ quietUsers n s) := by
  unfold usersOf besideUsers
  rw [← ackUsers, ← Multiset.coe_eq_coe]
  unfold quietUsers
  simp only [← Multiset.coe_add]
  abel

/-- Every user but the acknowledge input leaves WRE where no rule looks at what the change reaches. -/
theorem quietUsers_undisturbed (quiet : Unruled s (switchReach n s)) {w : Wre} {e : Delivery} (he : e ∈ quietUsers n s)
    {u : State} (hu : Undisturbed s w u) : Undisturbed s w (e u) := by
  have door (i : Fin 96) (d : Fin 4) (bound : s.bindings i = (.door, doorSource d)) : switchReach n s i :=
    .inr (.inr (.inl (congrArg Prod.fst bound)))
  have latch (i : Fin 96) (bound : s.bindings i = (.stopReq, none)) : switchReach n s i :=
    .inr (.inr (.inr (congrArg Prod.fst bound)))
  have doors := undisturbed_doors (w := w) quiet door latch
  unfold quietUsers at he
  rw [List.mem_append, List.mem_append, List.mem_append] at he
  rcases he with he | he | he | he
  · obtain ⟨d, -, rfl⟩ := List.mem_map.mp he
    exact doors.input d n hu
  · rw [(mem_stopUsers he).1]
    have set : Undisturbed s w (latchSet u).drawn := hu.of_same rfl rfl rfl rfl rfl
    rcases stopRequest_cases u with ⟨same, -⟩ | ⟨-, order | order⟩
    · rw [same]
      exact hu
    · rw [order]
      exact (doors.stopReq _ set).of_same rfl rfl rfl rfl rfl
    · rw [order]
      exact doors.stopReq _ (set.of_same rfl rfl rfl rfl rfl)
  · obtain ⟨i, hi, rfl⟩ := List.mem_map.mp he
    exact hu.update quiet (.inl (mem_boundTo.mp hi)) _ _
  · obtain ⟨c, -, rfl⟩ := List.mem_map.mp he
    have channel (i : Fin 96) (bound : s.bindings i = (.channel, sourceOf c)) : switchReach n s i :=
      .inr (.inl (congrArg Prod.fst bound))
    exact (undisturbed_channel quiet c channel).reevaluate hu

theorem Undisturbed.acknowledge {b u : State} {w : Wre} (h : Undisturbed b w u) :
    Undisturbed b (wreAcknowledgeInput u).wre (wreAcknowledgeInput u) := by
  have outside := wreAcknowledgeInput_outside u
  refine ⟨?_, (bindings_of_slots (slots_of_outsideWarnings outside)).trans h.bindings, rfl⟩
  obtain ⟨same, off⟩ := h.hushed
  exact ⟨(Prod.ext (power_of_outsideWarnings outside) (cal_of_outsideWarnings outside)).trans same, fun run => by
    rw [svc_of_outsideWarnings outside]
    exact off run⟩

/-- Without an acknowledgement to make, a change leaves WRE (R91). -/
theorem afterUsers_wre (hushed : Hushed s s) (quiet : Unruled s (switchReach n s))
    (nothing : ackUsers n s = [] ∨ ∀ y ∈ s.wre.list, y.acknowledged = true) : (afterUsers n s).wre = s.wre := by
  obtain ⟨l, perm, run⟩ := afterUsers_delivered (n := n) (s := s)
  refine (run.induct (P := Undisturbed s s.wre) (fun _ h => h.of_same rfl rfl rfl rfl rfl) (fun e he u hu => ?_)
    ⟨hushed, rfl, rfl⟩).wre
  rcases List.mem_append.mp ((perm.trans (usersOf_quiet n s)).mem_iff.mp he) with he | he
  · rcases nothing with none | all
    · rw [none] at he
      cases he
    · unfold ackUsers at he
      split at he
      · rw [List.mem_singleton.mp he, wreAcknowledgeInput_none (by rw [hu.wre]; exact all)]
        exact hu
      · cases he
  · exact quietUsers_undisturbed quiet he hu

/-- An activation of the acknowledge input acknowledges the first unacknowledged entry, whatever
else it reaches (R91). -/
theorem afterUsers_acknowledges (hushed : Hushed s s) (quiet : Unruled s (switchReach n s)) (agrees : ListAgrees s.wre)
    (acknowledges : ackUsers n s = [wreAcknowledgeInput]) {y : WarningEntry}
    (first : (s.wre.list.find? fun x => !x.acknowledged) = some y) :
    Acknowledged s (afterUsers n s) y.rule ∧ OthersRefill s (afterUsers n s) (fun k => k = y.rule)
      ∧ NoticeOnAll flagWarnings (afterUsers n s) := by
  obtain ⟨l, perm, run⟩ := afterUsers_delivered (n := n) (s := s)
  have split := perm.trans (usersOf_quiet n s)
  rw [acknowledges] at split
  have listed {e : Delivery} (he : e ∈ quietUsers n s) : e ∈ usersOf n s (doorsOn s.cal n) (gatesOn s.cal n) :=
    (usersOf_quiet n s).mem_iff.mpr (List.mem_append_right _ he)
  refine (run.turns (P := fun u => u.outsideDeliveries = s.outsideDeliveries ∧ Undisturbed s s.wre u)
    (Q := fun u => Undisturbed s u.wre u ∧ Acknowledged s u y.rule ∧ OthersRefill s u (fun k => k = y.rule)
      ∧ NoticeOnAll flagWarnings u) split (fun _ ⟨outside, h⟩ => ⟨outside, h.of_same rfl rfl rfl rfl rfl⟩)
    (fun u ⟨h, acknowledged⟩ => ⟨h.of_same rfl rfl rfl rfl rfl, acknowledged⟩)
    (fun e he u ⟨outside, h⟩ => ⟨(usersOf_outside (listed he)).trans outside, quietUsers_undisturbed quiet he h⟩)
    (fun e he u ⟨h, acknowledged, refilled, notice⟩ => ?_) (fun u ⟨outside, h⟩ => ?_) ⟨rfl, hushed, rfl, rfl⟩).2
  · have after := quietUsers_undisturbed quiet he h
    obtain ⟨same, others⟩ := acknowledged_congr (r := y.rule) (s := s) (s' := s) rfl rfl rfl after.wre
    refine ⟨?_, same.mpr acknowledged, others.mpr refilled, fun p => usersOf_notice (listed he) (notice p)⟩
    rw [after.wre]
    exact after
  · obtain ⟨acknowledged, refilled, notice⟩ :=
      wreAcknowledgeInput_acknowledges (s := u) (by rw [h.wre]; exact agrees) (by rw [h.wre]; exact first)
    obtain ⟨same, others⟩ := acknowledged_congr (r := y.rule) (s := s) (s' := u) (t := wreAcknowledgeInput u)
      (t' := wreAcknowledgeInput u) (cal_of_outsideDeliveries outside) h.wre (uptime_of_outsideDeliveries outside) rfl
    exact ⟨h.acknowledge, same.mp acknowledged, others.mp refilled, notice⟩

end

end Sys2Proof.Machine
end

section
/-! SUPPORT. A debounced change of a wake input in SLEEP (R24, R206, R207). -/

namespace Sys2Proof.Machine

open Sys2Proof.Claims

/-- The state as it enters AFTERRUN at a wake, with the first sample of its switches. -/
def wakeStart (s : State) : State := firstSample (toAfterrun s)

/-- The state after what a wake delivers. -/
def wakeDelivered (s : State) : State := deliverAll (opuPower .afterrun :: wakeSources) (wakeStart s)

theorem wakeAfterrun_eq (s : State) : wakeAfterrun s = handStoreIdle (wakeDelivered s) := rfl

/-- Without quiet the store idle condition changes and SLEEP is not entered (R206). -/
theorem handStoreIdle_of_restless {t : State} (restless : t.pwc.quiet = false) :
    handStoreIdle t = t.setPwc { t.pwc with storeIdle := t.storeIdle } := by
  unfold handStoreIdle
  dsimp only
  split
  · next same =>
    rw [same]
    rfl
  · split
    · exact sleepDecision_stays (.inr (.inl restless))
    · rfl

/-- The Power Controller without the store idle condition. -/
def Pwc.awake (x : Pwc) : Pwc := { x with storeIdle := false }

section

variable {s b : State}

/-- The quiet time that a wake starts is started anew, and nothing else of the Power Controller changes. -/
theorem awake_doors (quiet : b.pwc.quiet = false)
    (timer : b.pwc.quietTimer = startTimer b.pwc.uptime 10000) : DoorClosed fun u => u.pwc.awake = b.pwc.awake where
  toSignalClosed := view_closed (fun u => u.pwc.awake) (fun _ _ h => (congrArg (fun u : State => u.pwc.awake) h :)) _
  setDoor _ _ _ h := h
  putLatch _ _ h := h
  activity u h := by
    unfold pwcActivity
    split
    · have uptime : u.pwc.uptime = b.pwc.uptime := (congrArg Pwc.uptime h :)
      show { u.pwc.awake with quiet := false, quietTimer := startTimer u.pwc.uptime 10000 } = _
      rw [h, uptime, ← timer, ← quiet]
      rfl
    · exact h

theorem awake_channels (b : State) : ChannelClosed fun u => u.pwc.awake = b.pwc.awake where
  toSignalClosed := view_closed (fun u => u.pwc.awake) (fun _ _ h => (congrArg (fun u : State => u.pwc.awake) h :)) _
  setChannel _ _ _ h := h
  putOdometer _ _ h := h
  putHours _ _ h := h
  mapChannels _ _ h := h
  request _ _ h := h

/-- What the sources keep that a wake delivers from. -/
theorem wakeSources_keep {P : State → Prop} (channels : ChannelClosed P) (doors : DoorClosed P) :
    ∀ d ∈ wakeSources, ∀ u, P u → P (d u) := by
  intro d hd u hu
  unfold wakeSources switchUpdates at hd
  rcases List.mem_append.mp hd with hd | hd
  · obtain ⟨n, -, rfl⟩ := List.mem_map.mp hd
    exact channels.toSignalClosed.source hu
  · rcases List.mem_cons.mp hd with rfl | hd
    · exact channels.wake hu
    · rw [List.mem_singleton.mp hd]
      exact doors.wake hu

theorem wakeDelivered_keeps {P : State → Prop} (channels : ChannelClosed P) (doors : DoorClosed P)
    (start : P (wakeStart s)) : P (wakeDelivered s) := by
  refine deliverAll_induct channels.drawn (fun d hd u hu => ?_) start
  rcases List.mem_cons.mp hd with rfl | hd
  · exact channels.opu _ _ hu
  · exact wakeSources_keep channels doors d hd u hu

/-- A wake begins with AFTERRUN entered and some switches. -/
theorem wakeStart_eq (s : State) : ∃ v, wakeStart s = { toAfterrun s with switches := v } :=
  ⟨_, (firstSample_eq (toAfterrun s) 0).2⟩

theorem wakeStart_pwc : (wakeStart s).pwc = { s.pwc with
    power := .afterrun, quiet := false, quietTimer := startTimer s.pwc.uptime 10000 } := by
  obtain ⟨v, start⟩ := wakeStart_eq s
  rw [start]
  rfl

theorem wakeDelivered_awake : (wakeDelivered s).pwc.awake = (wakeStart s).pwc.awake := by
  have pwc := wakeStart_pwc (s := s)
  refine wakeDelivered_keeps (P := fun u => u.pwc.awake = (wakeStart s).pwc.awake) (awake_channels _)
    (awake_doors ?_ ?_) rfl <;> rw [pwc]

/-- What the frames of a delivery name besides the store. -/
def State.undelivered (s : State) : Calibration × Bool × PinLevels × Bool × List Instr × Vector SenderState 8 :=
  (s.cal, s.calLoaded, s.pins, s.supply, s.pending, s.senders)

theorem undelivered_outsideDeliveries (s : State) : s.outsideDeliveries.undelivered = s.undelivered := by
  unfold State.undelivered State.outsideDeliveries State.outsideDoors State.outsideSignals State.outsideWarnings
    State.outsideFaults State.outsideRequests
  rfl

theorem sameStore_of_outsideDeliveries {s t : State} (h : t.outsideDeliveries = s.outsideDeliveries) : SameStore s t :=
  (congrArg (fun u : State => { u.rst with queue := t.rst.queue }) h :)

theorem frames_of_outsideDeliveries {s t : State} (h : t.outsideDeliveries = s.outsideDeliveries) :
    SameBase s t ∧ SameStore s t ∧ t.senders = s.senders := by
  have same : t.undelivered = s.undelivered := by
    rw [← undelivered_outsideDeliveries, h, undelivered_outsideDeliveries]
  obtain ⟨cal, loaded, pins, supply, pending, senders⟩ := by simpa only [State.undelivered, Prod.mk.injEq] using same
  exact ⟨⟨cal, loaded, pins, supply, pending⟩, sameStore_of_outsideDeliveries h, senders⟩

theorem toAfterrun_frames (s : State) (v : Vector SwitchState 32) :
    SameBase s { toAfterrun s with switches := v } ∧ SameStore s { toAfterrun s with switches := v }
      ∧ { toAfterrun s with switches := v }.senders = s.senders := ⟨⟨rfl, rfl, rfl, rfl, rfl⟩, rfl, rfl⟩

/-- A wake to AFTERRUN starts the quiet time, gives the POWER notice and leaves base, store and senders (R206, R207). -/
theorem wakeAfterrun_awakes (s : State) :
    let t := wakeAfterrun s
    (t.pwc.power = .afterrun ∧ NoticeOnAll flagPower t ∧ t.pwc.quietTimer = startTimer s.pwc.uptime 10000)
      ∧ SameBase s t ∧ SameStore s t ∧ t.senders = s.senders := by
  obtain ⟨v, start⟩ := wakeStart_eq s
  have pwc := wakeDelivered_awake (s := s)
  rw [wakeStart_pwc] at pwc
  have outside : (wakeDelivered s).outsideDeliveries = (wakeStart s).outsideDeliveries :=
    wakeDelivered_keeps (P := fun u => u.outsideDeliveries = (wakeStart s).outsideDeliveries)
      (deliveries_closed_channels _) (deliveries_closed_doors _) rfl
  have notice (p : Port) : holdsFlags p flagPower (wakeDelivered s) := by
    refine wakeDelivered_keeps (holdsFlags_channels p flagPower) (holdsFlags_doors p flagPower) ?_
    rw [start]
    exact holdsFlags_of_ptu rfl (powerTo_notice .afterrun _ p)
  rw [wakeAfterrun_eq]
  rw [start] at outside
  generalize wakeDelivered s = t at pwc outside notice ⊢
  have restless : t.pwc.quiet = false := (congrArg Pwc.quiet pwc :)
  rw [handStoreIdle_of_restless restless]
  obtain ⟨base, store, senders⟩ := frames_of_outsideDeliveries outside
  obtain ⟨base', store', senders'⟩ := toAfterrun_frames s v
  exact ⟨⟨(congrArg Pwc.power pwc :), fun p => holdsFlags_of_ptu rfl (notice p), (congrArg Pwc.quietTimer pwc :)⟩,
    sameBase_trans base' base, sameStore_trans store' store, senders.trans senders'⟩

end

end Sys2Proof.Machine
end

section
/-! SUPPORT. A debounced change as the specification sees it (R20, R23, R24). -/

namespace Sys2Proof.Machine

open Sys2Proof.Claims

section

variable {n : Fin 32} {s : State}

/-- The slots bound to the input take its debounced state (Table 8). -/
theorem afterUsers_switch {i : Fin 96} (bound : s.bindings i = (.switch, some n)) :
    (afterUsers n s).shows i (if s.active n then 1 else 0) := by
  obtain ⟨l, perm, run⟩ := afterUsers_delivered (n := n) (s := s)
  have member : sgtUpdate i .valid (if s.active n then 1 else 0) ∈ l := by
    refine perm.mem_iff.mpr (List.mem_append_right _ (List.mem_append_right _ ?_))
    exact List.mem_append_left _ (List.mem_append_left _ (List.mem_map.mpr ⟨i, mem_boundTo.mpr bound, rfl⟩))
  refine run.establishes (I := fun u => u.bindings = s.bindings) (P := fun u => u.shows i (if s.active n then 1 else 0))
    member (fun _ h => h) (fun _ h => h) (fun e he u h => (usersOf_bindings (perm.mem_iff.mp he)).trans h)
    (fun u _ => sgtUpdate_shows i _ u) (fun e he u bindings shown => ?_) rfl
  have he := perm.mem_iff.mp he
  have same (source : (e u).source i = u.source i) : (e u).shows i (if s.active n then 1 else 0) :=
    shows_of_same source (uptime_of_outsideDeliveries (usersOf_outside he)) shown
  have here : u.bindings i = (.switch, some n) := by
    rw [bindings]
    exact bound
  rcases mem_usersOf he with ⟨d, -, rfl⟩ | rfl | beside
  · exact same (doorInput_source (by rw [here]; exact nofun) (by rw [here]; exact nofun))
  · exact same (stopRequest_source (by rw [here]; exact nofun))
  · cases beside with
    | @slot j _ =>
      by_cases own : i = j
      · subst own
        exact sgtUpdate_shows i _ u
      · refine same ?_
        rw [sgtUpdate_source, Function.update_of_ne own]
    | gate _ => exact same (reevaluate_source (by rw [here]; exact nofun))
    | acknowledge _ _ => exact same (congrFun (State.source_of_slots (wreAcknowledgeInput_slots u)) i)

/-- The doors that name an input (Table 12). -/
def namesInput (c : Calibration) (n : Fin 32) (d : Fin 4) : Prop := c.doors[d].present = true
  ∧ (c.doors[d].closedInput = n ∨ some n ∈ [c.doors[d].openInput, c.doors[d].edgeInput, c.doors[d].releaseInput,
    c.doors[d].lockedInput, c.doors[d].rampInput])

/-- A present door that is OPEN. -/
def State.holdsOpen (s : State) (d : Fin 4) : Prop :=
  s.cal.doors[d].present = true ∧ s.drs.doors[d].state = .doorOpen

theorem opensDoor_iff : (∃ d, namesInput s.cal n d ∧ (afterUsers n s).drs.doors[d].state = .doorOpen
    ∧ ¬s.holdsOpen d) ↔ opensDoor n s := by
  constructor
  · rintro ⟨d, named, isOpen, was⟩
    have listed := mem_doorsOn.mpr named
    rw [(afterUsers_door listed).record] at isOpen
    exact ⟨d, listed, isOpen, fun state => was ⟨named.1, state⟩⟩
  · rintro ⟨d, listed, isOpen, was⟩
    refine ⟨d, mem_doorsOn.mp listed, ?_, fun holds => was holds.2⟩
    rw [(afterUsers_door listed).record]
    exact isOpen

/-- The stop-request logic is asked by the change (R128). -/
def asksLatch (n : Fin 32) (s : State) : Prop :=
  s.active n = true ∧ some n ∈ s.cal.general.stopInputs.toList ∧ s.pwc.power = .run

/-- What the change leaves of the latch (R128, R129). -/
theorem afterUsers_latch :
    let t := afterUsers n s
    (opensDoor n s → t.drs.latch = false)
      ∧ (¬opensDoor n s → ¬asksLatch n s → t.drs.latch = s.drs.latch)
      ∧ (¬opensDoor n s → asksLatch n s → (∀ d, ¬s.holdsOpen d) → t.drs.latch = true)
      ∧ (¬opensDoor n s → asksLatch n s → (∃ d, s.holdsOpen d ∧ t.drs.doors[d].state = .doorOpen) →
        t.drs.latch = s.drs.latch)
      ∧ (¬opensDoor n s → s.drs.latch = true → t.drs.latch = true) := by
  refine ⟨afterUsers_latch_opens, fun none unasked => ?_, fun none asked shut => ?_, fun none _ holds => ?_,
    afterUsers_latch_set⟩
  · refine afterUsers_latch_stays none fun asked run => unasked ?_
    obtain ⟨-, on, input⟩ := mem_stopUsers asked
    exact ⟨on, input, run⟩
  · obtain ⟨on, input, run⟩ := asked
    refine afterUsers_latch_asked none run ?_ fun d present isOpen => shut d ⟨present, isOpen⟩
    unfold stopUsers Calibration.stopInput
    rw [on]
    exact if_pos (decide_eq_true input)
  · obtain ⟨d, ⟨present, was⟩, still⟩ := holds
    refine afterUsers_latch_shut_out none present was fun listed => ?_
    rw [← (afterUsers_door listed).record]
    exact still

/-- What the change leaves of WRE where no rule looks at what it reaches (R91). -/
theorem afterUsers_warnings (hushed : Hushed s s) (quiet : Unruled s (switchReach n s)) (agrees : ListAgrees s.wre) :
    let t := afterUsers n s
    let acknowledges := s.active n = true ∧ s.cal.general.ackInput = some n
    (∀ y, acknowledges → (s.wre.list.find? fun x => !x.acknowledged) = some y →
      Acknowledged s t y.rule ∧ OthersRefill s t (fun k => k = y.rule) ∧ NoticeOnAll flagWarnings t)
    ∧ (¬acknowledges ∨ (∀ y ∈ s.wre.list, y.acknowledged = true) → t.wre = s.wre) := by
  have acts : (s.active n && s.cal.general.ackInput == some n) = true
      ↔ s.active n = true ∧ s.cal.general.ackInput = some n := by
    rw [Bool.and_eq_true, beq_iff_eq]
  refine ⟨fun y acknowledges first => ?_, fun nothing => afterUsers_wre hushed quiet (nothing.imp_left fun no => ?_)⟩
  · exact afterUsers_acknowledges hushed quiet agrees (if_pos (acts.mpr acknowledges)) first
  · exact if_neg fun h => no (acts.mp h)

theorem afterUsers_power : (afterUsers n s).pwc.power = s.pwc.power := power_of_outsideDeliveries afterUsers_outside

theorem afterUsers_uptime : (afterUsers n s).pwc.uptime = s.pwc.uptime :=
  uptime_of_outsideDeliveries afterUsers_outside

theorem afterUsers_switches : (afterUsers n s).switches = s.switches := by
  have same := afterUsers_outside (n := n) (s := s)
  generalize afterUsers n s = t at same ⊢
  exact (congrArg State.switches same :)

theorem afterUsers_counts : (afterUsers n s).ccu.odometer = s.ccu.odometer
    ∧ (afterUsers n s).ccu.hours = s.ccu.hours := by
  have same := afterUsers_roles (n := n) (s := s)
  generalize afterUsers n s = t at same ⊢
  exact ⟨congrArg (fun v => v.2.1) same, congrArg (fun v => v.2.2) same⟩

theorem afterUsers_bindings : (afterUsers n s).bindings = s.bindings :=
  afterUsers_induct (P := fun u => u.bindings = s.bindings) (fun _ h => h)
    (fun _ he _ h => (usersOf_bindings he).trans h) rfl

theorem shows_iff {i : Fin 96} {v : Value} : s.shows i v ↔ s.slots[i].liveStatus = .valid ∧ s.slots[i].liveValue = v
    ∧ s.slots[i].updateTime = s.pwc.uptime := Iff.rfl

theorem bindings_eq {i : Fin 96} {k : SourceKind} {index : Option (Fin 32)} (kind : s.slots[i].kind = k)
    (same : s.slots[i].index = index) : s.bindings i = (k, index) := Prod.ext kind same

/-! ## The change taken -/

theorem switchTaken_active : (switchTaken n s).active n = !s.switches[n].active := by
  show (s.switches.set n.val _)[n.val].active = _
  rw [Vector.getElem_set_self]

theorem switchTaken_value :
    (if (switchTaken n s).active n then (1 : Value) else 0) = if s.switches[n].active then 0 else 1 := by
  rw [switchTaken_active]
  cases s.switches[n].active <;> rfl

theorem switchTaken_frames :
    SameBase s (switchTaken n s) ∧ SameStore s (switchTaken n s) ∧ (switchTaken n s).senders = s.senders :=
  ⟨⟨rfl, rfl, rfl, rfl, rfl⟩, rfl, rfl⟩

theorem gateFinal_taken (c : Fin 8) : gateFinal n (switchTaken n s) c
    = (s.ccu.channels[c].softGate && ((!s.switches[n].active) == (s.cal.channels[c].gatePolarity == .active))) := by
  rw [gateFinal, switchTaken_active]
  rfl

/-- What a change in RUN or AFTERRUN leaves of a channel (R40 to R42). -/
theorem changed_channel (c : Fin 8) :
    let it := s.cal.channels[c]
    let x := s.ccu.channels[c]
    let t := afterUsers n (switchTaken n s)
    (it.hardwareGate ≠ some n → t.ccu.channels[c] = x)
      ∧ (it.hardwareGate = some n →
        let isOpen := x.softGate && ((!s.switches[n].active) == (it.gatePolarity == .active))
        t.ccu.channels[c] = gateChanged it x isOpen s.pwc.uptime
        ∧ (it.mode.counts = true → it.role = .noRole → x.gateOpen = false → isOpen = true →
            it.clearOnOpen = true → x.holdOff = none → ChannelSlotsTake s t c 0)) := by
  refine ⟨fun apart => afterUsers_channel_other (s := switchTaken n s) apart, fun gate => ?_⟩
  have turned := afterUsers_channel (s := switchTaken n s) gate
  dsimp only
  rw [← gateFinal_taken]
  refine ⟨turned.record, fun counts plain shut opens clear free i kind index => ?_⟩
  exact shows_iff.mp (turned.shown counts plain shut opens clear free i (bindings_eq kind index))

/-- What a change in RUN or AFTERRUN leaves of a door that names the input (R115 to R127). -/
theorem changed_door {d : Fin 4} (named : namesInput s.cal n d) :
    let on := !s.switches[n].active
    let t := afterUsers n (switchTaken n s)
    t.drs.doors[d] = doorAfter s.cal.doors[d] (rampedRecord s.cal.doors[d] n on s.drs.doors[d]) n
        (fun k => t.switches[k].active) s.pwc.uptime
      ∧ (t.drs.doors[d] ≠ s.drs.doors[d] → NoticeOnAll flagDoors t)
      ∧ (s.cal.doors[d].rampInput = some n → t.opu.ramps[d] = on) := by
  have turned := afterUsers_door (s := switchTaken n s) (mem_doorsOn.mpr named)
  dsimp only
  rw [afterUsers_switches, ← switchTaken_active]
  refine ⟨turned.record, fun changed => turned.notice ?_, turned.ramp⟩
  rw [← turned.record]
  exact changed

/-- What a change in RUN or AFTERRUN leaves of WRE where no rule looks at what it reaches (R91). -/
theorem changed_warnings (quiet : Unwatched s fun i => (s.slots[i].kind = .switch ∧ s.slots[i].index = some n)
      ∨ s.slots[i].kind = .channel ∨ s.slots[i].kind = .door ∨ s.slots[i].kind = .stopReq)
    (agrees : ListAgrees s.wre) :
    let t := afterUsers n (switchTaken n s)
    let acknowledges := (!s.switches[n].active) = true ∧ s.cal.general.ackInput = some n
    (∀ y, acknowledges → (s.wre.list.find? fun x => !x.acknowledged) = some y →
      Acknowledged s t y.rule ∧ OthersRefill s t (fun k => k = y.rule) ∧ NoticeOnAll flagWarnings t)
    ∧ (¬acknowledges ∨ (∀ y ∈ s.wre.list, y.acknowledged = true) → t.wre = s.wre) := by
  have hushed : Hushed (switchTaken n s) (switchTaken n s) := ⟨rfl, fun run => (quiet run).1⟩
  have unruled : Unruled (switchTaken n s) (switchReach n (switchTaken n s)) := fun i reached run =>
    rulesOn_of_unwatched quiet (reached.imp_left fun bound => ⟨congrArg Prod.fst bound, congrArg Prod.snd bound⟩) run
  obtain ⟨given, none⟩ := afterUsers_warnings hushed unruled agrees
  rw [switchTaken_active] at given none
  refine ⟨fun y acknowledges first => ?_, none⟩
  obtain ⟨same, others⟩ := acknowledged_congr (s := s) (s' := switchTaken n s) (r := y.rule) rfl rfl rfl
    (rfl : (afterUsers n (switchTaken n s)).wre = _)
  obtain ⟨acknowledged, refilled, notice⟩ := given y acknowledges first
  exact ⟨same.mp acknowledged, others.mp refilled, notice⟩

/-- A change of an input in SLEEP wakes the part to AFTERRUN if it is a wake input, and does nothing else if not
(R24, R207). -/
theorem changed_asleep (asleep : s.pwc.power = .sleep) (full : s.countFull n = true) : switchChange n s
    = if s.cal.wakeInput n then wakeAfterrun (switchTaken n s) else switchTaken n s := by
  have power : (switchTaken n s).pwc.power = .sleep := asleep
  rw [switchChange, if_pos full]
  dsimp only
  rw [power]
  rfl

theorem changed_start (start : s.pwc.power = .start) (full : s.countFull n = true) :
    switchChange n s = switchUpdate n (switchTaken n s) := by
  have power : (switchTaken n s).pwc.power = .start := start
  rw [switchChange, if_pos full]
  dsimp only
  rw [power]

theorem changed_working (working : s.pwc.power = .run ∨ s.pwc.power = .afterrun) (full : s.countFull n = true) :
    switchChange n s = afterUsers n (switchTaken n s) := by
  have power : (switchTaken n s).pwc.power = s.pwc.power := rfl
  rw [switchChange, if_pos full]
  dsimp only
  rw [power]
  rcases working with now | now <;> rw [now] <;> rfl

end

end Sys2Proof.Machine

open Sys2Proof Sys2Proof.Machine Sys2Proof.Claims in
/-- Settles O30: each user of the change is taken once, and what it alone turns stands through the others; the latch
follows the doors, each of which the change meets as it was (`Family`). -/
theorem debouncedChangeTurnsTheSwitch : Obligations.DebouncedChangeTurnsTheSwitch := by
  intro s n supply full wake on named asks wasOpen reached
  have full := countFull_iff.mpr full
  have run : exec (.switchDebouncedChange n) s = .next (switchChange n s) := by
    rw [exec_switchDebouncedChange, act_supplied supply]
  have wakes : s.cal.wakeInput n = true ↔ wake := wakeInput_iff s.cal n
  obtain ⟨base, store, senders⟩ := switchTaken_frames (s := s) (n := n)
  refine ⟨switchChange n s, run, ?_⟩
  by_cases asleep : s.pwc.power = .sleep
  · rw [changed_asleep asleep full]
    have resting : ¬(s.pwc.power = .run ∨ s.pwc.power = .afterrun) := by
      rw [asleep]
      exact nofun
    refine ⟨fun awake => absurd asleep awake, fun working => absurd working resting, ?_⟩
    by_cases awakes : wake
    · rw [if_pos (wakes.mpr awakes)]
      obtain ⟨woken, base', store', senders'⟩ := wakeAfterrun_awakes (switchTaken n s)
      exact ⟨fun _ _ => woken, fun _ sleeps => absurd awakes sleeps, sameBase_trans base base',
        sameStore_trans store store', senders'.trans senders⟩
    · rw [if_neg fun h => awakes (wakes.mp h)]
      exact ⟨fun _ h => absurd h awakes, fun _ _ => rfl, base, store, senders⟩
  by_cases working : s.pwc.power = .run ∨ s.pwc.power = .afterrun
  · rw [changed_working working full]
    obtain ⟨base', store', senders'⟩ := frames_of_outsideDeliveries (afterUsers_outside (n := n) (s := switchTaken n s))
    have shown (i : Fin 96) (bound : s.bindings i = (.switch, some n)) := afterUsers_switch (s := switchTaken n s) bound
    rw [switchTaken_value] at shown
    obtain ⟨odometer, hours⟩ := afterUsers_counts (n := n) (s := switchTaken n s)
    refine ⟨fun _ => ⟨afterUsers_switches, fun i kind index => ?_, afterUsers_power⟩, fun _ => ⟨fun d unnamed => ?_,
      fun d named => changed_door named, changed_channel, odometer, hours,
      fun quiet agrees _ => changed_warnings quiet agrees, ?_, fun turned => ?_⟩, fun h => absurd h asleep,
      fun h => absurd h asleep, sameBase_trans base base', sameStore_trans store store', senders'.trans senders⟩
    · obtain ⟨status, value, time⟩ := shows_iff.mp (shown i (bindings_eq kind index))
      exact ⟨status, value, time.trans afterUsers_uptime⟩
    · exact afterUsers_door_other (s := switchTaken n s) fun listed => unnamed (mem_doorsOn.mp listed)
    · have latch := afterUsers_latch (n := n) (s := switchTaken n s)
      unfold asksLatch at latch
      rw [← opensDoor_iff, switchTaken_active] at latch
      exact latch
    · obtain ⟨copy, notice, slots⟩ := afterUsers_told (n := n) (s := switchTaken n s) turned
      refine ⟨copy, notice, fun i kind index => ?_⟩
      have bound : (switchTaken n s).bindings i = (.stopReq, none) := bindings_eq kind index
      rw [← afterUsers_bindings] at bound
      obtain ⟨status, value, -⟩ := shows_iff.mp (slots i bound)
      exact ⟨status, value⟩
  · have start : s.pwc.power = .start := by
      cases now : s.pwc.power
      case start => rfl
      case run => exact absurd (.inl now) working
      case afterrun => exact absurd (.inr now) working
      case sleep => exact absurd now asleep
    rw [changed_start start full]
    have outside := switchUpdate_outside n (switchTaken n s)
    have shown (i : Fin 96) (bound : s.bindings i = (.switch, some n)) :
        (switchUpdate n (switchTaken n s)).shows i (if s.switches[n].active then 0 else 1) := by
      rw [← switchTaken_value]
      exact sourceUpdate_shows (s := switchTaken n s) bound _
    generalize switchUpdate n (switchTaken n s) = t at outside shown ⊢
    refine ⟨fun _ => ⟨(congrArg State.switches outside :), fun i kind index => ?_,
      (congrArg (fun u : State => u.pwc.power) outside :)⟩, fun h => absurd h working, fun h => absurd h asleep,
      fun h => absurd h asleep, sameBase_trans base (sameBase_of_outside outside),
      sameStore_trans store (sameStore_of_outside outside), (congrArg State.senders outside :).trans senders⟩
    obtain ⟨status, value, time⟩ := shows_iff.mp (shown i (bindings_eq kind index))
    exact ⟨status, value, time.trans (uptime_of_outside (s := switchTaken n s) outside)⟩

end

section
/-! SUPPORT. The flash array as the scan reads it (R155, R170, R210): headers, COUNTER records and image ends as the
specification finds them, and the newest counter record. -/

namespace Sys2Proof.Machine

open Sys2Proof.Claims

section

variable {f : Flash} {b : Fin 16}

/-! ## Slots -/

theorem recordAt_eq (f : Flash) (b : Fin 16) (k : Fin 64) : recordAt f b k.val = f.good b k := by
  unfold recordAt Flash.good slotAddress FlashSlot.passes
  rw [Nat.mul_comm 64]
  cases f.read (b.val * 64 + k.val) with
  | none => rfl
  | some x => simp only [beq_iff_eq]

theorem programmed_iff (f : Flash) (b : Fin 16) (k : Fin 64) :
    f.programmed b k = true ↔ f.read (64 * b.val + k.val) ≠ none := by
  unfold Flash.programmed slotAddress
  rw [Nat.mul_comm 64]
  exact Option.isSome_iff_ne_none

/-- A record is what passes its check and is of a kind of Table 55 (R210). -/
theorem record_eq_some {k : Fin 64} {c : List Byte} : f.record b k = some c
    ↔ recordAt f b k.val = some c ∧ 1 ≤ (c.getD 0 0).toNat ∧ (c.getD 0 0).toNat ≤ 5 := by
  rw [recordAt_eq, Flash.record, Option.filter_eq_some_iff, decide_eq_true_eq]
  rfl

theorem mem_recordSlots {k : Fin 64} : k ∈ recordSlots ↔ 1 ≤ k.val ∧ k.val ≤ 62 := by
  rw [recordSlots, List.mem_filter, decide_eq_true_eq]
  exact and_iff_right (List.mem_finRange k)

/-! ## Headers -/

theorem area_number (b : Fin 16) : (areaOf b).number = areaNumber b := by
  unfold areaOf areaNumber
  split
  · rfl
  · split <;> rfl

theorem headerOf_iff {a : Nat} {n : BitVec 32} : HeaderOf f b a n ↔ f.header b = some (a, n) := by
  have zero : recordAt f b 0 = f.good b 0 := recordAt_eq f b 0
  unfold HeaderOf Flash.header
  rw [zero, Option.map_eq_some_iff]
  simp only [Prod.mk.injEq]
  rfl

theorem ownHeader_eq_some {n : BitVec 32} : f.ownHeader b = some n ↔ HeaderOf f b (areaNumber b) n := by
  rw [headerOf_iff, Flash.ownHeader, Option.map_eq_some_iff, area_number]
  constructor
  · rintro ⟨⟨a, m⟩, own, rfl⟩
    obtain ⟨header, same⟩ := Option.filter_eq_some_iff.mp own
    rw [← eq_of_beq same]
    exact header
  · intro header
    exact ⟨(areaNumber b, n), Option.filter_eq_some_iff.mpr ⟨header, beq_self_eq_true _⟩, rfl⟩

/-! ## Image ends -/

theorem imageEnd_iff {k : Fin 64} :
    f.imageEnd b k = true ↔ ∃ c, recordAt f b k.val = some c ∧ c.getD 0 0 = 4 := by
  rw [Flash.imageEnd, Option.any_eq_true]
  constructor
  · rintro ⟨c, record, kind⟩
    exact ⟨c, (record_eq_some.mp record).1, eq_of_beq kind⟩
  · rintro ⟨c, good, kind⟩
    refine ⟨c, record_eq_some.mpr ⟨good, ?_⟩, beq_iff_eq.mpr kind⟩
    rw [kind]
    decide

theorem hasImageEnd_iff : f.hasImageEnd b = true ↔ HoldsEnd f b := by
  rw [Flash.hasImageEnd, List.any_eq_true]
  constructor
  · rintro ⟨k, listed, ends⟩
    obtain ⟨low, high⟩ := mem_recordSlots.mp listed
    obtain ⟨c, good, kind⟩ := imageEnd_iff.mp ends
    exact ⟨k.val, c, low, high, good, kind⟩
  · rintro ⟨k, c, low, high, good, kind⟩
    exact ⟨⟨k, by omega⟩, mem_recordSlots.mpr ⟨low, high⟩, imageEnd_iff.mpr ⟨c, good, kind⟩⟩

/-! ## COUNTER records (R171) -/

theorem counter_eq_some {k : Fin 64} {x : BitVec 32 × CounterValues} : f.counter b k = some x
    ↔ ∃ c, recordAt f b k.val = some c ∧ c.getD 0 0 = 1 ∧ counterOf c = x := by
  rw [Flash.counter, Option.map_eq_some_iff]
  constructor
  · rintro ⟨c, found, values⟩
    obtain ⟨record, kind⟩ := Option.filter_eq_some_iff.mp found
    exact ⟨c, (record_eq_some.mp record).1, eq_of_beq kind, values⟩
  · rintro ⟨c, good, kind, values⟩
    refine ⟨c, Option.filter_eq_some_iff.mpr ⟨record_eq_some.mpr ⟨good, ?_⟩, beq_iff_eq.mpr kind⟩, values⟩
    rw [kind]
    decide

theorem mem_areaBlocks {a : Area} : b ∈ a.blocks ↔ areaOf b = a := by
  rw [Area.blocks, List.mem_filter, beq_iff_eq]
  exact and_iff_right (List.mem_finRange b)

theorem areaOf_eq_counters : areaOf b = .counters ↔ 2 ≤ b.val ∧ b.val ≤ 5 := by
  unfold areaOf
  split
  · exact ⟨nofun, by omega⟩
  · split
    · exact ⟨by omega, fun _ => rfl⟩
    · exact ⟨nofun, by omega⟩

theorem mem_counters {x : FoundCounter} : x ∈ f.counters ↔ CounterAt f x.block x.slot x.sequence x.values := by
  unfold Flash.counters CounterAt
  rw [List.mem_flatMap]
  simp only [List.mem_filterMap, Option.map_eq_some_iff, mem_areaBlocks, areaOf_eq_counters, mem_recordSlots]
  constructor
  · rintro ⟨b, ⟨low, high⟩, k, ⟨first, last⟩, c, found, rfl⟩
    exact ⟨low, high, first, last, counter_eq_some.mp found⟩
  · rintro ⟨low, high, first, last, found⟩
    exact ⟨x.block, ⟨low, high⟩, x.slot, ⟨first, last⟩, (x.sequence, x.values), counter_eq_some.mpr found, rfl⟩

/-- The block sequence that breaks ties between COUNTER records (R155; log entry 37). -/
def Flash.tieSequence (f : Flash) (b : Fin 16) : Nat := ((f.ownHeader b).map BitVec.toNat).getD 0

/-- What orders COUNTER records: counter sequence, block sequence, slot (R155). -/
def FoundCounter.rank (f : Flash) (x : FoundCounter) : Nat ×ₗ Nat ×ₗ Nat :=
  toLex (x.sequence.toNat, toLex (f.tieSequence x.block, x.slot.val))

theorem newer_iff (f : Flash) (x y : FoundCounter) : x.newer f y = true ↔ y.rank f < x.rank f := by
  unfold FoundCounter.newer FoundCounter.rank
  rw [Prod.Lex.toLex_lt_toLex, Prod.Lex.toLex_lt_toLex]
  dsimp only
  rw [← Flash.tieSequence, ← Flash.tieSequence]
  split
  · next differ =>
    rw [decide_eq_true_eq, BitVec.lt_def]
    exact ⟨.inl, fun h => h.resolve_right fun same => differ (BitVec.eq_of_toNat_eq same.1.symm)⟩
  · next same =>
    rw [not_not.mp same]
    split
    · rw [decide_eq_true_eq]
      omega
    · rw [decide_eq_true_eq, Fin.lt_def]
      omega

/-- The newest of the records found is the first of largest rank. -/
theorem newestOf_eq (f : Flash) (l : List FoundCounter) : newestOf f l = l.argmax (FoundCounter.rank f) := by
  unfold newestOf List.argmax
  congr 1
  funext best x
  cases best with
  | none => rfl
  | some b => exact if_congr (newer_iff f x b) rfl rfl

theorem newestOf_newest {l : List FoundCounter} {x : FoundCounter} (h : newestOf f l = some x) :
    x ∈ l ∧ ∀ y ∈ l, y.rank f ≤ x.rank f := by
  rw [newestOf_eq] at h
  exact ⟨List.argmax_mem h, fun y hy => List.le_of_mem_argmax hy h⟩

/-- The block sequence by the header of a COUNTERS block, 0 without one (log entry 37). -/
theorem tieSequence_eq (counters : areaOf b = .counters) : f.tieSequence b = match recordAt f b 0 with
    | some c => if c.getD 0 0 = 1 then (field32 c 1).toNat else 0
    | none => 0 := by
  have zero : recordAt f b 0 = f.good b 0 := recordAt_eq f b 0
  unfold Flash.tieSequence Flash.ownHeader Flash.header
  rw [counters, zero]
  cases f.good b 0 with
  | none => rfl
  | some c =>
    have kind : ((byteAt c 0).toNat == Area.counters.number) = true ↔ c.getD 0 0 = 1 := by
      rw [beq_iff_eq]
      exact ⟨fun h => BitVec.eq_of_toNat_eq h, congrArg BitVec.toNat⟩
    by_cases own : c.getD 0 0 = 1
    · simp only [if_pos own, Option.map_some, Option.filter_some_pos, kind.mpr own, Option.getD_some]
    · have other : ((byteAt c 0).toNat == Area.counters.number) = false := Bool.eq_false_iff.mpr (mt kind.mp own)
      simp only [if_neg own, Option.map_some, Option.filter, other, Bool.false_eq_true, if_false, Option.map_none,
        Option.getD_none]

theorem counterAt_of_found {x : FoundCounter} (h : newestOf f f.counters = some x) :
    CounterAt f x.block x.slot x.sequence x.values := mem_counters.mp (newestOf_newest h).1

/-- No record found is newer than the newest (R155). -/
theorem newest_of_found {x : FoundCounter} (h : newestOf f f.counters = some x) {k : Fin 64} {n : BitVec 32}
    {v : CounterValues} (found : CounterAt f b k n v) : n ≤ x.sequence
      ∧ (n = x.sequence → f.tieSequence b ≤ f.tieSequence x.block
        ∧ (f.tieSequence b = f.tieSequence x.block → k ≤ x.slot)) := by
  have most := (newestOf_newest h).2 ⟨n, v, b, k⟩ (mem_counters.mpr found)
  unfold FoundCounter.rank at most
  rw [Prod.Lex.toLex_le_toLex, Prod.Lex.toLex_le_toLex] at most
  dsimp only at most
  rw [BitVec.le_def, Fin.le_def]
  refine ⟨by omega, fun same => ?_⟩
  rw [same] at most
  omega

theorem newestOf_eq_none : newestOf f f.counters = none ↔ ∀ b k n v, ¬CounterAt f b k n v := by
  rw [newestOf_eq, List.argmax_eq_none, List.eq_nil_iff_forall_not_mem]
  exact ⟨fun none b k n v found => none ⟨n, v, b, k⟩ (mem_counters.mpr found),
    fun none x found => none _ _ _ _ (mem_counters.mp found)⟩

end

end Sys2Proof.Machine
end

section
/-! SUPPORT. The start-up scan (R170): the state of each block, the block of an area that becomes OPEN, and the next
block sequence. -/

namespace Sys2Proof.Machine

open Sys2Proof.Claims

section

variable {f : Flash} {b : Fin 16}

/-! ## The block that becomes OPEN -/

/-- The block sequence by which blocks of an area are compared. -/
def Flash.ownSequence (f : Flash) (b : Fin 16) : BitVec 32 := (f.ownHeader b).getD 0

/-- A block does not come after another: by block sequence, and by number among equals (log entry 37). -/
def Flash.notLater (f : Flash) (c b : Fin 16) : Prop :=
  f.ownSequence c < f.ownSequence b ∨ (f.ownSequence c = f.ownSequence b ∧ c ≤ b)

theorem laterBlock_some (a x : Fin 16) :
    laterBlock f (some a) x = if f.ownSequence x < f.ownSequence a then some a else some x := rfl

theorem laterBlock_foldl_eq_none {l : List (Fin 16)} : l.foldl (laterBlock f) none = none ↔ l = [] := by
  refine ⟨fun none => ?_, fun empty => by rw [empty]; rfl⟩
  rcases List.eq_nil_or_concat l with empty | ⟨l, x, rfl⟩
  · exact empty
  · rw [List.concat_eq_append, List.foldl_append, List.foldl_cons, List.foldl_nil] at none
    unfold laterBlock at none
    split at none
    · cases none
    · split at none <;> cases none

/-- The last of the blocks by block sequence and number stands in the end. -/
theorem laterBlock_foldl {l : List (Fin 16)} (sorted : l.Pairwise (· < ·)) (h : l.foldl (laterBlock f) none = some b) :
    b ∈ l ∧ ∀ c ∈ l, f.notLater c b := by
  induction l using List.reverseRecOn generalizing b with
  | nil => cases h
  | append_singleton l x ih =>
    obtain ⟨rising, -, above⟩ := List.pairwise_append.mp sorted
    rw [List.foldl_append, List.foldl_cons, List.foldl_nil] at h
    cases before : l.foldl (laterBlock f) none with
    | none =>
      rw [before] at h
      obtain rfl := Option.some.inj h
      rw [laterBlock_foldl_eq_none.mp before]
      refine ⟨List.mem_singleton_self x, fun c hc => ?_⟩
      rw [List.mem_singleton.mp hc]
      exact .inr ⟨rfl, le_rfl⟩
    | some a =>
      obtain ⟨ha, most⟩ := ih rising before
      have lower : a < x := above a ha x (List.mem_singleton_self x)
      rw [before, laterBlock_some] at h
      unfold Flash.notLater at most ⊢
      simp only [BitVec.lt_def, BitVec.toNat_inj.symm, Fin.le_def, Fin.lt_def] at most lower h ⊢
      split at h <;> obtain rfl := Option.some.inj h
      · refine ⟨List.mem_append_left _ ha, fun c hc => ?_⟩
        rcases List.mem_append.mp hc with hc | hc
        · exact most c hc
        · rw [List.mem_singleton.mp hc]
          exact .inl (by assumption)
      · refine ⟨List.mem_append_right _ (List.mem_singleton_self _), fun c hc => ?_⟩
        rcases List.mem_append.mp hc with hc | hc
        · have := most c hc
          omega
        · rw [List.mem_singleton.mp hc]
          exact .inr ⟨rfl, le_rfl⟩

/-- A block that may become OPEN: not BAD, with a header of its area and an image end (R170). -/
structure Opening (f : Flash) (b : Fin 16) : Prop where
  good : ¬f.programmed b 63 = true
  header : (f.ownHeader b).isSome = true
  ends : HoldsEnd f b

theorem not_blank_of_header (header : (f.ownHeader b).isSome = true) : f.blank b = false := by
  obtain ⟨n, own⟩ := Option.isSome_iff_exists.mp header
  obtain ⟨c, good, -⟩ := ownHeader_eq_some.mp own
  rw [Flash.blank, Bool.eq_false_iff]
  intro all
  have zero := (List.all_eq_true.mp all) 0 (List.mem_finRange 0)
  have none : f.read (64 * b.val + 0) = none := by
    by_contra some
    rw [(programmed_iff f b 0).mpr some] at zero
    cases zero
  rw [recordAt, none] at good
  cases good

theorem scanned_stale (good : ¬f.programmed b 63 = true) (written : f.blank b = false) :
    f.scanned b = ⟨.stale, f.writePoint b, f.ownHeader b⟩ := by
  rw [Flash.scanned, if_neg good, written]
  rfl

theorem opening_iff : ((f.scanned b).state == .stale && (f.ownHeader b).isSome && f.hasImageEnd b) = true
    ↔ Opening f b := by
  rw [Bool.and_eq_true, Bool.and_eq_true, hasImageEnd_iff, beq_iff_eq]
  constructor
  · rintro ⟨⟨stale, header⟩, ends⟩
    refine ⟨fun bad => ?_, header, ends⟩
    rw [Flash.scanned, if_pos bad] at stale
    cases stale
  · rintro ⟨good, header, ends⟩
    rw [scanned_stale good (not_blank_of_header header)]
    exact ⟨⟨rfl, header⟩, ends⟩

theorem mem_openings {a : Area} : b ∈ (a.blocks.filter fun b =>
    (f.scanned b).state == .stale && (f.ownHeader b).isSome && f.hasImageEnd b) ↔ areaOf b = a ∧ Opening f b := by
  rw [List.mem_filter, mem_areaBlocks, opening_iff]

theorem areaBlocks_sorted (a : Area) : a.blocks.Pairwise (· < ·) := (List.pairwise_lt_finRange 16).filter _

/-- The block of an area that becomes OPEN is the last of those that may (R170). -/
theorem scanOpen_eq_some {a : Area} : f.scanOpen a = some b
    ↔ (areaOf b = a ∧ Opening f b) ∧ ∀ c, areaOf c = a → Opening f c → f.notLater c b := by
  have found {b : Fin 16} (h : f.scanOpen a = some b) :
      (areaOf b = a ∧ Opening f b) ∧ ∀ c, areaOf c = a → Opening f c → f.notLater c b := by
    obtain ⟨hb, most⟩ := laterBlock_foldl ((areaBlocks_sorted a).filter _) h
    exact ⟨mem_openings.mp hb, fun c area opening => most c (mem_openings.mpr ⟨area, opening⟩)⟩
  refine ⟨found, fun ⟨member, most⟩ => ?_⟩
  cases h : f.scanOpen a with
  | none =>
    have hb := mem_openings.mpr member
    rw [laterBlock_foldl_eq_none.mp h] at hb
    cases hb
  | some c =>
    obtain ⟨⟨area, opening⟩, last⟩ := found h
    have up := most c area opening
    have down := last b member.1 member.2
    unfold Flash.notLater at up down
    simp only [BitVec.lt_def, BitVec.toNat_inj.symm, Fin.le_def] at up down
    exact congrArg some (Fin.ext (by omega))

/-! ## The write point -/

theorem foldl_max_bounds (l : List (Fin 64)) (n : Nat) :
    let m := l.foldl (fun n k => max n (k.val + 1)) n
    n ≤ m ∧ (∀ k ∈ l, k.val + 1 ≤ m) ∧ (m ≠ n → ∃ k ∈ l, m = k.val + 1) := by
  induction l generalizing n with
  | nil => simp
  | cons x l ih =>
    obtain ⟨start, most, reached⟩ := ih (max n (x.val + 1))
    rw [List.foldl_cons]
    dsimp only at start most reached ⊢
    generalize l.foldl (fun n k => max n (k.val + 1)) (max n (x.val + 1)) = m at start most reached ⊢
    refine ⟨by omega, fun k hk => ?_, fun moved => ?_⟩
    · rcases List.mem_cons.mp hk with rfl | hk
      · omega
      · exact most k hk
    · by_cases same : m = max n (x.val + 1)
      · refine ⟨x, List.mem_cons_self, ?_⟩
        rcases max_choice n (x.val + 1) with high | high <;> rw [high] at same
        · exact absurd same moved
        · exact same
      · obtain ⟨k, hk, reach⟩ := reached same
        exact ⟨k, List.mem_cons_of_mem _ hk, reach⟩

/-- The write point is one above the last slot programmed among 1 to 62 (R170). -/
theorem writePoint_bounds : 1 ≤ f.writePoint b ∧ f.writePoint b ≤ 63
    ∧ (f.writePoint b ≠ 1 → f.read (64 * b.val + (f.writePoint b - 1)) ≠ none)
    ∧ ∀ k, f.writePoint b ≤ k → k ≤ 62 → f.read (64 * b.val + k) = none := by
  obtain ⟨start, most, reached⟩ := foldl_max_bounds (recordSlots.filter fun k => f.programmed b k) 1
  change 1 ≤ f.writePoint b at start
  change f.writePoint b ≠ 1 → ∃ k ∈ _, f.writePoint b = _ at reached
  change ∀ k ∈ _, _ ≤ f.writePoint b at most
  refine ⟨start, ?_, fun moved => ?_, fun k above high => ?_⟩
  · by_cases first : f.writePoint b = 1
    · omega
    · obtain ⟨k, hk, reach⟩ := reached first
      have high := (mem_recordSlots.mp (List.mem_filter.mp hk).1).2
      omega
  · obtain ⟨k, hk, reach⟩ := reached moved
    rw [reach, Nat.add_sub_cancel]
    exact (programmed_iff f b k).mp (List.mem_filter.mp hk).2
  · by_contra some
    have written := (programmed_iff f b ⟨k, by omega⟩).mpr some
    have below := most ⟨k, by omega⟩ (List.mem_filter.mpr ⟨mem_recordSlots.mpr ⟨by dsimp only; omega, high⟩, written⟩)
    dsimp only at below
    omega

/-! ## The next block sequence -/

theorem foldl_larger (l : List (BitVec 32)) (x : BitVec 32) :
    let m := l.foldl (fun m y => if m < y then y else m) x
    m ∈ x :: l ∧ ∀ y ∈ x :: l, y ≤ m := by
  induction l generalizing x with
  | nil => simp
  | cons z l ih =>
    obtain ⟨member, most⟩ := ih (if x < z then z else x)
    rw [List.foldl_cons]
    dsimp only at member most ⊢
    generalize l.foldl (fun m y => if m < y then y else m) (if x < z then z else x) = m at member most ⊢
    have first := most _ List.mem_cons_self
    simp only [BitVec.le_def, BitVec.lt_def] at first most ⊢
    constructor
    · rcases List.mem_cons.mp member with rfl | member
      · split <;> simp
      · exact List.mem_cons_of_mem _ (List.mem_cons_of_mem _ member)
    · intro y hy
      rcases List.mem_cons.mp hy with rfl | hy
      · split at first <;> omega
      · rcases List.mem_cons.mp hy with rfl | hy
        · split at first <;> omega
        · exact most y (List.mem_cons_of_mem _ hy)

theorem mem_headers {n : BitVec 32} :
    n ∈ (allBlocks.filterMap fun b => (f.header b).map Prod.snd) ↔ ∃ b a, HeaderOf f b a n := by
  simp only [List.mem_filterMap, Option.map_eq_some_iff, Prod.exists, headerOf_iff]
  exact ⟨fun ⟨b, _, a, m, header, same⟩ => ⟨b, a, same ▸ header⟩,
    fun ⟨b, a, header⟩ => ⟨b, List.mem_finRange b, a, n, header, rfl⟩⟩

theorem nextSequence_none (none : ∀ b a n, ¬HeaderOf f b a n) : f.nextSequence = 1 := by
  have empty : (allBlocks.filterMap fun b => (f.header b).map Prod.snd) = [] :=
    List.eq_nil_iff_forall_not_mem.mpr fun n hn =>
      have ⟨b, a, header⟩ := mem_headers.mp hn
      none b a n header
  unfold Flash.nextSequence
  rw [empty]

theorem nextSequence_eq {a : Nat} {n : BitVec 32} (header : HeaderOf f b a n)
    (most : ∀ c a m, HeaderOf f c a m → m ≤ n) :
    f.nextSequence = if n = BitVec.allOnes 32 then n else n + 1 := by
  have member := mem_headers.mpr ⟨b, a, header⟩
  have bounds {m : BitVec 32} (hm : m ∈ allBlocks.filterMap fun b => (f.header b).map Prod.snd) : m ≤ n :=
    have ⟨c, a, header⟩ := mem_headers.mp hm
    most c a m header
  unfold Flash.nextSequence
  generalize (allBlocks.filterMap fun b => (f.header b).map Prod.snd) = l at member bounds
  cases l with
  | nil => cases member
  | cons x l =>
    obtain ⟨reached, above⟩ := foldl_larger l x
    have same : l.foldl (fun m y => if m < y then y else m) x = n :=
      BitVec.le_antisymm (bounds reached) (above n member)
    dsimp only
    rw [same]
    rfl

end

end Sys2Proof.Machine
end

section
/-! SUPPORT. What the scan leaves of the blocks, as the specification finds it (R170). -/

namespace Sys2Proof.Machine

open Sys2Proof.Claims

section

variable {f : Flash} {b : Fin 16}

theorem blank_iff : f.blank b = true ↔ ∀ k < 64, f.read (64 * b.val + k) = none := by
  rw [Flash.blank, List.all_eq_true]
  constructor
  · intro all k hk
    by_contra some
    have erased := all ⟨k, hk⟩ (List.mem_finRange _)
    rw [(programmed_iff f b ⟨k, hk⟩).mpr some] at erased
    cases erased
  · intro all k _
    rw [Bool.not_eq_true', Bool.eq_false_iff]
    exact fun written => (programmed_iff f b k).mp written (all k.val k.isLt)

theorem scanState_eq (f : Flash) (b : Fin 16) : f.scanState b
    = if areaOf b ≠ .calibration ∧ f.scanOpen (areaOf b) = some b then { f.scanned b with state := .blockOpen }
      else f.scanned b := rfl

/-- A block that is not OPEN is as the scan of its slots gives it. -/
theorem scanState_of_not_opening (h : ¬Opening f b) : f.scanState b = f.scanned b := by
  rw [scanState_eq, if_neg]
  rintro ⟨-, opens⟩
  exact h (scanOpen_eq_some.mp opens).1.2

theorem scanState_bad (bad : f.programmed b 63 = true) : f.scanState b = ⟨.bad, f.writePoint b, f.ownHeader b⟩ := by
  rw [scanState_of_not_opening fun opening => opening.good bad, Flash.scanned, if_pos bad]

theorem scanState_blank (good : ¬f.programmed b 63 = true) (blank : f.blank b = true) : f.scanState b = blockReset := by
  rw [scanState_of_not_opening, Flash.scanned, if_neg good, if_pos blank]
  intro opening
  rw [not_blank_of_header opening.header] at blank
  cases blank

theorem scanState_written (good : ¬f.programmed b 63 = true) (written : f.blank b = false) : f.scanState b
    = ⟨if areaOf b ≠ .calibration ∧ f.scanOpen (areaOf b) = some b then .blockOpen else .stale, f.writePoint b,
      f.ownHeader b⟩ := by
  rw [scanState_eq, scanned_stale good written]
  split <;> rfl

theorem scanState_bad_iff : (f.scanState b).state = .bad ↔ f.programmed b 63 = true := by
  refine ⟨fun bad => ?_, fun bad => by rw [scanState_bad bad]⟩
  by_contra good
  cases blank : f.blank b with
  | true =>
    rw [scanState_blank good blank] at bad
    cases bad
  | false =>
    rw [scanState_written good blank] at bad
    dsimp only at bad
    split at bad <;> cases bad

/-- The scan opens no calibration block (R170). -/
theorem scanState_calibration (calibration : areaOf b = .calibration) : (f.scanState b).state ≠ .blockOpen := by
  rw [scanState_eq, if_neg fun h => h.1 calibration]
  unfold Flash.scanned
  split
  · exact nofun
  · split <;> exact nofun

theorem areaNumber_eq_zero : areaNumber b = 0 ↔ areaOf b = .calibration := by
  rw [← area_number]
  cases areaOf b <;> simp [Area.number]

theorem areaNumber_eq_iff {c : Fin 16} : areaNumber c = areaNumber b ↔ areaOf c = areaOf b := by
  rw [← area_number, ← area_number]
  cases areaOf b <;> cases areaOf c <;> simp [Area.number]

/-- A block of the area is OPEN where no other comes after it (R170). -/
theorem scanOpen_iff {n : BitVec 32} (good : ¬f.programmed b 63 = true) (header : HeaderOf f b (areaNumber b) n) :
    f.scanOpen (areaOf b) = some b ↔ HoldsEnd f b ∧ ∀ (c : Fin 16) (m : BitVec 32), areaNumber c = areaNumber b →
      ¬f.read (64 * c.val + 63) ≠ none → HeaderOf f c (areaNumber b) m → HoldsEnd f c → m < n ∨ (m = n ∧ c ≤ b) := by
  have own := ownHeader_eq_some.mpr header
  have later {c : Fin 16} {m : BitVec 32} (other : f.ownHeader c = some m) :
      f.notLater c b ↔ m < n ∨ (m = n ∧ c ≤ b) := by
    unfold Flash.notLater Flash.ownSequence
    rw [own, other]
    rfl
  rw [scanOpen_eq_some]
  constructor
  · rintro ⟨⟨-, opening⟩, most⟩
    refine ⟨opening.ends, fun c m area other named ends => ?_⟩
    rw [← area] at named
    have known := ownHeader_eq_some.mpr named
    refine (later known).mp (most c (areaNumber_eq_iff.mp area)
      ⟨fun bad => other ((programmed_iff f c 63).mp bad), ?_, ends⟩)
    rw [known]
    rfl
  · rintro ⟨ends, most⟩
    refine ⟨⟨rfl, good, by rw [own]; rfl, ends⟩, fun c area opening => ?_⟩
    obtain ⟨m, known⟩ := Option.isSome_iff_exists.mp opening.header
    have named := ownHeader_eq_some.mp known
    have same := areaNumber_eq_iff.mpr area
    refine (later known).mpr (most c m same (fun bad => opening.good ((programmed_iff f c 63).mpr bad)) ?_ opening.ends)
    rw [← same]
    exact named

/-- A block as START leaves it: as the scan found it, but for the calibration block that the load takes OPEN (R172). -/
def Standing (f : Flash) (b : Fin 16) (x : BlockStatus) : Prop :=
  x = f.scanState b ∨ (areaOf b = .calibration ∧ ¬f.programmed b 63 = true ∧ (f.ownHeader b).isSome = true
    ∧ x = { f.scanState b with state := .blockOpen })

variable {x : BlockStatus}

theorem Standing.bad (h : Standing f b x) (bad : f.programmed b 63 = true) : x.state = .bad := by
  rcases h with rfl | ⟨-, good, -⟩
  · exact scanState_bad_iff.mpr bad
  · exact absurd bad good

theorem Standing.blank (h : Standing f b x) (good : ¬f.programmed b 63 = true) (blank : f.blank b = true) :
    x = blockReset := by
  rcases h with rfl | ⟨-, -, header, -⟩
  · exact scanState_blank good blank
  · rw [not_blank_of_header header] at blank
    cases blank

/-- A written block that is not BAD: OPEN or STALE, with the write point and sequence of its slots (R170). -/
theorem Standing.written (h : Standing f b x) (good : ¬f.programmed b 63 = true) (written : f.blank b = false) :
    (x.state = .blockOpen ∨ x.state = .stale) ∧ x.writePoint = f.writePoint b ∧ x.sequence = f.ownHeader b
      ∧ (x.state = .blockOpen → (f.ownHeader b).isSome = true)
      ∧ (areaOf b ≠ .calibration → (x.state = .blockOpen ↔ f.scanOpen (areaOf b) = some b)) := by
  rcases h with rfl | ⟨calibration, -, header, rfl⟩
  · rw [scanState_written good written]
    refine ⟨?_, rfl, rfl, ?_, fun area => ?_⟩ <;> dsimp only
    · split
      · exact .inl rfl
      · exact .inr rfl
    · split
      · next opens => exact fun _ => (scanOpen_eq_some.mp opens.2).1.2.header
      · exact nofun
    · split
      · next opens => exact iff_of_true rfl opens.2
      · next not => exact iff_of_false nofun fun opens => not ⟨area, opens⟩
  · rw [scanState_written good written]
    exact ⟨.inl rfl, rfl, rfl, fun _ => header, fun area => absurd calibration area⟩

theorem not_blank_iff : f.blank b = false ↔ ∃ k < 64, f.read (64 * b.val + k) ≠ none := by
  rw [← Bool.not_eq_true, blank_iff]
  simp

/-- The scan and the load leave what the specification reads off the array (R170, R172). -/
theorem scanned_of_standing {t : State} (blocks : ∀ b, Standing f b t.rst.blocks[b])
    (sequence : t.rst.nextBlockSeq = f.nextSequence)
    (closed : ∀ a : Area, (∀ b, areaOf b = a → f.programmed b 63 = true) ↔ (match a with
      | .calibration => t.rst.readOnly.calibration
      | .counters => t.rst.readOnly.counters
      | .faults => t.rst.readOnly.faults) = true) : Scanned f t := by
  have bad (a : Area) : (∀ b : Fin 16, areaNumber b = a.number → f.read (64 * b.val + 63) ≠ none)
      ↔ ∀ b, areaOf b = a → f.programmed b 63 = true := by
    refine forall_congr' fun b => ?_
    rw [programmed_iff f b 63, ← area_number]
    refine imp_congr ?_ Iff.rfl
    cases areaOf b <;> cases a <;> simp [Area.number]
  refine ⟨fun b => ⟨fun written => ?_, fun good none => ?_, fun good some => ⟨fun none => ?_, fun n header => ?_⟩⟩,
    fun none => sequence.trans (nextSequence_none none),
    fun b a n header most => sequence.trans (nextSequence_eq header most), ((bad .calibration).trans (closed _)).symm,
    ((bad .counters).trans (closed _)).symm, ((bad .faults).trans (closed _)).symm⟩
  · exact (blocks b).bad ((programmed_iff f b 63).mpr written)
  · exact (blocks b).blank (fun bad => good ((programmed_iff f b 63).mp bad))
      (blank_iff.mpr fun k hk => not_not.mp (none k hk))
  · obtain ⟨state, -, -, header, -⟩ :=
      (blocks b).written (fun bad => good ((programmed_iff f b 63).mp bad)) (not_blank_iff.mpr some)
    refine state.resolve_left fun opens => ?_
    obtain ⟨n, own⟩ := Option.isSome_iff_exists.mp (header opens)
    exact none n (ownHeader_eq_some.mp own)
  · have good : ¬f.programmed b 63 = true := fun bad => good ((programmed_iff f b 63).mp bad)
    obtain ⟨state, point, own, -, opens⟩ := (blocks b).written good (not_blank_iff.mpr some)
    obtain ⟨low, high, last, above⟩ := writePoint_bounds (f := f) (b := b)
    rw [point, own, ownHeader_eq_some.mpr header]
    refine ⟨rfl, low, high, last, fun k start stop => not_not.mpr (above k start stop), state, fun area => ?_⟩
    exact (opens fun calibration => area (areaNumber_eq_zero.mpr calibration)).trans (scanOpen_iff good header)

end

end Sys2Proof.Machine
end

section
/-! SUPPORT. The calibration that a block holds, as the specification finds it (R172, R186, R210). -/

namespace Sys2Proof.Machine

open Sys2Proof.Claims

theorem mapM_eq_some {α β : Type} {g : α → Option β} {l : List α} {ys : List β} :
    l.mapM g = some ys ↔ l.map g = ys.map some := by
  induction l generalizing ys with
  | nil => cases ys <;> simp
  | cons x l ih =>
    rw [List.mapM_cons]
    cases ys with
    | nil => simp [Option.bind_eq_some_iff]
    | cons y ys => simp [Option.bind_eq_some_iff, ih]

/-- What a function finds at every index is what a list of its length holds. -/
theorem mapM_range_eq_some {β : Type} {g : Nat → Option β} {n : Nat} {ys : List β} [Inhabited β] :
    (List.range n).mapM g = some ys
      ↔ ∃ part : Nat → β, (∀ k < n, g k = some (part k)) ∧ ys = (List.range n).map part := by
  rw [mapM_eq_some]
  constructor
  · intro same
    have length : ys.length = n := by simpa using (congrArg List.length same).symm
    have at_index (k : Nat) (hk : k < n) : g k = some (ys.getD k default) := by
      have entry := congrArg (fun l => l[k]?) same
      simpa [hk, length, List.getD] using entry
    refine ⟨fun k => ys.getD k default, at_index, ?_⟩
    refine List.ext_getElem (by simp [length]) fun k hk _ => ?_
    simp [hk]
  · rintro ⟨part, found, rfl⟩
    rw [List.map_map]
    exact List.map_congr_left fun k hk => found k (List.mem_range.mp hk)

section

variable {f : Flash} {b : Fin 16}

/-- The image bytes of a CALIBRATION record in its place (R210). -/
theorem calibrationPart_eq_some {k : Nat} (hk : k < 51) {bytes : List Byte} :
    f.calibrationPart b (slotNumber (k + 1)) = some bytes ↔ ∃ r, recordAt f b (k + 1) = some r ∧ r.getD 0 0 = 5
      ∧ (r.getD 1 0).toNat = k ∧ bytes = (r.drop 2).take 57 := by
  have number : (slotNumber (k + 1)).val = k + 1 := Nat.mod_eq_of_lt (by omega)
  unfold Flash.calibrationPart
  rw [Option.map_eq_some_iff]
  simp only [Option.filter_eq_some_iff, record_eq_some, number, Bool.and_eq_true, beq_iff_eq, Nat.add_right_cancel_iff]
  constructor
  · rintro ⟨r, ⟨⟨good, -⟩, kind, index⟩, same⟩
    exact ⟨r, good, kind, index, same.symm⟩
  · rintro ⟨r, good, kind, index, same⟩
    refine ⟨r, ⟨⟨good, ?_⟩, kind, index⟩, same.symm⟩
    rw [kind]
    decide

theorem imageIn_eq_some {image : List Byte} : f.imageIn b = some image ↔ ∃ part : Nat → List Byte,
    (∀ k < 51, ∃ r, recordAt f b (k + 1) = some r ∧ r.getD 0 0 = 5 ∧ (r.getD 1 0).toNat = k
      ∧ part k = (r.drop 2).take 57)
    ∧ image = ((List.range 51).flatMap part).take 2872 := by
  unfold Flash.imageIn
  rw [Option.map_eq_some_iff]
  simp only [mapM_range_eq_some]
  constructor
  · rintro ⟨parts, ⟨part, found, rfl⟩, rfl⟩
    exact ⟨part, fun k hk => (calibrationPart_eq_some hk).mp (found k hk), rfl⟩
  · rintro ⟨part, found, rfl⟩
    exact ⟨(List.range 51).map part, ⟨part, fun k hk => (calibrationPart_eq_some hk).mpr (found k hk), rfl⟩, rfl⟩

theorem firstFault_isNone_iff (c : Calibration) : c.firstFault.isNone = true
    ↔ ∀ (sec : CalibSection) (i : Nat), i < sec.count → MeetsConditions c sec i := by
  constructor
  · intro none sec i inside
    have valid := List.find?_eq_none.mp (Option.isNone_iff_eq_none.mp none) (sec, i) (mem_allItems.mpr inside)
    exact (itemValid_iff c inside).mp (by simpa using valid)
  · intro valid
    rw [firstFault_eq_none fun sec i inside => (itemValid_iff c inside).mpr (valid sec i inside)]
    rfl

/-- The calibration that a calibration block holds (R172). -/
theorem calibrationIn_eq_some (calibration : areaOf b = .calibration) {c : Calibration} :
    f.calibrationIn b = some c ↔ ImageIn f b c := by
  have zero : areaNumber b = 0 := areaNumber_eq_zero.mpr calibration
  have header : (f.ownHeader b).isSome = true ↔ ∃ n, HeaderOf f b 0 n := by
    rw [Option.isSome_iff_exists]
    exact exists_congr fun n => by rw [ownHeader_eq_some, zero]
  have ends : f.imageEnd b 52 = true ↔ ∃ e, recordAt f b 52 = some e ∧ e.getD 0 0 = 4 := imageEnd_iff
  unfold Flash.calibrationIn ImageIn
  rw [← header, ← ends, ← firstFault_isNone_iff]
  by_cases whole : ((f.ownHeader b).isSome && f.imageEnd b 52) = true
  · rw [if_pos whole, Option.filter_eq_some_iff, Option.bind_eq_some_iff]
    obtain ⟨known, ended⟩ := (Bool.and_eq_true _ _).mp whole
    simp only [known, ended, true_and, imageIn_eq_some]
    exact and_congr_left fun _ => ⟨fun ⟨_, ⟨part, found, same⟩, holds⟩ => ⟨part, found, same ▸ holds⟩,
      fun ⟨part, found, holds⟩ => ⟨_, ⟨part, found, rfl⟩, holds⟩⟩
  · rw [if_neg whole]
    refine iff_of_false nofun fun ⟨known, ended, _⟩ => whole ?_
    rw [known, ended]
    rfl

/-- A block that holds a calibration has a header. -/
theorem header_of_calibrationIn {c : Calibration} (h : f.calibrationIn b = some c) : (f.ownHeader b).isSome = true := by
  unfold Flash.calibrationIn at h
  split at h
  · next whole => exact ((Bool.and_eq_true _ _).mp whole).1
  · cases h

end

end Sys2Proof.Machine
end

section
/-! SUPPORT. START up to the fault replay (R15, R21, R33, R58, R131): what its deliveries alter while no change raises
events. -/

namespace Sys2Proof.Machine

open Sys2Proof.Claims

/-- The state without what an update in START alters: the slots and the draws. -/
def State.outsideTable (s : State) : State := { s with slots := Vector.replicate 96 slotReset, draws := 0 }

/-- The state without what the calibration load in START alters. -/
def State.outsideLoad (s : State) : State :=
  { s.outsideTable with
    cal := Calibration.factory, calLoaded := false, switches := Vector.replicate 32 switchReset, wre := wreReset
    opu := opuReset }

/-- The state without what the first sample of the senders alters. -/
def State.outsideSamples (s : State) : State := { s.outsideTable with senders := Vector.replicate 8 senderReset }

section

variable {s t : State}

theorem power_of_outsideTable (h : t.outsideTable = s.outsideTable) : t.pwc.power = s.pwc.power :=
  (congrArg (fun u : State => u.pwc.power) h :)

/-- In START an update alters its slot alone (R15, R21). -/
theorem sgtUpdate_starting (start : s.pwc.power = .start) (i : Fin 96) (st : LiveStatus) (v : Value) :
    (sgtUpdate i st v s).outsideTable = s.outsideTable := by
  rw [sgtUpdate, sgtAlter, if_pos start]
  rfl

theorem sourceUpdate_starting (start : s.pwc.power = .start) (k : SourceKind) (index : Option (Fin 32))
    (st : LiveStatus) (v : Value) : (sourceUpdate k index st v s).outsideTable = s.outsideTable := by
  refine deliverAll_induct (P := fun u => u.outsideTable = s.outsideTable) (fun _ h => h) (fun e he u hu => ?_) rfl
  obtain ⟨i, -, rfl⟩ := List.mem_map.mp he
  exact (sgtUpdate_starting ((power_of_outsideTable hu).trans start) i st v).trans hu

/-! ## The calibration load (R172) -/

/-- The state that the load binds before the first switch sample reaches the slots. -/
def loaded (c : Calibration) (l : Bool) (s : State) : State :=
  let s := firstSample (sgtBind { s with cal := c, calLoaded := l })
  opuLoad (s.setWre { s.wre with rules := freshRules c })

theorem activate_eq (c : Calibration) (l : Bool) (s : State) :
    activate c l s = deliverAll switchUpdates (loaded c l s) := rfl

theorem activate_table (start : s.pwc.power = .start) (c : Calibration) (l : Bool) :
    (activate c l s).outsideTable = (loaded c l s).outsideTable := by
  rw [activate_eq]
  refine deliverAll_induct (P := fun u => u.outsideTable = (loaded c l s).outsideTable) (fun _ h => h)
    (fun e he u hu => ?_) rfl
  obtain ⟨n, -, rfl⟩ := List.mem_map.mp he
  have power : (loaded c l s).pwc.power = s.pwc.power := rfl
  exact (sourceUpdate_starting ((power_of_outsideTable hu).trans (power.trans start)) _ _ _ _).trans hu

theorem activate_loads (start : s.pwc.power = .start) (c : Calibration) (l : Bool) :
    (activate c l s).outsideLoad = s.outsideLoad ∧ (activate c l s).cal = c ∧ (activate c l s).calLoaded = l := by
  have table := activate_table start c l
  generalize activate c l s = t at table ⊢
  exact ⟨(congrArg State.outsideLoad table :), (congrArg State.cal table :), (congrArg State.calLoaded table :)⟩

/-! ## The first samples of the senders (R33) -/

/-- No sender has been judged out of range, and none has been pending for any time (R29, R33). -/
def State.unjudged (s : State) : Prop :=
  ∀ n : Fin 8, s.senders[n].outOfRange = false
    ∧ (s.senders[n].pendingTime = none ∨ s.senders[n].pendingTime = some s.pwc.uptime)

theorem diagnose_unjudged {pending : Option Time} {now : Time} (h : pending = none ∨ pending = some now)
    (judged : Bool) :
    (diagnose false pending judged now).1 = false
      ∧ ((diagnose false pending judged now).2 = none ∨ (diagnose false pending judged now).2 = some now) := by
  have fresh : elapsed now now = 0 := by simp [elapsed]
  cases judged with
  | false => exact ⟨rfl, .inl rfl⟩
  | true =>
    rcases h with rfl | rfl
    · exact ⟨rfl, .inr rfl⟩
    · simp [diagnose, fresh]

theorem sampledSender_unjudged (h : s.unjudged) (n : Fin 8) (raw : BitVec 12) :
    (sampledSender s n raw).outOfRange = false ∧ ((sampledSender s n raw).pendingTime = none
      ∨ (sampledSender s n raw).pendingTime = some s.pwc.uptime) := by
  obtain ⟨inRange, pending⟩ := h n
  unfold sampledSender
  dsimp only
  rw [inRange]
  exact diagnose_unjudged pending _

/-- A sender out of use takes no sample (R27). -/
theorem senderSample_unused {n : Fin 8} (unused : s.cal.senderInUse n = false) (raw : BitVec 12) :
    senderSample n raw s = s := by
  unfold senderSample
  rw [unused]
  rfl

theorem senderSample_starting (start : s.pwc.power = .start) (h : s.unjudged) {n : Fin 8}
    (used : s.cal.senderInUse n = true) (raw : BitVec 12) :
    ∃ p, (sampledSender s n raw).lastPublication = some p ∧ senderSample n raw s
      = deliverAll (sampleUpdates s n p ++ sampleReports s n false) (s.setSender n (sampledSender s n raw)) := by
  refine ⟨_, rfl, ?_⟩
  rw [senderSample_eq (by rw [start]; exact nofun) used raw rfl, (sampledSender_unjudged h n raw).1]

/-- A first sample alters the table and its sender (R33). -/
theorem senderSample_table (start : s.pwc.power = .start) (h : s.unjudged) {n : Fin 8}
    (used : s.cal.senderInUse n = true) (raw : BitVec 12) :
    (senderSample n raw s).outsideTable = (s.setSender n (sampledSender s n raw)).outsideTable := by
  obtain ⟨p, -, sample⟩ := senderSample_starting start h used raw
  rw [sample]
  generalize hb : s.setSender n (sampledSender s n raw) = b
  have power : b.pwc.power = .start := by rw [← hb]; exact start
  refine deliverAll_induct (P := fun u => u.outsideTable = b.outsideTable) (fun _ h => h) (fun e he u hu => ?_) rfl
  rcases List.mem_append.mp he with he | he
  · unfold sampleUpdates at he
    split at he
    · obtain ⟨i, -, rfl⟩ := List.mem_map.mp he
      exact (sgtUpdate_starting ((power_of_outsideTable hu).trans power) _ _ _).trans hu
    · cases he
  · rw [sampleReports, if_pos (h n).1] at he
    cases he

theorem unjudged_of_table {b : State} (h : t.outsideTable = b.outsideTable) (hb : b.unjudged) : t.unjudged := by
  have senders : t.senders = b.senders := (congrArg State.senders h :)
  have uptime : t.pwc.uptime = b.pwc.uptime := (congrArg (fun u : State => u.pwc.uptime) h :)
  unfold State.unjudged
  rw [senders, uptime]
  exact hb

theorem setSender_sender (s : State) (n m : Fin 8) (x : SenderState) :
    (s.setSender n x).senders[m] = if m = n then x else s.senders[m] := by
  show (s.senders.set n.val x)[m.val] = _
  rw [Vector.getElem_set]
  by_cases same : m = n
  · rw [if_pos same, if_pos (by rw [same])]
  · rw [if_neg same, if_neg fun h => same (Fin.ext h.symm)]
    rfl

/-- A first sample, of a sender in use or not (R33). -/
theorem senderSample_first (start : s.pwc.power = .start) (h : s.unjudged) (n : Fin 8) (raw : BitVec 12) :
    (senderSample n raw s).outsideSamples = s.outsideSamples ∧ (senderSample n raw s).unjudged
      ∧ ∀ m : Fin 8, (senderSample n raw s).senders[m]
        = if m = n ∧ s.cal.senderInUse n = true then sampledSender s n raw else s.senders[m] := by
  cases used : s.cal.senderInUse n with
  | false =>
    rw [senderSample_unused used]
    exact ⟨rfl, h, fun m => by simp⟩
  | true =>
    have table := senderSample_table start h used raw
    have judged := sampledSender_unjudged h n raw
    generalize senderSample n raw s = t at table ⊢
    generalize sampledSender s n raw = x at table judged ⊢
    have senders : t.senders = (s.setSender n x).senders := (congrArg State.senders table :)
    refine ⟨(congrArg State.outsideSamples table :), unjudged_of_table table fun m => ?_, fun m => ?_⟩
    · rw [setSender_sender]
      split
      · exact judged
      · exact h m
    · rw [senders, setSender_sender]
      simp

end

end Sys2Proof.Machine
end

section
/-! SUPPORT. The first samples of the senders in START (R27 to R29, R33), taken together. -/

namespace Sys2Proof.Machine

open Sys2Proof.Claims

section

variable {s : State} {n : Fin 8} {raw : BitVec 12}

theorem sgtUpdate_bindings (i : Fin 96) (st : LiveStatus) (v : Value) (s : State) :
    (sgtUpdate i st v s).bindings = s.bindings :=
  (bindings_closed s.bindings).alter ((bindings_closed s.bindings).setSlot i st v s rfl)

/-- A first sample leaves the bindings, and the slots that are not bound to its sender. -/
theorem senderSample_slots (start : s.pwc.power = .start) (h : s.unjudged) :
    (senderSample n raw s).bindings = s.bindings
    ∧ ∀ i, s.bindings i ≠ (.sender, sourceOf n) → (senderSample n raw s).source i = s.source i := by
  cases used : s.cal.senderInUse n with
  | false =>
    rw [senderSample_unused used]
    exact ⟨rfl, fun _ _ => rfl⟩
  | true =>
    obtain ⟨p, -, sample⟩ := senderSample_starting start h used raw
    rw [sample]
    refine deliverAll_induct (P := fun u => u.bindings = s.bindings
      ∧ ∀ i, s.bindings i ≠ (.sender, sourceOf n) → u.source i = s.source i) (fun _ h => h)
      (fun e he u ⟨bindings, same⟩ => ?_) ⟨rfl, fun _ _ => rfl⟩
    rw [sampleReports, if_pos (h n).1, List.append_nil, sampleUpdates] at he
    split at he
    · obtain ⟨j, hj, rfl⟩ := List.mem_map.mp he
      refine ⟨(sgtUpdate_bindings j _ _ u).trans bindings, fun i apart => ?_⟩
      rw [sgtUpdate_source, Function.update_of_ne, same i apart]
      rintro rfl
      exact apart (mem_boundTo.mp hj)
    · cases he

/-- A first sample is the raw value, in range, and published to the slots (R28, R33). -/
theorem senderSample_fresh (start : s.pwc.power = .start) (h : s.unjudged) (fresh : s.senders[n] = senderReset)
    (used : s.cal.senderInUse n = true) :
    (sampledSender s n raw).filtered = some raw ∧ (sampledSender s n raw).outOfRange = false
      ∧ ∀ i, s.bindings i = (.sender, sourceOf n) → ((senderSample n raw s).source i).liveStatus = .valid := by
  have inRange := (sampledSender_unjudged h n raw).1
  obtain ⟨p, published, sample⟩ := senderSample_starting start h used raw
  refine ⟨?_, inRange, fun i bound => ?_⟩
  · unfold sampledSender
    rw [fresh]
    rfl
  · rw [sample, senderSample_source (by rw [fresh]; exact nofun) bound]
    have form : p = publicationOf s.cal.senders[n] (sampledSender s n raw).outOfRange _ :=
      (Option.some.inj published).symm
    rw [inRange] at form
    rw [form]
    rfl

/-- The part of the state on which the first samples of the senders agree with the state before them. -/
structure Sampling (s u : State) : Prop where
  frame : u.outsideSamples = s.outsideSamples
  unjudged : u.unjudged
  bindings : u.bindings = s.bindings

theorem Sampling.cal {u : State} (h : Sampling s u) : u.cal = s.cal := (congrArg State.cal h.frame :)

theorem Sampling.start {u : State} (h : Sampling s u) (start : s.pwc.power = .start) : u.pwc.power = .start :=
  (congrArg (fun u : State => u.pwc.power) h.frame :).trans start

theorem Sampling.sample {u : State} (h : Sampling s u) (start : s.pwc.power = .start) (m : Fin 8) (raw : BitVec 12) :
    Sampling s (senderSample m raw u) := by
  obtain ⟨frame, unjudged, -⟩ := senderSample_first (h.start start) h.unjudged m raw
  exact ⟨frame.trans h.frame, unjudged, (senderSample_slots (h.start start) h.unjudged).1.trans h.bindings⟩

/-- A sender after the first samples: in use, it holds its raw value, in range, and its slots are VALID; otherwise it is
as it was (R27, R33). -/
structure FirstSampled (s : State) (n : Fin 8) (raw : BitVec 12) (u : State) : Prop where
  used : s.cal.senderInUse n = true → u.senders[n].filtered = some raw ∧ u.senders[n].outOfRange = false
    ∧ ∀ i, s.bindings i = (.sender, sourceOf n) → (u.source i).liveStatus = .valid
  unused : s.cal.senderInUse n = false → u.senders[n] = senderReset

theorem firstSampled_own {u : State} (start : s.pwc.power = .start) (h : Sampling s u)
    (fresh : u.senders[n] = senderReset) : FirstSampled s n raw (senderSample n raw u) := by
  obtain ⟨-, -, senders⟩ := senderSample_first (h.start start) h.unjudged n raw
  rw [h.cal] at senders
  refine ⟨fun used => ?_, fun unused => ?_⟩
  · obtain ⟨filtered, inRange, valid⟩ :=
      senderSample_fresh (raw := raw) (h.start start) h.unjudged fresh (by rw [h.cal]; exact used)
    rw [senders n, if_pos ⟨rfl, used⟩]
    rw [h.bindings] at valid
    exact ⟨filtered, inRange, valid⟩
  · rw [senders n, if_neg fun taken => by rw [unused] at taken; cases taken.2]
    exact fresh

theorem FirstSampled.other {u : State} (h : FirstSampled s n raw u) (start : s.pwc.power = .start)
    (frame : Sampling s u) {m : Fin 8} (other : n ≠ m) (x : BitVec 12) : FirstSampled s n raw (senderSample m x u) := by
  obtain ⟨-, -, senders⟩ := senderSample_first (frame.start start) frame.unjudged m x
  have kept : (senderSample m x u).senders[n] = u.senders[n] := (senders n).trans (if_neg fun taken => other taken.1)
  refine ⟨fun used => ?_, fun unused => kept.trans (h.unused unused)⟩
  rw [kept]
  obtain ⟨filtered, inRange, valid⟩ := h.used used
  refine ⟨filtered, inRange, fun i bound => ?_⟩
  rw [(senderSample_slots (frame.start start) frame.unjudged).2 i, valid i bound]
  rw [frame.bindings, bound]
  exact fun same => other (sourceOf_injective (Prod.mk.inj same).2)

theorem unjudged_of_reset (fresh : ∀ n : Fin 8, s.senders[n] = senderReset) : s.unjudged := fun n => by
  rw [fresh n]
  exact ⟨rfl, .inl rfl⟩

/-- The first samples of all senders (R33). -/
theorem sampleSenders_first (start : s.pwc.power = .start) (fresh : ∀ n : Fin 8, s.senders[n] = senderReset)
    (raw : Conversions) :
    Sampling s (sampleSenders raw s) ∧ ∀ n : Fin 8, FirstSampled s n raw[n] (sampleSenders raw s) := by
  have before : Sampling s s := ⟨rfl, unjudged_of_reset fresh, rfl⟩
  refine ⟨deliverAll_induct (P := Sampling s) (fun _ h => ⟨h.frame, h.unjudged, h.bindings⟩) (fun e he u hu => ?_)
    before, fun n => ?_⟩
  · obtain ⟨m, -, rfl⟩ := List.mem_map.mp he
    exact hu.sample start m _
  · obtain ⟨l, perm, run⟩ := deliverAll_delivered (allEight.map fun n => senderSample n raw[n]) s
    refine (run.turns (P := fun u => Sampling s u ∧ u.senders[n] = senderReset)
      (Q := fun u => Sampling s u ∧ FirstSampled s n raw[n] u)
      (perm.trans ((allEight_perm n).map fun n => senderSample n raw[n]))
      (fun _ ⟨h, same⟩ => ⟨⟨h.frame, h.unjudged, h.bindings⟩, same⟩)
      (fun _ ⟨h, taken⟩ => ⟨⟨h.frame, h.unjudged, h.bindings⟩, taken.used, taken.unused⟩) ?_ ?_ ?_ ⟨before, fresh n⟩).2
    · rintro e he u ⟨hu, same⟩
      obtain ⟨m, hm, rfl⟩ := List.mem_map.mp he
      have other := mem_allEight_erase hm
      obtain ⟨-, -, senders⟩ := senderSample_first (hu.start start) hu.unjudged m raw[m]
      exact ⟨hu.sample start m _, ((senders n).trans (if_neg fun taken => other taken.1)).trans same⟩
    · rintro e he u ⟨hu, taken⟩
      obtain ⟨m, hm, rfl⟩ := List.mem_map.mp he
      exact ⟨hu.sample start m _, taken.other start hu (mem_allEight_erase hm) _⟩
    · rintro u ⟨hu, same⟩
      exact ⟨hu.sample start n _, firstSampled_own start hu same⟩

end

end Sys2Proof.Machine
end

section
/-! SUPPORT. The counter restore and the initialisation of channels and doors in START (R58, R131, R171). -/

namespace Sys2Proof.Machine

open Sys2Proof.Claims

/-- The state without what the initialisation of channels and doors alters. -/
def State.outsideInit (s : State) : State := { s.outsideTable with ccu := ccuReset, drs := drsReset }

/-- The state without what the counter restore alters. -/
def State.outsideRestore (s : State) : State :=
  { s with
    ccu := ccuReset, drs := drsReset, flm := flmReset
    pwc := { s.pwc with ignitionCycles := 0 }
    rst := { s.rst with nextCounterSeq := 1, newestCounter := none } }

/-- What the counter restore sets (R171). -/
structure RestoredCounts where
  odometer : RoleCount
  hours : RoleCount
  cycles : Fin 4 → Count
  ignition : BitVec 16
  newest : Option (Fin 16 × Fin 64)
  next : BitVec 32

/-- The counts that stand in a state. -/
def State.restoredCounts (s : State) : RestoredCounts :=
  ⟨s.ccu.odometer, s.ccu.hours, s.doorCycles, s.pwc.ignitionCycles, s.rst.newestCounter, s.rst.nextCounterSeq⟩

/-- The counts that the newest record found gives, or 0 (R171). -/
def countsOf : Option FoundCounter → RestoredCounts
  | some x => ⟨⟨x.values.odometer, 0⟩, ⟨x.values.hours, 0⟩, fun d => x.values.cycles[d], x.values.ignition,
      some (x.block, x.slot), satInc x.sequence⟩
  | none => ⟨⟨0, 0⟩, ⟨0, 0⟩, fun _ => 0, 0, none, 1⟩

section

variable {s : State}

/-- A report in START is held (R151). -/
theorem flmReport_held (unreplayed : s.flm.replayDone = false) (r : Report) :
    flmReport r s = s.setFlm { s.flm with held := hold s.flm.held r } := by
  unfold flmReport
  rw [if_neg (by rw [unreplayed]; exact nofun)]

/-- The report of a counter restore that finds no record (R171). -/
def restoreReports : Option FoundCounter → List Report
  | some _ => []
  | none => [.occurrence 0xE310#16 .store]

theorem restoreCounts_cycles (v : CounterValues) : (s.restoreCounts v).doorCycles = fun d => v.cycles[d] := by
  funext d
  unfold State.doorCycles
  show ((Vector.ofFn fun d : Fin 4 => ({ s.drs.doors[d] with cycles := v.cycles[d] } : DoorRecord))[d.val]).cycles = _
  rw [Vector.getElem_ofFn]

/-- The state with counts restored, and the place and number of the newest record (R171). -/
def State.restored (s : State) (v : CounterValues) (next : BitVec 32) (newest : Option (Fin 16 × Fin 64)) : State :=
  (s.restoreCounts v).setRst { s.rst with nextCounterSeq := next, newestCounter := newest }

theorem restored_eq (v : CounterValues) (next : BitVec 32) (newest : Option (Fin 16 × Fin 64)) :
    s.restored v next newest = { s with
      ccu := { s.ccu with odometer := ⟨v.odometer, 0⟩, hours := ⟨v.hours, 0⟩ }
      drs := (s.restoreCounts v).drs
      pwc := { s.pwc with ignitionCycles := v.ignition }
      rst := { s.rst with nextCounterSeq := next, newestCounter := newest } } := rfl

theorem restored_outside (v : CounterValues) (next : BitVec 32) (newest : Option (Fin 16 × Fin 64)) :
    (s.restored v next newest).outsideRestore = s.outsideRestore ∧ (s.restored v next newest).flm = s.flm := by
  rw [restored_eq]
  exact ⟨rfl, rfl⟩

theorem restored_counts (v : CounterValues) (next : BitVec 32) (newest : Option (Fin 16 × Fin 64)) :
    (s.restored v next newest).restoredCounts
      = ⟨⟨v.odometer, 0⟩, ⟨v.hours, 0⟩, fun d => v.cycles[d], v.ignition, newest, next⟩ := by
  have cycles : (s.restored v next newest).doorCycles = (s.restoreCounts v).doorCycles := by
    rw [restored_eq]
    rfl
  unfold State.restoredCounts
  rw [cycles, restoreCounts_cycles, restored_eq]

theorem restoreCounters_eq : restoreCounters s = match newestOf s.rst.flash s.rst.flash.counters with
    | some x => s.restored x.values (satInc x.sequence) (some (x.block, x.slot))
    | none => flmReport (.occurrence 0xE310#16 .store) (s.restored ⟨0, 0, Vector.replicate 4 0, 0⟩ 1 none) := rfl

theorem restoreCounters_restores (unreplayed : s.flm.replayDone = false) :
    let found := newestOf s.rst.flash s.rst.flash.counters
    let t := restoreCounters s
    t.outsideRestore = s.outsideRestore ∧ t.restoredCounts = countsOf found
      ∧ t.flm = { s.flm with held := (restoreReports found).foldl hold s.flm.held } := by
  dsimp only
  rw [restoreCounters_eq]
  cases newestOf s.rst.flash s.rst.flash.counters with
  | some x =>
    obtain ⟨outside, flm⟩ := restored_outside (s := s) x.values (satInc x.sequence) (some (x.block, x.slot))
    exact ⟨outside, restored_counts _ _ _, flm⟩
  | none =>
    obtain ⟨outside, flm⟩ := restored_outside (s := s) ⟨0, 0, Vector.replicate 4 0, 0⟩ 1 none
    have counts := restored_counts (s := s) ⟨0, 0, Vector.replicate 4 0, 0⟩ 1 none
    have zero : (fun d : Fin 4 => (Vector.replicate 4 (0 : Count))[d]) = fun _ => 0 :=
      funext fun d => Vector.getElem_replicate _
    rw [zero] at counts
    dsimp only
    generalize s.restored ⟨0, 0, Vector.replicate 4 0, 0⟩ 1 none = u at outside flm counts ⊢
    rw [flmReport_held (by rw [flm]; exact unreplayed), ← flm]
    exact ⟨outside, counts, rfl⟩

/-! ## Channels and doors -/

/-- The deliveries of an initialisation at one channel. -/
theorem initial_event (start : s.pwc.power = .start) (c : Fin 8) :
    ChannelEvent c fun u => u.outsideInit = s.outsideInit ∧ u.roles = s.roles ∧ u.drs = s.drs where
  drawn _ h := h
  setChannel _ _ h := h
  deliver v u _ h := by
    obtain ⟨outside, roles, drs⟩ := h
    have power : u.pwc.power = .start := (congrArg (fun u : State => u.pwc.power) outside :).trans start
    have table : (ccuDeliver c v u).outsideTable = u.outsideTable := sourceUpdate_starting power _ _ _ _
    generalize ccuDeliver c v u = t at table ⊢
    exact ⟨(congrArg State.outsideInit table :).trans outside, (congrArg State.roles table :).trans roles,
      (congrArg State.drs table :).trans drs⟩

/-- The state from which channels deliver at their initialisation (R58). -/
def channelsFresh (s : State) : State :=
  ccuFresh ((s.putOdometer ⟨s.ccu.odometer.count, 0⟩).putHours ⟨s.ccu.hours.count, 0⟩)

theorem ccuInit_eq (s : State) : ccuInit s = deliverAll (allEight.map deliverInitial) (channelsFresh s) := rfl

theorem ccuInit_starting (start : s.pwc.power = .start) : (ccuInit s).outsideInit = s.outsideInit
    ∧ (ccuInit s).roles = (s.cal, ⟨s.ccu.odometer.count, 0⟩, ⟨s.ccu.hours.count, 0⟩) ∧ (ccuInit s).drs = s.drs := by
  rw [ccuInit_eq]
  refine deliverAll_induct (P := fun u => u.outsideInit = (channelsFresh s).outsideInit
    ∧ u.roles = (channelsFresh s).roles ∧ u.drs = (channelsFresh s).drs) (fun _ h => h) (fun e he u hu => ?_)
    ⟨rfl, rfl, rfl⟩
  obtain ⟨c, -, rfl⟩ := List.mem_map.mp he
  exact (initial_event (s := channelsFresh s) start c).initial hu

/-- The initialisation of the channels leaves the bindings, and the slots of other sources. -/
theorem ccuInit_slots : (ccuInit s).bindings = s.bindings
    ∧ ∀ i, (s.bindings i).1 ≠ .channel → (ccuInit s).source i = s.source i := by
  rw [ccuInit_eq]
  refine deliverAll_induct (P := fun u => u.bindings = s.bindings
    ∧ ∀ i, (s.bindings i).1 ≠ .channel → u.source i = s.source i) (fun _ h => h) (fun e he u hu => ?_)
    ⟨rfl, fun _ _ => rfl⟩
  obtain ⟨c, -, rfl⟩ := List.mem_map.mp he
  have event : ChannelEvent c fun u => u.bindings = s.bindings
      ∧ ∀ i, (s.bindings i).1 ≠ .channel → u.source i = s.source i := by
    refine ⟨fun _ h => h, fun _ _ h => h, fun v u _ ⟨bindings, same⟩ =>
      ⟨(sourceUpdate_bindings _ _ _ _ u).trans bindings, fun i other => ?_⟩⟩
    refine (sourceUpdate_source_ne (fun bound => other ?_) _ _).trans (same i other)
    rw [← bindings, bound]
  exact event.initial hu

/-- The doors as their initialisation sets them (R131). -/
def doorsFresh (s : State) : State := { s with drs := ⟨Vector.ofFn fun d =>
    { doorReset with cycles := s.drs.doors[d].cycles, rampOut := s.rampActive d }, false⟩ }

theorem doorsFresh_cycles (s : State) : (doorsFresh s).doorCycles = s.doorCycles := by
  funext d
  unfold State.doorCycles doorsFresh
  dsimp only
  rw [Fin.getElem_fin, Vector.getElem_ofFn]

theorem drsInit_starting (start : s.pwc.power = .start) : (drsInit s).outsideInit = s.outsideInit
    ∧ (drsInit s).roles = s.roles ∧ (drsInit s).doorCycles = s.doorCycles := by
  have table : (drsInit s).outsideTable = (doorsFresh s).outsideTable :=
    sourceUpdate_starting (s := doorsFresh s) start _ _ _ _
  have cycles := doorsFresh_cycles s
  generalize drsInit s = t at table ⊢
  exact ⟨(congrArg State.outsideInit table :), (congrArg State.roles table :),
    (congrArg State.doorCycles table :).trans cycles⟩

/-- The initialisation of the doors leaves the bindings, and the slots of other sources. -/
theorem drsInit_slots : (drsInit s).bindings = s.bindings
    ∧ ∀ i, (s.bindings i).1 ≠ .stopReq → (drsInit s).source i = s.source i :=
  ⟨sourceUpdate_bindings _ _ _ _ (doorsFresh s), fun _ other =>
    sourceUpdate_source_ne (s := doorsFresh s) (fun bound => other (congrArg Prod.fst bound)) _ _⟩

end

end Sys2Proof.Machine
end

section
/-! SUPPORT. The scan and the calibration load in START (R170, R172), with the reports that START holds (R151). -/

namespace Sys2Proof.Machine

open Sys2Proof.Claims

/-- The state without what the scan of an area alters. -/
def State.outsideScan (s : State) : State :=
  { s with rst := { s.rst with readOnly := ⟨false, false, false⟩ }, ptu := s.ptu.unflagged, flm := flmReset }

/-- The part of the state that every step of START keeps. -/
def State.basis (s : State) : State :=
  { s.outsideTable with
    cal := Calibration.factory, calLoaded := false, switches := Vector.replicate 32 switchReset
    senders := Vector.replicate 8 senderReset, wre := wreReset, opu := opuReset, ccu := ccuReset, drs := drsReset
    flm := flmReset, ptu := s.ptu.unflagged
    pwc := { s.pwc with ignitionCycles := 0, storeIdle := true }
    rst := { s.rst with
      blocks := Vector.replicate 16 blockReset, nextBlockSeq := 1, nextCounterSeq := 1, newestCounter := none
      queue := [], readOnly := ⟨false, false, false⟩ } }

section

variable {s : State}

/-! ## The scan (R170) -/

/-- The report of an area whose blocks are all BAD (R170). -/
def areaReports (r : Rst) (a : Area) : List Report := if r.allBad a then [.occurrence (storeCode a) .store] else []

theorem scanArea_scans (unreplayed : s.flm.replayDone = false) (a : Area) :
    (scanArea a s).outsideScan = s.outsideScan
      ∧ (scanArea a s).rst.readOnly = (if s.rst.allBad a then s.rst.readOnly.close a else s.rst.readOnly)
      ∧ (scanArea a s).flm = { s.flm with held := (areaReports s.rst a).foldl hold s.flm.held } := by
  unfold scanArea areaReports
  split
  · rw [flmReport_held (by exact unreplayed)]
    exact ⟨rfl, rfl, rfl⟩
  · exact ⟨rfl, rfl, rfl⟩

theorem allBad_of_outsideScan {t : State} (h : t.outsideScan = s.outsideScan) (a : Area) :
    t.rst.allBad a = s.rst.allBad a := by
  have blocks : t.rst.blocks = s.rst.blocks := (congrArg (fun u : State => u.rst.blocks) h :)
  unfold Rst.allBad
  rw [blocks]

/-- The reports of the scan, in the order of the areas (log entry 30). -/
def scanReports (r : Rst) : List Report :=
  areaReports r .calibration ++ areaReports r .counters ++ areaReports r .faults

/-- The store states that the scan gives (R167, R170). -/
def scannedStates (r : Rst) : StoreStates := ⟨r.allBad .calibration, r.allBad .counters, r.allBad .faults⟩

theorem scanAreas_scan (unreplayed : s.flm.replayDone = false) (normal : s.rst.readOnly = ⟨false, false, false⟩) :
    let t := scanArea .faults (scanArea .counters (scanArea .calibration s))
    t.outsideScan = s.outsideScan ∧ t.rst.readOnly = scannedStates s.rst
      ∧ t.flm = { s.flm with held := (scanReports s.rst).foldl hold s.flm.held } := by
  obtain ⟨outside₁, closed₁, flm₁⟩ := scanArea_scans unreplayed .calibration
  generalize scanArea .calibration s = t at outside₁ closed₁ flm₁ ⊢
  obtain ⟨outside₂, closed₂, flm₂⟩ := scanArea_scans (s := t) (by rw [flm₁]; exact unreplayed) .counters
  rw [areaReports, allBad_of_outsideScan outside₁, ← areaReports] at flm₂
  rw [allBad_of_outsideScan outside₁] at closed₂
  have outside₂ := outside₂.trans outside₁
  generalize scanArea .counters t = u at outside₂ closed₂ flm₂ ⊢
  obtain ⟨outside₃, closed₃, flm₃⟩ := scanArea_scans (s := u) (by rw [flm₂, flm₁]; exact unreplayed) .faults
  rw [areaReports, allBad_of_outsideScan outside₂, ← areaReports] at flm₃
  rw [allBad_of_outsideScan outside₂] at closed₃
  refine ⟨outside₃.trans outside₂, ?_, ?_⟩
  · rw [closed₃, closed₂, closed₁, normal]
    unfold scannedStates StoreStates.close
    cases s.rst.allBad .calibration <;> cases s.rst.allBad .counters <;> cases s.rst.allBad .faults <;> rfl
  · rw [flm₃, flm₂, flm₁, scanReports, List.foldl_append, List.foldl_append]

theorem startScan_eq (s : State) :
    startScan s = scanArea .faults (scanArea .counters (scanArea .calibration (s.setRst s.rst.scan))) := rfl

theorem scan_block (r : Rst) (b : Fin 16) : r.scan.blocks[b] = r.flash.scanState b := by
  unfold Rst.scan
  rw [Fin.getElem_fin, Vector.getElem_ofFn]

/-- The scan closes the areas whose blocks are all BAD (R167, R170). -/
theorem scan_allBad_iff (r : Rst) (a : Area) :
    r.scan.allBad a = true ↔ ∀ b, areaOf b = a → r.flash.programmed b 63 = true := by
  rw [Rst.allBad, List.all_eq_true]
  refine forall_congr' fun b => ?_
  rw [mem_areaBlocks, beq_iff_eq, scan_block, scanState_bad_iff]

/-! ## The calibration load (R172) -/

/-- The block and calibration that the load takes (R172). -/
def Rst.loading (r : Rst) : Option (Fin 16 × Calibration) :=
  r.calibrationBlock.bind fun b => (r.flash.calibrationIn b).map fun c => (b, c)

theorem loadCalibration_eq (s : State) : loadCalibration s = match s.rst.loading with
    | some (b, c) => activate c true (s.setRst (s.rst.putState b .blockOpen))
    | none => activateDefault s := by
  unfold loadCalibration Rst.loading
  cases s.rst.calibrationBlock with
  | none => rfl
  | some b =>
    rw [Option.bind_some]
    dsimp only
    cases s.rst.flash.calibrationIn b <;> rfl

/-- The store after the load: the block that it takes is OPEN. -/
def Rst.afterLoad (r : Rst) : Rst := match r.loading with
  | some (b, _) => r.putState b .blockOpen
  | none => r

/-- The report of a load that takes the factory default (R172). -/
def loadReports : Option (Fin 16 × Calibration) → List Report
  | some _ => []
  | none => [.occurrence 0xE400#16 .calibration]

/-- What the calibration load makes of the state (R172). -/
structure CalibrationTaken (s t : State) : Prop where
  basis : t.basis = s.basis
  cal : t.cal = (s.rst.loading.map Prod.snd).getD Calibration.factory
  calLoaded : t.calLoaded = s.rst.loading.isSome
  rst : t.rst = s.rst.afterLoad
  senders : t.senders = s.senders
  flm : t.flm = { s.flm with held := (loadReports s.rst.loading).foldl hold s.flm.held }

theorem loadCalibration_takes (start : s.pwc.power = .start) (unreplayed : s.flm.replayDone = false) :
    CalibrationTaken s (loadCalibration s) := by
  rw [loadCalibration_eq]
  cases loading : s.rst.loading with
  | some x =>
    obtain ⟨outside, cal, taken⟩ := activate_loads (s := s.setRst (s.rst.putState x.1 .blockOpen)) start x.2 true
    have rst : s.rst.afterLoad = s.rst.putState x.1 .blockOpen := by rw [Rst.afterLoad, loading]
    dsimp only
    generalize activate x.2 true (s.setRst (s.rst.putState x.1 .blockOpen)) = t at outside cal taken ⊢
    exact ⟨(congrArg State.basis outside :), by rw [loading]; exact cal, by rw [loading]; exact taken,
      by rw [rst]; exact (congrArg State.rst outside :), (congrArg State.senders outside :),
      by rw [loading]; exact (congrArg State.flm outside :)⟩
  | none =>
    obtain ⟨outside, cal, taken⟩ := activate_loads start Calibration.factory false
    have rst : s.rst.afterLoad = s.rst := by rw [Rst.afterLoad, loading]
    unfold activateDefault
    generalize activate Calibration.factory false s = t at outside cal taken ⊢
    have flm : t.flm = s.flm := (congrArg State.flm outside :)
    rw [flmReport_held (by rw [flm]; exact unreplayed), flm]
    exact ⟨(congrArg State.basis outside :), by rw [loading]; exact cal, by rw [loading]; exact taken,
      by rw [rst]; exact (congrArg State.rst outside :), (congrArg State.senders outside :), by rw [loading]; rfl⟩

end

end Sys2Proof.Machine
end

section
/-! SUPPORT. The calibration block and what the load makes of the blocks (R164, R170, R172). -/

namespace Sys2Proof.Machine

open Sys2Proof.Claims

theorem calibrationBlocks : Area.calibration.blocks = [0, 1] := by decide

/-- The block that the load reads: B0, or B1 where B0 is BAD (R164, R172). -/
def LoadSource (f : Flash) (b : Fin 16) : Prop :=
  (b = 0 ∧ ¬f.programmed 0 63 = true) ∨ (b = 1 ∧ f.programmed 0 63 = true ∧ ¬f.programmed 1 63 = true)

section

variable {r : Rst}

/-- The blocks are as the scan found them. -/
def Rst.asScanned (r : Rst) : Prop := ∀ b, r.blocks[b] = r.flash.scanState b

theorem scan_asScanned (r : Rst) : r.scan.asScanned := scan_block r

theorem calibrationBlock_eq_some (h : r.asScanned) {b : Fin 16} :
    r.calibrationBlock = some b ↔ LoadSource r.flash b := by
  have state (b : Fin 16) : (r.blocks[b].state != .bad) = true ↔ ¬r.flash.programmed b 63 = true := by
    rw [h b, bne_iff_ne, ne_eq, scanState_bad_iff]
  unfold Rst.calibrationBlock LoadSource
  rw [calibrationBlocks, List.find?_cons, List.find?_cons, List.find?_nil]
  cases first : (r.blocks[(0 : Fin 16)].state != .bad) with
  | true =>
    have good := (state 0).mp first
    refine ⟨fun found => .inl ⟨(Option.some.inj found).symm, good⟩, fun source => ?_⟩
    rcases source with ⟨rfl, -⟩ | ⟨-, bad, -⟩
    · rfl
    · exact absurd bad good
  | false =>
    have bad : r.flash.programmed 0 63 = true := not_not.mp (mt (state 0).mpr (by rw [first]; exact nofun))
    cases second : (r.blocks[(1 : Fin 16)].state != .bad) with
    | true =>
      have good := (state 1).mp second
      refine ⟨fun found => .inr ⟨(Option.some.inj found).symm, bad, good⟩, fun source => ?_⟩
      rcases source with ⟨-, good⟩ | ⟨rfl, -⟩
      · exact absurd bad good
      · rfl
    | false =>
      have worse : r.flash.programmed 1 63 = true := not_not.mp (mt (state 1).mpr (by rw [second]; exact nofun))
      refine iff_of_false nofun fun source => ?_
      rcases source with ⟨-, good⟩ | ⟨-, -, good⟩
      · exact good bad
      · exact good worse

theorem LoadSource.calibration {f : Flash} {b : Fin 16} (h : LoadSource f b) : areaOf b = .calibration := by
  rcases h with ⟨rfl, -⟩ | ⟨rfl, -⟩ <;> decide

theorem LoadSource.good {f : Flash} {b : Fin 16} (h : LoadSource f b) : ¬f.programmed b 63 = true := by
  rcases h with ⟨rfl, good⟩ | ⟨rfl, -, good⟩ <;> exact good

/-- The load takes the calibration that its block holds (R172). -/
theorem loading_eq_some (h : r.asScanned) {b : Fin 16} {c : Calibration} :
    r.loading = some (b, c) ↔ LoadSource r.flash b ∧ ImageIn r.flash b c := by
  unfold Rst.loading
  simp only [Option.bind_eq_some_iff, Option.map_eq_some_iff, Prod.mk.injEq]
  constructor
  · rintro ⟨_, block, _, holds, rfl, rfl⟩
    have source := (calibrationBlock_eq_some h).mp block
    exact ⟨source, (calibrationIn_eq_some source.calibration).mp holds⟩
  · rintro ⟨source, image⟩
    exact ⟨b, (calibrationBlock_eq_some h).mpr source, c,
      (calibrationIn_eq_some source.calibration).mpr image, rfl, rfl⟩

theorem loading_eq_none (h : r.asScanned) : r.loading = none ↔ ∀ b c, LoadSource r.flash b → ¬ImageIn r.flash b c := by
  rw [Option.eq_none_iff_forall_not_mem]
  exact ⟨fun none b c source image => none (b, c) ((loading_eq_some h).mpr ⟨source, image⟩),
    fun none x taken => none x.1 x.2 ((loading_eq_some h).mp taken).1 ((loading_eq_some h).mp taken).2⟩

theorem putState_block (r : Rst) (b c : Fin 16) (st : BlockState) :
    (r.putState b st).blocks[c] = if c = b then { r.blocks[b] with state := st } else r.blocks[c] := by
  show (r.blocks.set b.val _)[c.val] = _
  rw [Vector.getElem_set]
  by_cases same : c = b
  · rw [if_pos same, if_pos (by rw [same])]
  · rw [if_neg same, if_neg fun h => same (Fin.ext h.symm)]
    rfl

/-- Every block stands as scanned after the load, but for the block that it takes OPEN (R172). -/
theorem afterLoad_standing (h : r.asScanned) (b : Fin 16) : Standing r.flash b r.afterLoad.blocks[b] := by
  unfold Rst.afterLoad
  cases loading : r.loading with
  | none => exact .inl (h b)
  | some x =>
    obtain ⟨source, image⟩ := (loading_eq_some h).mp loading
    have header := header_of_calibrationIn ((calibrationIn_eq_some source.calibration).mpr image)
    dsimp only
    rw [putState_block]
    split
    · next same =>
      rw [h x.1, same]
      exact .inr ⟨source.calibration, source.good, header, rfl⟩
    · exact .inl (h b)

theorem afterLoad_taken {b : Fin 16} {c : Calibration} (loading : r.loading = some (b, c)) :
    r.afterLoad.blocks[b].state = .blockOpen := by
  unfold Rst.afterLoad
  rw [loading]
  dsimp only
  rw [putState_block, if_pos rfl]

/-- Outside the calibration area the load leaves every block as scanned. -/
theorem afterLoad_other (h : r.asScanned) {b : Fin 16} (other : areaOf b ≠ .calibration) :
    r.afterLoad.blocks[b] = r.flash.scanState b := by
  rcases afterLoad_standing h b with same | ⟨calibration, -⟩
  · exact same
  · exact absurd calibration other

theorem afterLoad_none (loading : r.loading = none) : r.afterLoad = r := by
  unfold Rst.afterLoad
  rw [loading]

theorem afterLoad_rest (r : Rst) : r.afterLoad = { r with blocks := r.afterLoad.blocks } := by
  unfold Rst.afterLoad
  cases r.loading <;> rfl

end

end Sys2Proof.Machine
end

section
/-! SUPPORT. START from reset to the fault replay (R203): what the scan, the load, the first samples, the counter
restore and the initialisations leave together. -/

namespace Sys2Proof.Machine

open Sys2Proof.Claims

/-- What START relies on of the state after reset. -/
structure AtReset (s : State) : Prop where
  start : s.pwc.power = .start
  flm : s.flm = flmReset
  senders : ∀ n : Fin 8, s.senders[n] = senderReset
  readOnly : s.rst.readOnly = ⟨false, false, false⟩

theorem atReset_ramReset (pins : PinLevels) (held : Bool) (s : State) : AtReset (ramReset pins held s) where
  start := rfl
  flm := rfl
  senders _ := Vector.getElem_replicate _
  readOnly := rfl

/-- The store after the scan (R170). -/
def scannedStore (s : State) : Rst := { s.rst.scan with readOnly := scannedStates s.rst.scan }

theorem Rst.asScanned.close {r : Rst} (h : r.asScanned) (x : StoreStates) : Rst.asScanned { r with readOnly := x } := h

theorem scannedStore_asScanned (s : State) : (scannedStore s).asScanned := (scan_asScanned s.rst).close _

/-- The reports that START holds, in their order (R151). -/
def startReports (s : State) : List Report :=
  scanReports s.rst.scan ++ loadReports (scannedStore s).loading
    ++ restoreReports (newestOf s.rst.flash s.rst.flash.counters)

/-- What START has made of the state before the fault replay (R58, R131, R170 to R172). -/
structure Unreplayed (s : State) (raw : Conversions) (t : State) : Prop where
  basis : t.basis = s.basis
  cal : t.cal = ((scannedStore s).loading.map Prod.snd).getD Calibration.factory
  calLoaded : t.calLoaded = (scannedStore s).loading.isSome
  blocks : t.rst.blocks = (scannedStore s).afterLoad.blocks
  nextBlock : t.rst.nextBlockSeq = s.rst.flash.nextSequence
  readOnly : t.rst.readOnly = scannedStates s.rst.scan
  flm : t.flm = { flmReset with held := (startReports s).foldl hold [] }
  counts : t.restoredCounts = countsOf (newestOf s.rst.flash s.rst.flash.counters)
  used : ∀ n : Fin 8, t.cal.senderInUse n = true → t.senders[n].filtered = some raw[n] ∧ t.senders[n].outOfRange = false
    ∧ ∀ i, t.bindings i = (.sender, sourceOf n) → (t.source i).liveStatus = .valid
  unused : ∀ n : Fin 8, t.cal.senderInUse n = false → t.senders[n] = senderReset

section

variable {s : State}

/-- The scan in START (R170). -/
structure ScanTaken (s t : State) : Prop where
  basis : t.basis = s.basis
  start : t.pwc.power = .start
  rst : t.rst = scannedStore s
  flm : t.flm = { flmReset with held := (scanReports s.rst.scan).foldl hold [] }
  senders : t.senders = s.senders

theorem basis_scan (s : State) : (s.setRst s.rst.scan).basis = s.basis := by
  unfold Rst.scan
  generalize Vector.ofFn s.rst.flash.scanState = blocks
  generalize s.rst.flash.nextSequence = next
  rfl

theorem startScan_takes (h : AtReset s) : ScanTaken s (startScan s) := by
  have unreplayed : s.flm.replayDone = false := by rw [h.flm]; rfl
  obtain ⟨outside, closed, flm⟩ := scanAreas_scan (s := s.setRst s.rst.scan) unreplayed h.readOnly
  rw [← startScan_eq] at outside closed flm
  have basis := basis_scan s
  generalize hr : s.rst.scan = r at outside closed flm basis ⊢
  generalize startScan s = t at outside closed flm ⊢
  have rst : t.rst = { r with readOnly := t.rst.readOnly } :=
    (congrArg (fun u : State => { u.rst with readOnly := t.rst.readOnly }) outside :)
  refine ⟨(congrArg State.basis outside :).trans basis,
    (congrArg (fun u : State => u.pwc.power) outside :).trans h.start, ?_, ?_, (congrArg State.senders outside :)⟩
  · rw [rst, closed, scannedStore, hr]
    rfl
  · have same : (s.setRst r).flm = flmReset := h.flm
    rw [flm, same, hr]
    rfl

/-- The scan, the load and the first samples (R33, R170, R172). -/
structure Sampled (s : State) (raw : Conversions) (t : State) : Prop where
  basis : t.basis = s.basis
  start : t.pwc.power = .start
  cal : t.cal = ((scannedStore s).loading.map Prod.snd).getD Calibration.factory
  calLoaded : t.calLoaded = (scannedStore s).loading.isSome
  rst : t.rst = (scannedStore s).afterLoad
  flm : t.flm = { flmReset with
    held := (scanReports s.rst.scan ++ loadReports (scannedStore s).loading).foldl hold [] }
  first : ∀ n : Fin 8, FirstSampled t n raw[n] t

theorem FirstSampled.congr {n : Fin 8} {raw : BitVec 12} {s' u : State} (h : FirstSampled s n raw u)
    (cal : s'.cal = s.cal) (bindings : s'.bindings = s.bindings) : FirstSampled s' n raw u where
  used := by
    rw [cal, bindings]
    exact h.used
  unused := by
    rw [cal]
    exact h.unused

theorem start_sampled (h : AtReset s) (raw : Conversions) :
    Sampled s raw (sampleSenders raw (loadCalibration (startScan s))) := by
  obtain ⟨basis₁, start₁, rst₁, flm₁, senders₁⟩ := startScan_takes h
  generalize startScan s = u at basis₁ start₁ rst₁ flm₁ senders₁ ⊢
  obtain ⟨basis₂, cal, calLoaded, rst₂, senders₂, flm₂⟩ := loadCalibration_takes start₁ (by rw [flm₁]; rfl)
  rw [rst₁] at cal calLoaded rst₂ flm₂
  have power : (loadCalibration u).pwc.power = .start :=
    (congrArg (fun u : State => u.pwc.power) basis₂ :).trans start₁
  generalize loadCalibration u = v at basis₂ cal calLoaded rst₂ senders₂ flm₂ power ⊢
  obtain ⟨sampling, first⟩ := sampleSenders_first power (fun n => by rw [senders₂, senders₁]; exact h.senders n) raw
  generalize sampleSenders raw v = t at sampling first ⊢
  have frame := sampling.frame
  refine ⟨((congrArg State.basis frame :).trans basis₂).trans basis₁, sampling.start power, sampling.cal.trans cal,
    (congrArg State.calLoaded frame :).trans calLoaded, (congrArg State.rst frame :).trans rst₂, ?_,
    fun n => (first n).congr sampling.cal sampling.bindings⟩
  have flm : t.flm = v.flm := (congrArg State.flm frame :)
  rw [flm, flm₂, flm₁, List.foldl_append]

/-- The initialisations, of channels and then of doors (R58, R131). -/
theorem inits_starting (start : s.pwc.power = .start) :
    let t := drsInit (ccuInit s)
    t.outsideInit = s.outsideInit ∧ t.roles = (s.cal, ⟨s.ccu.odometer.count, 0⟩, ⟨s.ccu.hours.count, 0⟩)
      ∧ t.doorCycles = s.doorCycles ∧ t.bindings = s.bindings
      ∧ ∀ i, (s.bindings i).1 = .sender → t.source i = s.source i := by
  obtain ⟨outside₁, roles₁, drs⟩ := ccuInit_starting start
  obtain ⟨bindings₁, slots₁⟩ := ccuInit_slots (s := s)
  have power : (ccuInit s).pwc.power = .start := (congrArg (fun u : State => u.pwc.power) outside₁ :).trans start
  generalize ccuInit s = u at outside₁ roles₁ drs bindings₁ slots₁ power ⊢
  obtain ⟨outside₂, roles₂, cycles⟩ := drsInit_starting power
  obtain ⟨bindings₂, slots₂⟩ := drsInit_slots (s := u)
  refine ⟨outside₂.trans outside₁, roles₂.trans roles₁, cycles.trans (doorCycles_of_drs drs),
    bindings₂.trans bindings₁, fun i sender => ?_⟩
  rw [slots₂ i (by rw [bindings₁, sender]; exact nofun), slots₁ i (by rw [sender]; exact nofun)]

/-- The counts of the restore stand through the initialisations, which start their increments at 0 (R58, R131). -/
theorem restoredCounts_of_init {t : State} {x : Option FoundCounter} (counts : s.restoredCounts = countsOf x)
    (outside : t.outsideInit = s.outsideInit)
    (roles : t.roles = (s.cal, ⟨s.ccu.odometer.count, 0⟩, ⟨s.ccu.hours.count, 0⟩))
    (cycles : t.doorCycles = s.doorCycles) :
    t.restoredCounts = countsOf x := by
  have odometer : s.ccu.odometer = (countsOf x).odometer := congrArg RestoredCounts.odometer counts
  have hours : s.ccu.hours = (countsOf x).hours := congrArg RestoredCounts.hours counts
  have roles_odometer : t.ccu.odometer = ⟨s.ccu.odometer.count, 0⟩ := congrArg (fun v => v.2.1) roles
  have roles_hours : t.ccu.hours = ⟨s.ccu.hours.count, 0⟩ := congrArg (fun v => v.2.2) roles
  have ignition : t.pwc.ignitionCycles = s.pwc.ignitionCycles :=
    (congrArg (fun u : State => u.pwc.ignitionCycles) outside :)
  have rst : t.rst = s.rst := (congrArg State.rst outside :)
  rw [← counts]
  unfold State.restoredCounts
  rw [roles_odometer, roles_hours, cycles, ignition, rst, odometer, hours]
  cases x <;> rfl

/-- START up to the fault replay (R203). -/
theorem start_unreplayed (h : AtReset s) (raw : Conversions) : Unreplayed s raw
    (drsInit (ccuInit (restoreCounters (sampleSenders raw (loadCalibration (startScan s)))))) := by
  obtain ⟨basis₁, start₁, cal₁, loaded₁, rst₁, flm₁, first⟩ := start_sampled h raw
  generalize sampleSenders raw (loadCalibration (startScan s)) = u at basis₁ start₁ cal₁ loaded₁ rst₁ flm₁ first ⊢
  obtain ⟨outside₂, counts₂, flm₂⟩ := restoreCounters_restores (s := u) (by rw [flm₁]; rfl)
  have flash : u.rst.flash = s.rst.flash := (congrArg (fun u : State => u.rst.flash) basis₁ :)
  rw [flash] at counts₂ flm₂
  have start₂ : (restoreCounters u).pwc.power = .start :=
    (congrArg (fun u : State => u.pwc.power) outside₂ :).trans start₁
  generalize restoreCounters u = v at outside₂ counts₂ flm₂ start₂ ⊢
  obtain ⟨outside₃, roles, cycles, bindings₃, slots₃⟩ := inits_starting start₂
  generalize drsInit (ccuInit v) = t at outside₃ roles cycles bindings₃ slots₃ ⊢
  have source : v.source = u.source := State.source_of_slots (congrArg State.slots outside₂ :)
  have bindings : t.bindings = u.bindings := bindings₃.trans (by unfold State.bindings; rw [source])
  have cal : t.cal = u.cal := (congrArg State.cal outside₃ :).trans (congrArg State.cal outside₂ :)
  have senders : t.senders = u.senders := (congrArg State.senders outside₃ :).trans (congrArg State.senders outside₂ :)
  have store : t.rst = v.rst := (congrArg State.rst outside₃ :)
  have blocks : v.rst.blocks = u.rst.blocks := (congrArg (fun u : State => u.rst.blocks) outside₂ :)
  have next : v.rst.nextBlockSeq = u.rst.nextBlockSeq := (congrArg (fun u : State => u.rst.nextBlockSeq) outside₂ :)
  have closed : v.rst.readOnly = u.rst.readOnly := (congrArg (fun u : State => u.rst.readOnly) outside₂ :)
  refine ⟨((congrArg State.basis outside₃ :).trans (congrArg State.basis outside₂ :)).trans basis₁, cal.trans cal₁,
    ((congrArg State.calLoaded outside₃ :).trans (congrArg State.calLoaded outside₂ :)).trans loaded₁, ?_, ?_, ?_, ?_,
    restoredCounts_of_init counts₂ outside₃ roles cycles, fun n used => ?_, fun n unused => ?_⟩
  · rw [store, blocks, rst₁]
  · rw [store, next, rst₁, afterLoad_rest]
    rfl
  · rw [store, closed, rst₁, afterLoad_rest]
    rfl
  · have flm : t.flm = v.flm := (congrArg State.flm outside₃ :)
    rw [flm, flm₂, flm₁, startReports, List.foldl_append (l := _ ++ _)]
  · rw [cal] at used
    obtain ⟨filtered, inRange, valid⟩ := (first n).used used
    rw [senders, bindings]
    refine ⟨filtered, inRange, fun i bound => ?_⟩
    rw [slots₃ i, source]
    · exact valid i bound
    · rw [← bindings₃, bindings, bound]
  · rw [cal] at unused
    rw [senders]
    exact (first n).unused unused

end

end Sys2Proof.Machine
end

section
/-! SUPPORT. The fault replay (R150, R151, R173): the records that it takes, and the reports of START applied after
it. -/

namespace Sys2Proof.Machine

open Sys2Proof.Claims

/-! ## The records of a block in slot order -/

/-- The record slots below a write point, in slot order. -/
theorem recordSlots_below {n : Nat} (low : 1 ≤ n) (high : n ≤ 63) :
    (List.range n).drop 1 = (recordSlots.filter fun k => decide (k.val < n)).map Fin.val := by
  have rising : (recordSlots.filter fun k : Fin 64 => decide (k.val < n)).Pairwise (· < ·) :=
    ((List.pairwise_lt_finRange 64).filter _).filter _
  refine List.Pairwise.eq_of_mem_iff (r := (· < ·)) ((List.pairwise_lt_range).sublist (List.drop_sublist 1 _))
    (List.pairwise_map.mpr rising) fun k => ?_
  have mem_drop : k ∈ (List.range n).drop 1 ↔ 1 ≤ k ∧ k < n := by
    rw [List.range_eq_range', List.drop_range', List.mem_range'_1]
    omega
  simp only [mem_drop, List.mem_map, List.mem_filter, mem_recordSlots, decide_eq_true_eq]
  constructor
  · rintro ⟨first, below⟩
    exact ⟨⟨k, by omega⟩, ⟨⟨first, by dsimp only; omega⟩, below⟩, rfl⟩
  · rintro ⟨j, ⟨⟨first, -⟩, below⟩, rfl⟩
    exact ⟨first, below⟩

/-- A record of no fault kind has no effect on the replay (R173). -/
theorem replayRecord_other {c : List Byte} (entry : byteAt c 0 ≠ 2#8) (remove : byteAt c 0 ≠ 3#8)
    (l : List FaultEntry) : replayRecord l c = l := by
  unfold replayRecord
  rw [if_neg entry, if_neg remove]

/-- The replay of records is that of everything that passes its check (R173). -/
theorem replay_slots (f : Flash) (b : Fin 16) (ks : List (Fin 64)) (l : List FaultEntry) :
    (ks.filterMap (f.record b)).foldl replayRecord l
      = (ks.filterMap fun k => recordAt f b k.val).foldl replayRecord l := by
  induction ks generalizing l with
  | nil => rfl
  | cons k ks ih =>
    rw [List.filterMap_cons, List.filterMap_cons]
    cases found : f.record b k with
    | some c =>
      rw [(record_eq_some.mp found).1]
      exact ih _
    | none =>
      cases good : recordAt f b k.val with
      | none => exact ih l
      | some c =>
        have other (x : Byte) (low : 1 ≤ x.toNat) (high : x.toNat ≤ 5) : byteAt c 0 ≠ x := by
          rintro rfl
          rw [record_eq_some.mpr ⟨good, low, high⟩] at found
          cases found
        dsimp only
        rw [List.foldl_cons, replayRecord_other (other 2#8 (by decide) (by decide)) (other 3#8 (by decide) (by decide))]
        exact ih l

theorem replay_records (f : Flash) (b : Fin 16) {n : Nat} (low : 1 ≤ n) (high : n ≤ 63) (l : List FaultEntry) :
    ((recordSlots.filter fun k => decide (k.val < n)).filterMap (f.record b)).foldl replayRecord l
      = (((List.range n).drop 1).filterMap (recordAt f b)).foldl replayRecord l := by
  rw [recordSlots_below low high, List.filterMap_map]
  exact replay_slots f b _ l

/-! ## The reports held (R151) -/

/-- The member of a report held once. -/
def heldOf (r : Report) : HeldReport := HeldReport.add ⟨r.code, none, 0, false⟩ r

theorem heldOf_code (r : Report) : (heldOf r).code = r.code := by
  cases r <;> rfl

/-- Reports of different codes are held one after another. -/
theorem hold_distinct {rs : List Report} {table : List HeldReport} (distinct : rs.Pairwise fun r x => r.code ≠ x.code)
    (new : ∀ r ∈ rs, ∀ m ∈ table, m.code ≠ r.code) : rs.foldl hold table = table ++ rs.map heldOf := by
  induction rs generalizing table with
  | nil => simp
  | cons r rs ih =>
    obtain ⟨apart, rest⟩ := List.pairwise_cons.mp distinct
    have absent : (table.any fun m => m.code == r.code) = false := by
      rw [List.any_eq_false]
      exact fun m hm same => new r List.mem_cons_self m hm (eq_of_beq same)
    rw [List.foldl_cons, hold, absent, if_neg Bool.false_ne_true, ih rest, List.append_assoc]
    · rfl
    · intro x hx m hm
      rcases List.mem_append.mp hm with hm | hm
      · exact new x (List.mem_cons_of_mem _ hx) m hm
      · rw [List.mem_singleton.mp hm]
        show (heldOf r).code ≠ x.code
        rw [heldOf_code]
        exact apart x hx

/-- An entry is what a member held leaves of an occurrence that is STORED at once (R142, R151). -/
def StoredFrom (m : HeldReport) (e : FaultEntry) : Prop :=
  e.code = m.code ∧ some e.source = m.source ∧ e.active = false

theorem onCode_other {code : BitVec 16} {l : List FaultEntry} (absent : ∀ e ∈ l, e.code ≠ code)
    (f : FaultEntry → FaultEntry) : onCode code f l = l := by
  have same : ∀ e ∈ l, (if e.code = code then f e else e) = id e := fun e he => if_neg (absent e he)
  rw [onCode, List.map_congr_left same, List.map_id]

/-- A member of a new code that finds a place is one more entry, STORED (R139, R142, R151). -/
theorem applyHeld_new {f : Flm} {m : HeldReport} {source : FaultSource} (from' : m.source = some source)
    (atOnce : storedAtOnce m.code = true) (absent : ∀ e ∈ f.list, e.code ≠ m.code) (room : f.list.length < 32)
    (st : FaultStamp) : ∃ e, StoredFrom m e ∧ (f.applyHeld m st).changed = true
      ∧ (f.applyHeld m st).list = f.list ++ [e] := by
  have none : f.holds m.code = false := by
    rw [Bool.eq_false_iff]
    intro holds
    obtain ⟨e, he, same⟩ := List.mem_map.mp (holds_iff.mp holds)
    exact absent e he same
  refine ⟨(newEntry m.code source m.number st).stored, ⟨rfl, from'.symm, rfl⟩, ?_⟩
  unfold Flm.applyHeld Flm.occurrence
  rw [from', none]
  dsimp only
  rw [if_neg Bool.false_ne_true, if_pos room, atOnce, Bool.or_true, if_pos rfl, FaultChange.store]
  refine ⟨rfl, ?_⟩
  have new : onCode m.code FaultEntry.stored [newEntry m.code source m.number st]
      = [(newEntry m.code source m.number st).stored] := by
    simp [onCode, newEntry]
  rw [onCode, List.map_append]
  exact congrArg₂ (· ++ ·) (onCode_other absent _) new

/-- The event of one member held. -/
def heldEvent (t : State) (m : HeldReport) : State := flmEvent (t.flm.applyHeld m t.faultStamp) t

theorem flmApplyHeld_eq (s : State) :
    flmApplyHeld s = s.flm.held.foldl heldEvent (s.setFlm { s.flm with held := [] }) := rfl

/-- Members of different new codes that all find a place are as many entries more, STORED (R142, R151). -/
theorem heldEvents_list {ms : List HeldReport} {t : State} (distinct : ms.Pairwise fun m x => m.code ≠ x.code)
    (given : ∀ m ∈ ms, (∃ source, m.source = some source) ∧ storedAtOnce m.code = true)
    (absent : ∀ m ∈ ms, ∀ e ∈ t.flm.list, e.code ≠ m.code) (room : t.flm.list.length + ms.length ≤ 32) :
    ∃ es, (ms.foldl heldEvent t).flm.list = t.flm.list ++ es ∧ List.Forall₂ StoredFrom ms es := by
  induction ms generalizing t with
  | nil => exact ⟨[], by simp, .nil⟩
  | cons m ms ih =>
    obtain ⟨apart, rest⟩ := List.pairwise_cons.mp distinct
    obtain ⟨⟨source, from'⟩, atOnce⟩ := given m List.mem_cons_self
    rw [List.length_cons] at room
    obtain ⟨e, stored, changed, list⟩ :=
      applyHeld_new from' atOnce (absent m List.mem_cons_self) (by omega) t.faultStamp
    have after : (heldEvent t m).flm.list = t.flm.list ++ [e] := by
      rw [heldEvent, flmEvent_list, if_pos changed, list]
    have still : ∀ x ∈ ms, ∀ y ∈ (heldEvent t m).flm.list, y.code ≠ x.code := by
      intro x hx y hy
      rw [after] at hy
      rcases List.mem_append.mp hy with hy | hy
      · exact absent x (List.mem_cons_of_mem _ hx) y hy
      · rw [List.mem_singleton.mp hy, stored.1]
        exact apart x hx
    obtain ⟨es, final, entries⟩ := ih rest (fun x hx => given x (List.mem_cons_of_mem _ hx)) still
      (by rw [after, List.length_append, List.length_singleton]; omega)
    refine ⟨e :: es, ?_, .cons stored entries⟩
    rw [List.foldl_cons, final, after, List.append_assoc, List.singleton_append]

theorem heldEvents_outside (ms : List HeldReport) (t : State) :
    (ms.foldl heldEvent t).outsideFaults = t.outsideFaults :=
  foldl_keeps State.outsideFaults (fun _ _ u => flmEvent_outside _ u) t

theorem flmEvent_replayDone (c : FaultChange) (s : State) : (flmEvent c s).flm.replayDone = s.flm.replayDone := by
  unfold flmEvent
  split
  · dsimp only
    rw [requests_flm]
    rfl
  · rfl

theorem heldEvents_replayDone (ms : List HeldReport) (t : State) :
    (ms.foldl heldEvent t).flm.replayDone = t.flm.replayDone :=
  foldl_keeps (fun u : State => u.flm.replayDone) (fun _ _ u => flmEvent_replayDone _ u) t

end Sys2Proof.Machine
end

section
/-! SUPPORT. The Fault List after the fault replay (R150, R151, R173). -/

namespace Sys2Proof.Machine

open Sys2Proof.Claims

/-! ## The reports of START -/

/-- Every report that START can make, in their order (R167, R170 to R172). -/
def allStartReports : List Report := [.occurrence 0xE300#16 .store, .occurrence 0xE301#16 .store,
  .occurrence 0xE302#16 .store, .occurrence 0xE400#16 .calibration, .occurrence 0xE310#16 .store]

theorem areaReports_sublist (r : Rst) (a : Area) :
    (areaReports r a).Sublist [.occurrence (storeCode a) .store] := by
  unfold areaReports
  split
  · exact List.Sublist.refl _
  · exact List.nil_sublist _

theorem loadReports_sublist (x : Option (Fin 16 × Calibration)) :
    (loadReports x).Sublist [.occurrence 0xE400#16 .calibration] := by
  cases x
  · exact List.Sublist.refl _
  · exact List.nil_sublist _

theorem restoreReports_sublist (x : Option FoundCounter) :
    (restoreReports x).Sublist [.occurrence 0xE310#16 .store] := by
  cases x
  · exact List.Sublist.refl _
  · exact List.nil_sublist _

theorem startReports_sublist (s : State) : (startReports s).Sublist allStartReports :=
  ((((areaReports_sublist _ .calibration).append (areaReports_sublist _ .counters)).append
    (areaReports_sublist _ .faults)).append (loadReports_sublist _)).append (restoreReports_sublist _)

theorem allStartReports_distinct : allStartReports.Pairwise fun r x => r.code ≠ x.code := by decide

theorem allStartReports_stored :
    ∀ r ∈ allStartReports, storedAtOnce r.code = true ∧ ((heldOf r).source).isSome = true := by decide

/-- What START holds: its reports, once each. -/
theorem startReports_held (s : State) : (startReports s).foldl hold [] = (startReports s).map heldOf := by
  have apart := allStartReports_distinct.sublist (startReports_sublist s)
  generalize startReports s = rs at apart ⊢
  exact (hold_distinct apart fun _ _ _ hm => absurd hm List.not_mem_nil).trans (List.nil_append _)

/-! ## The list after the replay -/

/-- The Fault Memory as the replay leaves it, before the reports held (R150). -/
def replayedFlm (l : List FaultEntry) : Flm := ⟨l.map FaultEntry.stored, 0, false, [], true⟩

theorem replayFaults_eq (u : State) :
    replayFaults u = u.flm.held.foldl heldEvent (u.setFlm (replayedFlm u.rst.replayList)) := by
  unfold replayFaults
  rw [flmApplyHeld_eq]
  rfl

/-- What the replay makes of a state of START (R173). -/
structure Replayed (s u t : State) : Prop where
  outside : t.outsideFaults = u.outsideFaults
  done : t.flm.replayDone = true
  silent : startReports s = [] → t.flm = replayedFlm u.rst.replayList
  stored : u.rst.replayList = [] → ∀ code source, Report.occurrence code source ∈ startReports s →
    ∃ e ∈ t.flm.list, e.code = code ∧ e.source = source ∧ e.active = false

theorem exists_of_forall₂ {α β : Type} {R : α → β → Prop} {l : List α} {k : List β} (h : List.Forall₂ R l k) {a : α}
    (ha : a ∈ l) : ∃ b ∈ k, R a b := by
  induction h with
  | nil => cases ha
  | @cons x y l k first _ ih =>
    rcases List.mem_cons.mp ha with rfl | ha
    · exact ⟨y, List.mem_cons_self, first⟩
    · obtain ⟨b, hb, related⟩ := ih ha
      exact ⟨b, List.mem_cons_of_mem _ hb, related⟩

theorem replayFaults_replays {s u : State} {raw : Conversions} (h : Unreplayed s raw u) :
    Replayed s u (replayFaults u) := by
  have held : u.flm.held = (startReports s).map heldOf := by
    have flm := h.flm
    have reports := startReports_held s
    generalize (startReports s).foldl hold [] = members at flm reports
    rw [flm]
    exact reports
  rw [replayFaults_eq]
  refine ⟨heldEvents_outside _ _, heldEvents_replayDone _ _, fun none => ?_, fun empty code source member => ?_⟩
  · rw [held, none, List.map_nil, List.foldl_nil]
    rfl
  · have sublist := startReports_sublist s
    have distinct : u.flm.held.Pairwise fun m x => m.code ≠ x.code := by
      rw [held, List.pairwise_map]
      simp only [heldOf_code]
      exact allStartReports_distinct.sublist sublist
    have given : ∀ m ∈ u.flm.held, (∃ source, m.source = some source) ∧ storedAtOnce m.code = true := by
      intro m hm
      rw [held] at hm
      obtain ⟨r, hr, rfl⟩ := List.mem_map.mp hm
      obtain ⟨atOnce, given⟩ := allStartReports_stored r (sublist.subset hr)
      rw [heldOf_code]
      exact ⟨Option.isSome_iff_exists.mp given, atOnce⟩
    have few : u.flm.held.length ≤ 5 := by
      rw [held, List.length_map]
      exact sublist.length_le
    obtain ⟨es, list, entries⟩ := heldEvents_list (t := u.setFlm (replayedFlm u.rst.replayList)) distinct given
      (by rw [empty]; exact fun _ _ _ he => absurd he List.not_mem_nil)
      (by rw [empty]; exact (Nat.zero_add _).trans_le (few.trans (by omega)))
    rw [list]
    have reported : heldOf (.occurrence code source) ∈ u.flm.held := by
      rw [held]
      exact List.mem_map_of_mem member
    obtain ⟨e, he, same, from', stored⟩ := exists_of_forall₂ entries reported
    exact ⟨e, List.mem_append_right _ he, same, Option.some.inj from', stored⟩

/-! ## The records that the replay takes -/

section

variable {r : Rst}

/-- At most one block of an area is OPEN after the scan. -/
theorem openBlock_of_open {f : Flash} {a : Area}
    (scanned : ∀ b, areaOf b = a → r.blocks[b] = f.scanState b) {b : Fin 16} (area : areaOf b = a)
    (opens : r.blocks[b].state = .blockOpen) : r.openBlock a = some b := by
  have chosen {c : Fin 16} (area : areaOf c = a) (opens : r.blocks[c].state = .blockOpen) : f.scanOpen a = some c := by
    rw [scanned c area, scanState_eq] at opens
    split at opens
    · next open' =>
      rw [← area]
      exact open'.2
    · unfold Flash.scanned at opens
      split at opens
      · cases opens
      · split at opens <;> cases opens
  unfold Rst.openBlock
  cases found : a.blocks.find? fun b => r.blocks[b].state == .blockOpen with
  | none =>
    have closed := List.find?_eq_none.mp found b (mem_areaBlocks.mpr area)
    exact absurd (beq_iff_eq.mpr opens) closed
  | some c =>
    have hc := mem_areaBlocks.mp (List.mem_of_find?_eq_some found)
    have also := List.find?_some found
    rw [← chosen hc (eq_of_beq also), chosen area opens]

theorem openBlock_eq_none {a : Area} (closed : ∀ b, areaOf b = a → r.blocks[b].state ≠ .blockOpen) :
    r.openBlock a = none :=
  List.find?_eq_none.mpr fun b hb open' => closed b (mem_areaBlocks.mp hb) (eq_of_beq open')

theorem areaOf_eq_faults {b : Fin 16} : areaOf b = .faults ↔ 6 ≤ b.val := by
  unfold areaOf
  split
  · exact ⟨nofun, by omega⟩
  · split
    · exact ⟨nofun, by omega⟩
    · exact ⟨by omega, fun _ => rfl⟩

theorem replayList_none (closed : ∀ b : Fin 16, 6 ≤ b.val → r.blocks[b].state ≠ .blockOpen) : r.replayList = [] := by
  unfold Rst.replayList
  rw [openBlock_eq_none fun b area => closed b (areaOf_eq_faults.mp area)]

/-- The replay takes the records of the OPEN block below its write point (R173). -/
theorem replayList_open {f : Flash} (flash : r.flash = f)
    (scanned : ∀ b, areaOf b = .faults → r.blocks[b] = f.scanState b) {b : Fin 16} (fault : 6 ≤ b.val)
    (opens : r.blocks[b].state = .blockOpen) : r.replayList
      = let l := (((List.range r.blocks[b].writePoint).drop 1).filterMap (recordAt f b)).foldl replayRecord []
        trimReplay l.length l := by
  have area := areaOf_eq_faults.mpr fault
  have standing : Standing f b r.blocks[b] := .inl (scanned b area)
  have good : ¬f.programmed b 63 = true := fun bad => by
    rw [standing.bad bad] at opens
    cases opens
  have written : f.blank b = false := Bool.eq_false_iff.mpr fun blank => by
    rw [standing.blank good blank] at opens
    cases opens
  obtain ⟨low, high, -⟩ := writePoint_bounds (f := f) (b := b)
  obtain ⟨-, point, -⟩ := standing.written good written
  unfold Rst.replayList
  rw [openBlock_of_open scanned area opens, flash]
  dsimp only
  rw [point, replay_records f b low high]

end

end Sys2Proof.Machine
end

section
/-! SUPPORT. The exit from START (R58, R131, R203): what its handings keep of the state. -/

namespace Sys2Proof.Machine

open Sys2Proof.Claims

/-- The state as START is left, before its handings (R203). -/
def exitEntered (s : State) : State := if s.pwc.ignition then powerTo .run s else toAfterrun s

/-- What the exit from START hands (R203). -/
def exitHandings (ignition : Bool) : List Delivery :=
  if ignition then [opuPower .run, tableEvent, ccuStart, drsStart] else [opuPower .afterrun, ccuStart, drsStart]

/-- The state after the handings of the exit from START. -/
def exitDelivered (s : State) : State := deliverAll (exitHandings s.pwc.ignition) (exitEntered s)

theorem startExit_eq (s : State) : startExit s = handStoreIdle (exitDelivered s) := by
  unfold startExit exitDelivered exitHandings exitEntered
  cases s.pwc.ignition <;> rfl

/-- A property that the handings of the exit from START keep. -/
structure ExitClosed (P : State → Prop) : Prop where
  drawn : ∀ s, P s → P s.drawn
  power : ∀ p s, P s → P (opuPower p s)
  table : ∀ s, P s → P (tableEvent s)
  channels : ∀ s, P s → P (ccuStart s)
  doors : ∀ s, P s → P (drsStart s)

theorem ExitClosed.delivered {P : State → Prop} (h : ExitClosed P) {s : State} (hs : P (exitEntered s)) :
    P (exitDelivered s) := by
  refine deliverAll_induct h.drawn (fun e he u hu => ?_) hs
  have member : (∃ p, e = opuPower p) ∨ e = tableEvent ∨ e = ccuStart ∨ e = drsStart := by
    unfold exitHandings at he
    split at he <;> simp only [List.mem_cons, List.not_mem_nil, or_false] at he
    · rcases he with rfl | rfl | rfl | rfl
      · exact .inl ⟨_, rfl⟩
      · exact .inr (.inl rfl)
      · exact .inr (.inr (.inl rfl))
      · exact .inr (.inr (.inr rfl))
    · rcases he with rfl | rfl | rfl
      · exact .inl ⟨_, rfl⟩
      · exact .inr (.inr (.inl rfl))
      · exact .inr (.inr (.inr rfl))
  rcases member with ⟨p, rfl⟩ | rfl | rfl | rfl
  · exact h.power p u hu
  · exact h.table u hu
  · exact h.channels u hu
  · exact h.doors u hu

/-- The doors' part of the exit keeps what their events keep (R131). -/
theorem DoorsClosed.start {P : State → Prop} (h : DoorsClosed P) {s : State} (hs : P s) : P (drsStart s) := by
  refine deliverAll_induct h.drawn (fun e he t ht => ?_) hs
  obtain ⟨d, -, rfl⟩ := List.mem_map.mp he
  refine h.event (fun e he t ht => ?_) ht
  rw [List.mem_singleton.mp he]
  exact h.ramp _ _ t ht

/-! ## What lies outside the deliveries, role counts and cycles -/

theorem exit_outside (v : State) : ExitClosed fun t => t.outsideDeliveries = v where
  drawn _ h := h
  power p s h := (outsideDeliveries_of_doors (outsideDoors_of (opuPower_outsideSignals p s))).trans h
  table s h := (outsideDeliveries_of_doors (outsideDoors_of (tableEvent_outsideSignals s))).trans h
  channels _ h := (deliveries_closed_channels v).start h
  doors _ h := (deliveries_closed_doors v).start h

theorem exit_roles (v : Calibration × RoleCount × RoleCount) : ExitClosed fun t => t.roles = v where
  drawn _ h := h
  power p s h := (roles_of_outside (opuPower_outsideSignals p s)).trans h
  table s h := (roles_of_outside (tableEvent_outsideSignals s)).trans h
  channels _ h := h
  doors s h := (roles_of_outsideDoors ((doors_closed s.outsideDoors).start rfl)).trans h

theorem drsStart_cycles (s : State) : (drsStart s).doorCycles = s.doorCycles := by
  refine deliverAll_keeps State.doorCycles (fun _ => rfl) (fun e he u => ?_) s
  obtain ⟨d, -, rfl⟩ := List.mem_map.mp he
  refine doorEvent_cycles (fun e he t => ?_) u ?_
  · rw [List.mem_singleton.mp he]
    rfl
  · show (rederived u d).cycles = _
    rw [rederived_eq, rederivedFrom_cycles]

theorem exit_cycles (v : Fin 4 → Count) : ExitClosed fun t => t.doorCycles = v where
  drawn _ h := h
  power p s h := (doorCycles_of_drs (drs_of_outside (opuPower_outsideSignals p s))).trans h
  table s h := (doorCycles_of_drs (drs_of_outside (tableEvent_outsideSignals s))).trans h
  channels _ h := h
  doors s h := (drsStart_cycles s).trans h

/-! ## Service mode -/

theorem svcSample_unsubscribed {s : State} (off : s.svc = svcReset) (i : Fin 96) (v : Value) (st : Status) :
    svcSample i v st s = s := by
  unfold svcSample
  rw [if_neg]
  rw [off]
  exact List.not_mem_nil

theorem svcReset_closed : UpdateClosed fun t => t.svc = svcReset where
  drawn _ h := h
  notice _ _ h := h
  liveChange i x st s h := (svc_of_outsideWarnings (opuLiveChange_outside i x st s)).trans h
  evaluate r s h := (svc_of_outsideWarnings (wreEvaluate_outside r s)).trans h
  sample i x st s h := by
    rw [svcSample_unsubscribed h]
    exact h
  endTest _ h := h
  unslot _ _ h := h
  endService _ _ := rfl
  release i s h := (svc_of_outsideWarnings (wreRelease_outside i s)).trans h
  setSlot _ _ _ _ h := h

theorem flmReports_svc (rs : List Report) (s : State) : (flmReports rs s).svc = s.svc :=
  svc_of_outsideWarnings (outsideWarnings_of (flmReports_outside rs s))

theorem svcReset_doors : DoorsClosed fun t => t.svc = svcReset where
  drawn _ h := h
  notice _ h := h
  drs _ _ h := h
  activity s h := (pwcActivity_same s).2.1.trans h
  doorUpdate _ _ _ h := svcReset_closed.source h
  stopReq _ h := svcReset_closed.source h
  doorState _ _ _ h := h
  ramp _ _ _ h := h
  latch _ h := h
  reports rs s h := (flmReports_svc rs s).trans h

theorem exit_svc : ExitClosed fun t => t.svc = svcReset where
  drawn _ h := h
  power _ _ h := h
  table s h := (svc_of_outsideWarnings (tableEvent_outside s)).trans h
  channels _ h := h
  doors _ h := svcReset_doors.start h

/-! ## The slots of the senders -/

theorem bindings_doors (b : Fin 96 → SourceKind × Option (Fin 32)) : DoorsClosed fun t => t.bindings = b where
  drawn _ h := h
  notice _ h := h
  drs _ _ h := h
  activity s h := (pwcActivity_bindings s).trans h
  doorUpdate _ _ s h := (sourceUpdate_bindings _ _ _ _ s).trans h
  stopReq s h := (sourceUpdate_bindings _ _ _ _ s).trans h
  doorState _ _ _ h := h
  ramp _ _ _ h := h
  latch _ h := h
  reports rs s h := (bindings_of_slots (flmReports_slots rs s)).trans h

theorem exit_bindings (b : Fin 96 → SourceKind × Option (Fin 32)) : ExitClosed fun t => t.bindings = b where
  drawn _ h := h
  power _ _ h := h
  table s h := (bindings_of_slots (tableEvent_slots s)).trans h
  channels _ h := h
  doors _ h := (bindings_doors b).start h

/-- The exit from START leaves a slot that is bound neither to a door nor to the latch. -/
theorem exit_source {b : State} {i : Fin 96} (door : ∀ d, b.bindings i ≠ (.door, doorSource d))
    (latch : b.bindings i ≠ (.stopReq, none)) :
    ExitClosed fun t => t.bindings = b.bindings ∧ t.source i = b.source i where
  drawn _ h := h
  power _ _ h := h
  table s h := ⟨(bindings_of_slots (tableEvent_slots s)).trans h.1, (congrFun (tableEvent_source s) i).trans h.2⟩
  channels _ h := h
  doors _ h := (doorSlots_closed door latch).start h

/-! ## Fault Memory -/

theorem flmReport_replayDone {s : State} (done : s.flm.replayDone = true) (r : Report) :
    (flmReport r s).flm.replayDone = true := by
  unfold flmReport
  rw [if_pos done, flmEvent_replayDone]
  exact done

theorem wreEvent_replayDone {s : State} (done : s.flm.replayDone = true) (f : WreEvent → WreEvent) :
    (wreEvent f s).flm.replayDone = true :=
  wreFinish_keeps (P := fun t => t.flm.replayDone = true) (fun _ h => h) (fun _ _ h => h) (fun _ _ h => h)
    (fun r _ h => flmReport_replayDone h r) done

theorem replayDone_closed : SignalClosed fun t => t.flm.replayDone = true where
  drawn _ h := h
  setSlot _ _ _ h := h
  setSvc _ _ h := h
  opu _ _ h := h
  notice _ _ h := h
  noticeOn p _ _ h := by cases p <;> exact h
  evaluate r s h := by
    unfold wreEvaluate
    split
    · exact wreEvent_replayDone h _
    · exact h
  release i s h := by
    unfold wreRelease
    split
    · exact wreEvent_replayDone h _
    · exact h
  report r _ h := flmReport_replayDone h r

theorem replayDone_doors : DoorClosed fun t => t.flm.replayDone = true where
  toSignalClosed := replayDone_closed
  setDoor _ _ _ h := h
  putLatch _ _ h := h
  activity s h := by
    unfold pwcActivity
    split <;> exact h

theorem exit_replayDone : ExitClosed fun t => t.flm.replayDone = true where
  drawn _ h := h
  power _ _ h := h
  table s h := by
    unfold tableEvent
    refine deliverAll_induct (P := fun t => t.flm.replayDone = true) (fun _ h => h) (fun e he u hu => ?_) h
    simp only [List.mem_cons, List.not_mem_nil, or_false] at he
    rcases he with rfl | rfl
    · unfold wreTable
      generalize allRules = rules
      exact wreEvent_replayDone hu _
    · exact hu
  channels _ h := h
  doors _ h := replayDone_doors.start h

/-- Where no rule reports and no door is present, the exit from START leaves Fault Memory. -/
theorem exit_quiet {c : Calibration} (silent : c.reportless) (noDoor : ∀ d : Fin 4, c.doors[d].present = false)
    (f : Flm) : ExitClosed fun t => t.cal = c ∧ t.flm = f where
  drawn _ h := h
  power p s h := ⟨(cal_of_outside (opuPower_outsideSignals p s)).trans h.1, h.2⟩
  table s h := by
    obtain ⟨cal, flm⟩ := tableEvent_quiet silent h.1
    exact ⟨cal, flm.trans h.2⟩
  channels _ h := h
  doors s h := by
    have none : s.cal.presentDoors = [] := by
      unfold Calibration.presentDoors
      rw [h.1, List.filter_eq_nil_iff]
      exact fun d _ => by rw [noDoor d]; exact nofun
    unfold drsStart
    rw [none]
    exact h

/-! ## The quiet time -/

theorem exit_awake {b : State} (quiet : b.pwc.quiet = false)
    (timer : b.pwc.quietTimer = startTimer b.pwc.uptime 10000) :
    ExitClosed fun t => t.pwc.awake = b.pwc.awake where
  drawn _ h := h
  power p s h := (awake_channels b).opu _ _ h
  table s h := by
    have pwc := congrArg (fun u : State => u.pwc.awake) (tableEvent_outsideSignals s)
    exact Eq.trans pwc h
  channels _ h := (awake_channels b).start h
  doors _ h := (awake_doors quiet timer).start h

end Sys2Proof.Machine
end

section
/-! SUPPORT. The end of START (R203): what its exit makes of the state, and what START as a whole leaves. -/

namespace Sys2Proof.Machine

open Sys2Proof.Claims

/-- The power state that follows the ignition state (R203). -/
def powerOf (ignition : Bool) : PowerState := if ignition then .run else .afterrun

/-- The part outside the deliveries, with another power state. -/
def State.exited (s : State) (p : PowerState) : State :=
  { s.outsideDeliveries with pwc := { s.outsideDeliveries.pwc with power := p } }

theorem power_exited (s : State) (p : PowerState) : (s.exited p).pwc.power = p := by
  unfold State.exited
  rfl

theorem power_outsideDeliveries (s : State) : s.outsideDeliveries.pwc.power = s.pwc.power := by
  unfold State.outsideDeliveries State.outsideDoors State.outsideSignals State.outsideWarnings State.outsideFaults
    State.outsideRequests
  rfl

theorem power_of_exited {s t : State} {p : PowerState} (h : t.outsideDeliveries = s.exited p) : t.pwc.power = p := by
  rw [← power_outsideDeliveries, h, power_exited]

/-- Where SLEEP cannot be entered, the store idle condition alone changes (R206). -/
theorem handStoreIdle_stays {t : State} (h : t.pwc.power ≠ .afterrun ∨ t.pwc.quiet = false) :
    handStoreIdle t = t.setPwc { t.pwc with storeIdle := t.storeIdle } := by
  rcases h with power | quiet
  · unfold handStoreIdle
    dsimp only
    split
    · next same =>
      rw [same]
      rfl
    · split
      · exact sleepDecision_stays (.inl power)
      · rfl
  · exact handStoreIdle_of_restless quiet

/-- What the exit from START makes of a state (R203). -/
structure Exited (s t : State) : Prop where
  outside : t.outsideDeliveries = s.exited (powerOf s.pwc.ignition)
  roles : t.roles = s.roles
  cycles : t.doorCycles = s.doorCycles
  svc : s.svc = svcReset → t.svc = svcReset
  done : s.flm.replayDone = true → t.flm.replayDone = true
  bindings : t.bindings = s.bindings
  source : ∀ i, (s.bindings i).1 = .sender → t.source i = s.source i
  quiet : s.cal.reportless → (∀ d : Fin 4, s.cal.doors[d].present = false) → t.flm = s.flm

section

variable {s : State}

theorem exitEntered_outside (s : State) : (exitEntered s).outsideDeliveries = s.exited (powerOf s.pwc.ignition) := by
  unfold exitEntered
  cases s.pwc.ignition <;> rfl

/-- The entry keeps what neither power, quiet time nor notices decide. -/
theorem exitEntered_keeps {α : Type} (view : State → α) (pwc : ∀ x u, view (State.setPwc u x) = view u)
    (notice : ∀ f u, view (State.notice u f) = view u) (s : State) : view (exitEntered s) = view s := by
  unfold exitEntered toAfterrun powerTo
  split
  · rw [notice, pwc]
  · rw [notice, pwc, pwc]

theorem exitDelivered_restless (s : State) :
    (exitDelivered s).pwc.power ≠ .afterrun ∨ (exitDelivered s).pwc.quiet = false := by
  cases ignition : s.pwc.ignition with
  | true =>
    have outside := (exit_outside _).delivered (exitEntered_outside s)
    rw [ignition] at outside
    exact .inl (by rw [power_of_exited outside]; exact nofun)
  | false =>
    have entered : exitEntered s = toAfterrun s := by rw [exitEntered, ignition]; rfl
    have awake := (exit_awake (b := exitEntered s) (by rw [entered]; rfl) (by rw [entered]; rfl)).delivered
      (s := s) rfl
    rw [entered] at awake
    exact .inr (congrArg Pwc.quiet awake :)

theorem startExit_exits (s : State) : Exited s (startExit s) := by
  have roles : (exitEntered s).roles = s.roles := exitEntered_keeps State.roles (fun _ _ => rfl) (fun _ _ => rfl) s
  have cycles : (exitEntered s).doorCycles = s.doorCycles :=
    exitEntered_keeps State.doorCycles (fun _ _ => rfl) (fun _ _ => rfl) s
  have svc : (exitEntered s).svc = s.svc := exitEntered_keeps State.svc (fun _ _ => rfl) (fun _ _ => rfl) s
  have flm : (exitEntered s).flm = s.flm := exitEntered_keeps State.flm (fun _ _ => rfl) (fun _ _ => rfl) s
  have cal : (exitEntered s).cal = s.cal := exitEntered_keeps State.cal (fun _ _ => rfl) (fun _ _ => rfl) s
  have source : (exitEntered s).source = s.source := exitEntered_keeps State.source (fun _ _ => rfl) (fun _ _ => rfl) s
  have bindings : (exitEntered s).bindings = s.bindings := by unfold State.bindings; rw [source]
  have restless := exitDelivered_restless s
  have delivered : Exited s (exitDelivered s) :=
    { outside := (exit_outside _).delivered (exitEntered_outside s)
      roles := (exit_roles _).delivered roles
      cycles := (exit_cycles _).delivered cycles
      svc := fun off => exit_svc.delivered (svc.trans off)
      done := fun done => exit_replayDone.delivered (by rw [flm]; exact done)
      bindings := (exit_bindings _).delivered bindings
      source := fun i sender => ((exit_source (b := s) (i := i) (fun _ => by
        rintro same
        rw [same] at sender
        cases sender) (by
        rintro same
        rw [same] at sender
        cases sender)).delivered ⟨bindings, congrFun source i⟩).2
      quiet := fun silent noDoor => ((exit_quiet silent noDoor s.flm).delivered ⟨cal, flm⟩).2 }
  rw [startExit_eq]
  generalize exitDelivered s = t at restless delivered ⊢
  rw [handStoreIdle_stays restless]
  exact ⟨delivered.outside, delivered.roles, delivered.cycles, delivered.svc, delivered.done, delivered.bindings,
    delivered.source, delivered.quiet⟩

end

end Sys2Proof.Machine
end

section
/-! SUPPORT. START as a whole (R203): the state that a power-on and a pin reset leave. -/

namespace Sys2Proof.Machine

open Sys2Proof.Claims

/-- What no delivery alters of the store, of the ports and of the power controller, but for its power state. -/
def State.lasting (s : State) : Rst × Ptu × Pwc := ({ s.rst with queue := [] }, s.ptu.unflagged,
  { s.pwc with power := .start, storeIdle := true, quiet := false, quietTimer := none })

section

variable {s t : State}

theorem lasting_exited (s : State) (p : PowerState) : (s.exited p).lasting = s.lasting := by
  unfold State.lasting State.exited State.outsideDeliveries State.outsideDoors State.outsideSignals
    State.outsideWarnings State.outsideFaults State.outsideRequests
  rfl

theorem lasting_outsideDeliveries (s : State) : s.outsideDeliveries.lasting = s.lasting := by
  unfold State.lasting State.outsideDeliveries State.outsideDoors State.outsideSignals State.outsideWarnings
    State.outsideFaults State.outsideRequests
  rfl

theorem undelivered_exited (s : State) (p : PowerState) : (s.exited p).undelivered = s.undelivered := by
  unfold State.exited
  exact undelivered_outsideDeliveries s

theorem Exited.lasting (h : Exited s t) : t.lasting = s.lasting := by
  rw [← lasting_outsideDeliveries, h.outside, lasting_exited]

theorem Exited.undelivered (h : Exited s t) : t.undelivered = s.undelivered := by
  rw [← undelivered_outsideDeliveries, h.outside, undelivered_exited]

theorem Exited.power (h : Exited s t) : t.pwc.power = powerOf s.pwc.ignition :=
  power_of_exited h.outside

theorem lasting_of_outsideFaults (h : t.outsideFaults = s.outsideFaults) : t.lasting = s.lasting :=
  (congrArg State.lasting h :)

/-- START as a whole: up to the fault replay, the replay, and the exit (R203). -/
structure Started (s : State) (raw : Conversions) (u v t : State) : Prop where
  unreplayed : Unreplayed s raw u
  replayed : Replayed s u v
  exited : Exited v t

theorem startUp_started (h : AtReset s) (raw : Conversions) : ∃ u v, Started s raw u v (startUp raw s) := by
  have unreplayed := start_unreplayed h raw
  have whole : startUp raw s = startExit (replayFaults
      (drsInit (ccuInit (restoreCounters (sampleSenders raw (loadCalibration (startScan s))))))) := rfl
  rw [whole]
  exact ⟨_, _, unreplayed, replayFaults_replays unreplayed, startExit_exits _⟩

/-- What START only reads: the power controller's levels and times, the array, the controller and the ports. -/
def State.readings (s : State) : (Time × Bool × Bool × Bool × Nat) × Flash × Controller × Ptu :=
  ((s.pwc.uptime, s.pwc.held, s.pwc.rstrun, s.pwc.ignition, s.pwc.ignitionDisagreement), s.rst.flash, s.rst.controller,
    s.ptu.unflagged)

theorem readings_of_lasting (h : t.lasting = s.lasting) : t.readings = s.readings :=
  congrArg (fun x : Rst × Ptu × Pwc =>
    ((x.2.2.uptime, x.2.2.held, x.2.2.rstrun, x.2.2.ignition, x.2.2.ignitionDisagreement), x.1.flash, x.1.controller,
      x.2.1)) h

theorem readings_of_basis (h : t.basis = s.basis) : t.readings = s.readings := by
  have same := congrArg State.readings h
  exact same

namespace Started

variable {raw : Conversions} {u v : State} (h : Started s raw u v t)
include h

theorem lasting : t.lasting = u.lasting := h.exited.lasting.trans (lasting_of_outsideFaults h.replayed.outside)

theorem readings : t.readings = s.readings :=
  (readings_of_lasting h.lasting).trans (readings_of_basis h.unreplayed.basis)

theorem undelivered : t.undelivered = u.undelivered := by
  have outside := h.replayed.outside
  have same : v.undelivered = u.undelivered := (congrArg State.undelivered outside :)
  exact h.exited.undelivered.trans same

theorem power : t.pwc.power = powerOf s.pwc.ignition := by
  have ignition : v.pwc.ignition = s.pwc.ignition :=
    congrArg (fun x => x.1.2.2.2.1) ((readings_of_lasting (lasting_of_outsideFaults h.replayed.outside)).trans
      (readings_of_basis h.unreplayed.basis))
  rw [h.exited.power, ignition]

theorem svc (off : s.svc = svcReset) : t.svc = svcReset := by
  refine h.exited.svc ?_
  have replay : v.svc = u.svc := (congrArg State.svc h.replayed.outside :)
  have basis : u.svc = s.svc := (congrArg State.svc h.unreplayed.basis :)
  rw [replay, basis, off]

theorem replayDone : t.flm.replayDone = true := h.exited.done h.replayed.done

theorem cal : t.cal = u.cal := congrArg Prod.fst h.undelivered

theorem senders : t.senders = u.senders := congrArg (fun x => x.2.2.2.2.2) h.undelivered

/-- The store is as the scan and the load left it, but for its queue. -/
theorem store : { t.rst with queue := [] } = { u.rst with queue := [] } := congrArg Prod.fst h.lasting

theorem restoredCounts : t.restoredCounts = u.restoredCounts := by
  have outside := h.replayed.outside
  have roles : t.roles = u.roles := h.exited.roles.trans (congrArg State.roles outside :)
  have cycles : t.doorCycles = u.doorCycles := h.exited.cycles.trans (congrArg State.doorCycles outside :)
  have ignition : t.pwc.ignitionCycles = u.pwc.ignitionCycles := congrArg (fun x => x.2.2.ignitionCycles) h.lasting
  have newest : t.rst.newestCounter = u.rst.newestCounter := (congrArg Rst.newestCounter h.store :)
  have next : t.rst.nextCounterSeq = u.rst.nextCounterSeq := (congrArg Rst.nextCounterSeq h.store :)
  have odometer : t.ccu.odometer = u.ccu.odometer := congrArg (fun x => x.2.1) roles
  have hours : t.ccu.hours = u.ccu.hours := congrArg (fun x => x.2.2) roles
  unfold State.restoredCounts
  rw [odometer, hours, cycles, ignition, newest, next]

end Started

end

end Sys2Proof.Machine
end

section
/-! SUPPORT. What START leaves as the specification finds it (R33, R170 to R173). -/

namespace Sys2Proof.Machine

open Sys2Proof.Claims

section

variable {s t u v : State} {raw : Conversions}

/-! ## The scan -/

theorem scannedStates_iff (r : Rst) (a : Area) : (∀ b, areaOf b = a → r.flash.programmed b 63 = true) ↔ (match a with
    | .calibration => (scannedStates r.scan).calibration
    | .counters => (scannedStates r.scan).counters
    | .faults => (scannedStates r.scan).faults) = true := by
  rw [← scan_allBad_iff]
  generalize r.scan = q
  cases a <;> exact Iff.rfl

theorem scannedStore_flash (s : State) : (scannedStore s).flash = s.rst.flash := by
  unfold scannedStore Rst.scan
  rfl

namespace Started

variable (h : Started s raw u v t)
include h

theorem blocks : t.rst.blocks = (scannedStore s).afterLoad.blocks :=
  (congrArg Rst.blocks h.store :).trans h.unreplayed.blocks

theorem readOnly : t.rst.readOnly = scannedStates s.rst.scan :=
  (congrArg Rst.readOnly h.store :).trans h.unreplayed.readOnly

theorem standing (b : Fin 16) : Standing s.rst.flash b t.rst.blocks[b] := by
  rw [h.blocks, ← scannedStore_flash s]
  exact afterLoad_standing (scannedStore_asScanned s) b

theorem scanned : Scanned s.rst.flash t := by
  refine scanned_of_standing h.standing ((congrArg Rst.nextBlockSeq h.store :).trans h.unreplayed.nextBlock) fun a => ?_
  rw [h.readOnly]
  exact scannedStates_iff s.rst a

/-! ## The senders -/

theorem bindings : t.bindings = u.bindings :=
  h.exited.bindings.trans (bindings_of_slots (slots_of_outsideFaults h.replayed.outside))

theorem sender_used (n : Fin 8) (used : t.cal.senderInUse n = true) : t.senders[n].filtered = some raw[n]
    ∧ t.senders[n].outOfRange = false
    ∧ ∀ i, t.bindings i = (.sender, sourceOf n) → (t.source i).liveStatus = .valid := by
  rw [h.cal] at used
  obtain ⟨filtered, inRange, valid⟩ := h.unreplayed.used n used
  rw [h.senders]
  refine ⟨filtered, inRange, fun i bound => ?_⟩
  rw [h.bindings] at bound
  have slots := slots_of_outsideFaults h.replayed.outside
  have sender : (v.bindings i).1 = .sender := by rw [bindings_of_slots slots, bound]
  rw [h.exited.source i sender, State.source_of_slots slots]
  exact valid i bound

theorem sender_unused (n : Fin 8) (unused : t.cal.senderInUse n = false) : t.senders[n] = senderReset := by
  rw [h.cal] at unused
  rw [h.senders]
  exact h.unreplayed.unused n unused

/-! ## The calibration -/

theorem calibration : t.cal = ((scannedStore s).loading.map Prod.snd).getD Calibration.factory :=
  h.cal.trans h.unreplayed.cal

theorem calLoaded : t.calLoaded = (scannedStore s).loading.isSome :=
  (congrArg (fun x => x.2.1) h.undelivered).trans h.unreplayed.calLoaded

/-- Where no rule reports and no door is present, Fault Memory is as the replay leaves it. -/
theorem flm (silent : t.cal.reportless) (noDoor : ∀ d : Fin 4, t.cal.doors[d].present = false) : t.flm = v.flm := by
  have cal : v.cal = t.cal := (congrArg State.cal h.replayed.outside :).trans h.cal.symm
  exact h.exited.quiet (by rw [cal]; exact silent) (by rw [cal]; exact noDoor)

end Started

theorem factory_reportless : Calibration.factory.reportless := fun _ => by
  unfold Calibration.factory
  rw [Fin.getElem_fin, Vector.getElem_replicate]
  rfl

theorem factory_noDoor (d : Fin 4) : Calibration.factory.doors[d].present = false := by
  unfold Calibration.factory
  rw [Fin.getElem_fin, Vector.getElem_replicate]
  rfl

theorem loadSource_iff {f : Flash} {b : Fin 16} : LoadSource f b ↔ (b = 0 ∧ ¬f.read (64 * (0 : Fin 16).val + 63) ≠ none)
    ∨ (b = 1 ∧ f.read (64 * (0 : Fin 16).val + 63) ≠ none ∧ ¬f.read (64 * (1 : Fin 16).val + 63) ≠ none) := by
  have first := programmed_iff f 0 63
  have second := programmed_iff f 1 63
  unfold LoadSource
  rw [first, second]
  rfl

theorem area_report {r : Rst} {a : Area} (bad : r.allBad a = true) :
    Report.occurrence (storeCode a) .store ∈ areaReports r a := by
  rw [areaReports, if_pos bad]
  exact List.mem_singleton_self _

/-! ## The faults that START reports -/

/-- The reports by what START finds (R167, R170 to R172). -/
theorem mem_startReports (s : State) :
    ((scannedStore s).loading = none → Report.occurrence 0xE400#16 .calibration ∈ startReports s)
      ∧ (newestOf s.rst.flash s.rst.flash.counters = none → Report.occurrence 0xE310#16 .store ∈ startReports s)
      ∧ ((scannedStates s.rst.scan).calibration = true → Report.occurrence 0xE300#16 .store ∈ startReports s)
      ∧ ((scannedStates s.rst.scan).counters = true → Report.occurrence 0xE301#16 .store ∈ startReports s)
      ∧ ((scannedStates s.rst.scan).faults = true → Report.occurrence 0xE302#16 .store ∈ startReports s) := by
  unfold startReports scanReports
  generalize s.rst.scan = r
  refine ⟨fun none => ?_, fun none => ?_, fun bad => ?_, fun bad => ?_, fun bad => ?_⟩
  · rw [none]
    exact List.mem_append_left _ (List.mem_append_right _ (List.mem_singleton_self _))
  · rw [none]
    exact List.mem_append_right _ (List.mem_singleton_self _)
  · exact List.mem_append_left _ (List.mem_append_left _ (List.mem_append_left _ (List.mem_append_left _
      (area_report (a := .calibration) bad))))
  · exact List.mem_append_left _ (List.mem_append_left _ (List.mem_append_left _ (List.mem_append_right _
      (area_report (a := .counters) bad))))
  · exact List.mem_append_left _ (List.mem_append_left _ (List.mem_append_right _ (area_report (a := .faults) bad)))

/-- START reports nothing where it finds everything (R167, R170 to R172). -/
theorem startReports_nil (loaded : (scannedStore s).loading.isSome = true)
    (found : newestOf s.rst.flash s.rst.flash.counters ≠ none)
    (normal : scannedStates s.rst.scan = ⟨false, false, false⟩) :
    startReports s = [] := by
  obtain ⟨x, loading⟩ := Option.isSome_iff_exists.mp loaded
  obtain ⟨y, newest⟩ := Option.ne_none_iff_exists'.mp found
  obtain ⟨calibration, counters, faults⟩ := StoreStates.mk.inj normal
  unfold startReports scanReports areaReports
  rw [loading, newest, calibration, counters, faults]
  rfl

end

end Sys2Proof.Machine
end

section
/-! SUPPORT. A power-on and a pin reset (R203): the calibration, the Fault List and the counts that START leaves. -/

namespace Sys2Proof.Machine

open Sys2Proof.Claims

section

variable {s t u v : State} {raw : Conversions}

namespace Started

variable (h : Started s raw u v t)
include h

theorem store_blocks : u.rst.blocks = t.rst.blocks := (congrArg Rst.blocks h.store :).symm

theorem flash : u.rst.flash = s.rst.flash := congrArg (fun x => x.2.1) (readings_of_basis h.unreplayed.basis)

/-- Without an OPEN block the replay finds no record. -/
theorem replayList_none (closed : ∀ b : Fin 16, 6 ≤ b.val → t.rst.blocks[b].state ≠ .blockOpen) :
    u.rst.replayList = [] := by
  rw [← h.store_blocks] at closed
  exact Machine.replayList_none closed

theorem replayList_open {b : Fin 16} (fault : 6 ≤ b.val) (opens : t.rst.blocks[b].state = .blockOpen) :
    u.rst.replayList = let l := (((List.range t.rst.blocks[b].writePoint).drop 1).filterMap
        (recordAt s.rst.flash b)).foldl replayRecord []
      trimReplay l.length l := by
  rw [← h.store_blocks] at opens ⊢
  refine Machine.replayList_open h.flash (fun c area => ?_) fault opens
  rw [h.unreplayed.blocks, ← scannedStore_flash s]
  exact afterLoad_other (scannedStore_asScanned s) (by rw [area]; exact nofun)

theorem taken {b : Fin 16} {c : Calibration} (source : LoadSource s.rst.flash b) (image : ImageIn s.rst.flash b c) :
    t.cal = c ∧ t.calLoaded = true ∧ t.rst.blocks[b].state = .blockOpen := by
  rw [← scannedStore_flash s] at source image
  have loading := (loading_eq_some (scannedStore_asScanned s)).mpr ⟨source, image⟩
  refine ⟨?_, ?_, ?_⟩
  · rw [h.calibration, loading]
    rfl
  · rw [h.calLoaded, loading]
    rfl
  · rw [h.blocks]
    exact afterLoad_taken loading

/-- With the factory default no calibration block is OPEN. -/
theorem defaulted (none : (scannedStore s).loading = none) : t.cal = Calibration.factory ∧ t.calLoaded = false
    ∧ ∀ b, areaOf b = .calibration → t.rst.blocks[b].state ≠ .blockOpen := by
  refine ⟨?_, ?_, fun b calibration => ?_⟩
  · rw [h.calibration, none]
    rfl
  · rw [h.calLoaded, none]
    rfl
  · rw [h.blocks, afterLoad_none none, scannedStore_asScanned s b]
    exact scanState_calibration calibration

theorem calibrationLoaded : CalibrationLoaded s.rst.flash t := by
  refine ⟨fun b c source image => h.taken (loadSource_iff.mpr source) image, fun absent => ?_⟩
  have none : (scannedStore s).loading = none := by
    rw [loading_eq_none (scannedStore_asScanned s), scannedStore_flash]
    exact fun b c source => absent b c (loadSource_iff.mp source)
  obtain ⟨cal, loaded, closed⟩ := h.defaulted none
  refine ⟨cal, loaded, closed 0 (by decide), closed 1 (by decide), fun unopened => ?_⟩
  have flm : t.flm = v.flm :=
    h.flm (by rw [cal]; exact factory_reportless) (by rw [cal]; exact factory_noDoor)
  have stored := h.replayed.stored (h.replayList_none unopened)
  obtain ⟨default, uncounted, calibration, counters, faults⟩ := mem_startReports s
  rw [flm, h.readOnly]
  exact ⟨stored _ _ (default none), fun missing => stored _ _ (uncounted (newestOf_eq_none.mpr missing)),
    fun bad => stored _ _ (calibration bad), fun bad => stored _ _ (counters bad), fun bad => stored _ _ (faults bad)⟩

theorem faultsReplayed : FaultsReplayed s.rst.flash t := by
  rintro loaded ⟨b, k, n, x, found⟩ normal silent noDoor
  rw [h.calLoaded] at loaded
  rw [h.readOnly] at normal
  have quiet : t.flm = replayedFlm u.rst.replayList := (h.flm silent noDoor).trans
    (h.replayed.silent (startReports_nil loaded (fun none => newestOf_eq_none.mp none b k n x found) normal))
  rw [quiet]
  refine ⟨rfl, rfl, rfl, fun b fault opens => ?_, fun closed => ?_⟩
  · rw [h.replayList_open fault opens]
    rfl
  · rw [h.replayList_none closed]
    rfl

theorem counts : t.restoredCounts = countsOf (newestOf s.rst.flash s.rst.flash.counters) :=
  h.restoredCounts.trans h.unreplayed.counts

end Started

theorem Started.levels (h : Started s raw u v t) : t.supply = s.supply ∧ t.pins = s.pins ∧ t.pending = s.pending := by
  have basis := h.unreplayed.basis
  have pins : u.pins = s.pins := (congrArg State.pins basis :)
  have supply : u.supply = s.supply := (congrArg State.supply basis :)
  have pending : u.pending = s.pending := (congrArg State.pending basis :)
  have same := h.undelivered
  exact ⟨(congrArg (fun x => x.2.2.2.1) same).trans supply, (congrArg (fun x => x.2.2.1) same).trans pins,
    (congrArg (fun x => x.2.2.2.2.1) same).trans pending⟩

/-- A port record that is as after reset but for its flags holds nothing. -/
theorem record_idle {x : PortRecord} {mask : Notices} (h : x.unflagged = (portReset mask).unflagged) :
    x.state = .idle ∧ x.dropMark = false ∧ x.transaction = none :=
  ⟨(congrArg PortRecord.state h :), (congrArg PortRecord.dropMark h :), (congrArg PortRecord.transaction h :)⟩

theorem port_idle (reset : t.ptu.unflagged = ptuReset.unflagged) (p : Port) :
    (t.port p).state = .idle ∧ (t.port p).dropMark = false ∧ (t.port p).transaction = none := by
  cases p
  · exact record_idle (congrArg Ptu.cluster reset)
  · exact record_idle (congrArg Ptu.body reset)
  · exact record_idle (congrArg Ptu.service reset)

theorem ramReset_readings (pins : PinLevels) (held : Bool) (s : State) : (ramReset pins held s).readings
    = ((0, held, pins.rstrun, pins.ign, 0), s.abandonFlash.rst.flash, .idle, ptuReset.unflagged) := rfl

theorem ramReset_pins (pins : PinLevels) (held : Bool) (s : State) : (ramReset pins held s).supply = true
    ∧ (ramReset pins held s).pins = pins ∧ (ramReset pins held s).pwc.ignition = pins.ign := ⟨rfl, rfl, rfl⟩

theorem exec_powerOn (pins : PinLevels) (raw : Conversions) (s : State) :
    exec (.powerOn ⟨pins, raw⟩) s = .next (startUp raw (ramReset pins false s)) := rfl

theorem exec_pinReset (pins : PinLevels) (raw : Conversions) {s : State} (supply : s.supply = true) :
    exec (.pinReset ⟨pins, raw⟩) s = .next (startUp raw (ramReset pins true s)) := by
  show act s (resetFalls ⟨pins, raw⟩) = _
  rw [act_supplied supply]
  rfl

theorem ramReset_pending (pins : PinLevels) (held : Bool) (s : State) : (ramReset pins held s).pending = s.pending := by
  have kept : s.abandonFlash.pending = s.pending := by
    unfold State.abandonFlash
    split <;> rfl
  exact kept

/-- The counts of the newest record, in the words of the specification (R171). -/
theorem restored_some {x : FoundCounter} (h : t.restoredCounts = countsOf (some x)) :
    t.ccu.odometer = ⟨x.values.odometer, 0⟩ ∧ t.ccu.hours = ⟨x.values.hours, 0⟩
      ∧ (∀ d : Fin 4, t.drs.doors[d].cycles = x.values.cycles[d]) ∧ t.pwc.ignitionCycles = x.values.ignition
      ∧ t.rst.newestCounter = some (x.block, x.slot)
      ∧ t.rst.nextCounterSeq = (if x.sequence = BitVec.allOnes 32 then x.sequence else x.sequence + 1) := by
  obtain ⟨odometer, hours, cycles, ignition, newest, next⟩ := RestoredCounts.mk.inj h
  exact ⟨odometer, hours, congrFun cycles, ignition, newest, next⟩

/-- The counts without a record (R171). -/
theorem restored_none (h : t.restoredCounts = countsOf none) :
    t.ccu.odometer = ⟨0, 0⟩ ∧ t.ccu.hours = ⟨0, 0⟩ ∧ (∀ d : Fin 4, t.drs.doors[d].cycles = 0)
      ∧ t.pwc.ignitionCycles = 0 ∧ t.rst.newestCounter = none ∧ t.rst.nextCounterSeq = 1 := by
  obtain ⟨odometer, hours, cycles, ignition, newest, next⟩ := RestoredCounts.mk.inj h
  exact ⟨odometer, hours, congrFun cycles, ignition, newest, next⟩

end

end Sys2Proof.Machine

open Sys2Proof Sys2Proof.Machine Sys2Proof.Claims in
/-- Settles O57: START is followed step by step through what each of its steps alters (`Unreplayed`, `Replayed`,
`Exited`), over what the scan, the load and the counter restore find in the array. -/
theorem powerOnRestoresTheCounts : Obligations.PowerOnRestoresTheCounts := by
  refine ⟨fun f => ⟨fun x found => ⟨counterAt_of_found found, fun b k n v other => ?_⟩, newestOf_eq_none⟩, ?_⟩
  · obtain ⟨sequence, ties⟩ := newest_of_found found other
    have tie {b : Fin 16} {k : Fin 64} {n : BitVec 32} {v : CounterValues} (found : CounterAt f b k n v) :=
      tieSequence_eq (f := f) (areaOf_eq_counters.mpr ⟨found.1, found.2.1⟩)
    rw [tie other, tie (counterAt_of_found found)] at ties
    exact ⟨sequence, ties⟩
  intro s pins senders flash afresh
  have restarted (held : Bool) : afresh (startUp senders (ramReset pins held s)) held := by
    obtain ⟨u, v, h⟩ := startUp_started (atReset_ramReset pins held s) senders
    have array : (ramReset pins held s).rst.flash = flash := rfl
    have off : (ramReset pins held s).svc = svcReset := rfl
    have read := ramReset_readings pins held s
    obtain ⟨supplied, sampled, ign⟩ := ramReset_pins pins held s
    have pends := ramReset_pending pins held s
    generalize startUp senders (ramReset pins held s) = t at h ⊢
    generalize ramReset pins held s = b at h array off read supplied sampled ign pends
    have power := h.power
    rw [ign] at power
    have levels := h.levels
    rw [supplied, sampled, pends] at levels
    have readings := h.readings.trans read
    obtain ⟨times, same, controller, ports⟩ := by simpa only [State.readings, Prod.mk.injEq] using readings
    obtain ⟨uptime, holds, rstrun, ignition, disagreement⟩ := times
    obtain ⟨supply, levels, pending⟩ := levels
    have scanned := h.scanned
    have calibration := h.calibrationLoaded
    have faults := h.faultsReplayed
    have counts := h.counts
    rw [array] at scanned calibration faults counts
    refine ⟨power, uptime, holds, rstrun, ignition, disagreement, supply, levels, pending, same, controller, h.svc off,
      port_idle ports, h.replayDone, scanned, calibration, faults, fun n used => ?_, h.sender_unused, ?_⟩
    · obtain ⟨filtered, inRange, valid⟩ := h.sender_used n used
      exact ⟨filtered, inRange, fun i kind index => valid i (bindings_eq kind index)⟩
    · cases found : newestOf flash flash.counters with
      | some x =>
        rw [found] at counts
        exact restored_some counts
      | none =>
        rw [found] at counts
        exact restored_none counts
  exact ⟨⟨_, exec_powerOn pins senders s, restarted false⟩,
    fun supply => ⟨_, exec_pinReset pins senders supply, restarted true⟩⟩

end
